-- ==== Sys2Proof/Word.lean ====
section
/-!
DEFINITION. The word type of the DV9600 and its plainest arithmetic.

Registers are 32 bits wide and little-endian in memory (R9); memory is addressed in bytes.
A register FIELD is held as the number its bits spell, so field arithmetic is `Nat` arithmetic cut to the field's width.
-/
namespace Sys2Proof

/-- A 32-bit register or memory word (R9). -/
abbrev Word := BitVec 32

/-- One byte of memory. -/
abbrev Byte := BitVec 8

end Sys2Proof
end

