-- ==== Sys2Proof/Syntax.lean ====
section
/-!
DEFINITION. The commands of the block: one constructor per row of the table, with the row's operands.

An index is a `Fin`, a raw register value or converter code a `BitVec`; durations, counts and times are numbers. A command that
states that a time has passed or that a procedure has ended is that statement, made by the world around the model; what its
row requires of the state, its meaning checks.
-/
namespace Sys2Proof

/-! ### Operands -/

/-- Who asks for an access (R14, `SYS_ACC_ERR0.REQ`). `hardware` is a block of the device itself. -/
inductive Requester where
  | scarab        -- the joined pair
  | core0         -- core 0 alone, split (R198)
  | core1         -- core 1 alone, split (R198)
  | app           -- an application core
  | host          -- over PCIe
  | sv            -- the service port
  | ring (r : Fin 32)
  | slice (i : Fin 128) -- a fabric slice, past its streams (R20)
  | hardware
  deriving DecidableEq, Repr, Inhabited

/-- What a CAN controller has received (R342, R353): a data frame, a remote frame, or a frame in which it met an error, by which the
standard raises its receive error counter by so much. -/
inductive RxKind where
  | data | remote
  | error (points : Fin 9)
  deriving DecidableEq, Repr, Inhabited

/-- An attempt to send a frame (R350 to R353): its queue, in units of 100 µs how long after its posting it was taken, and whether it ended
without an error. -/
structure CanAttempt where
  queue : Fin 4
  delay : Nat
  ok : Bool
  deriving DecidableEq, Repr, Inhabited

/-- A look at the deadlines of queue 3 (R350): the controller, and whether the oldest frame of the queue has started. -/
structure BulkCheck where
  ctrl : Fin 8
  started : Bool
  deriving DecidableEq, Repr, Inhabited

/-- A write of a bridge's ENABLE (R307, R321): 0, 1, or 1 in the clock period in which the bridge trips. -/
inductive EnableWrite where
  | off | on | onAsItTrips
  deriving DecidableEq, Repr, Inhabited

/-- An entry of a decoded loaf: the field by its place in `Machine.loafRows`, the entry of the array, and the value. The manual
leaves the byte encoding of the tables to another document (R82), so a load brings the decoded entries with it. -/
structure LoafEntry where
  field : Nat
  index : Nat
  value : Int
  deriving DecidableEq, Repr, Inhabited

/-- What feeds a route of the stream crossbar (R91): the raw samples of a sensor system, a rail return current channel, a
power-measurement channel, the canceller port, an output of a slice, a DMA ring. -/
inductive StreamSource where
  | system (q : Fin 192)
  | rrc (c : Fin 8)
  | pma (c : Fin 48)
  | canceller
  | slice (i : Fin 128) (output : Fin 2)
  | ring (r : Fin 32)
  deriving DecidableEq, Repr, Inhabited

/-- What a route of the crossbar feeds. -/
inductive StreamSink where
  | slice (i : Fin 128) (input : Fin 4)
  | canceller
  | ring (r : Fin 32)
  deriving DecidableEq, Repr, Inhabited

/-- A route of the crossbar (R91, R92). -/
structure Route where
  src : StreamSource
  dst : StreamSink
  deriving DecidableEq, Repr, Inhabited

/-- A slice program of a loaf (R82, R92): its slice and class (`FAB_SLICE_STATE.FUNC`), whether it stands in table 9 or in the
control part, its words and its constants. -/
structure SliceProgram where
  slice : Fin 128
  func : Byte
  safety : Bool
  words : List Word
  constants : List Byte
  deriving DecidableEq, Repr, Inhabited

/-- A half bit period whose level the pads of link `link` bring back inverted in loopback frame `frame` (R254). -/
structure LoopFlip where
  link : Fin 4
  frame : Fin 5
  half : Nat
  deriving DecidableEq, Repr, Inhabited

/-- What reading a range of memory met (R395 to R400): the words that were corrected, with the number of symbols or bits, and those
that could not be; each by a device address of the word that the access reads. -/
structure MemFound where
  corrected : List (Word × Fin 8)
  damaged : List Word
  deriving DecidableEq, Repr, Inhabited

/-- How a flash operation ends (R87): what the read-back compare of a program found, and what the scans of a slot check met. -/
structure FlashEnding where
  verified : Bool
  found : MemFound
  deriving DecidableEq, Repr, Inhabited

/-- What the image check of a rejoin finds (R202): whether the image is wrong, and what its scan met. -/
structure ImageCheck where
  bad : Bool
  found : MemFound
  deriving DecidableEq, Repr, Inhabited

/-- What the word that an access of a core reads is like. -/
inductive WordRead where
  | clean | corrected (syms : Fin 8) | damaged
  deriving DecidableEq, Repr, Inhabited

/-- The shape of an access: its bytes; what its data hold beyond four bytes, for a wider one; and where it reads a word of memory,
what that is like. -/
structure Width where
  bytes : Fin 9
  high : Word
  word : WordRead
  deriving DecidableEq, Repr, Inhabited

/-- Whether the data of a memory read of the service port are ready in time (R429), and what reading them met. -/
structure PortRead where
  ready : Bool
  found : MemFound
  deriving DecidableEq, Repr, Inhabited

/-- The bytes of a memory write of the service port, and what the read of the words written in part met (R396). -/
structure PortWrite where
  bytes : List Byte
  found : MemFound
  deriving DecidableEq, Repr, Inhabited

/-- What a Proof item has found (R52 to R54, R269), by item:
1 both MDLLs lock-qualified; 2 the SRAM march; 3 the deviation of the RC oscillator in 0.01 %, whether the 32.768 kHz crystal
runs, and its deviation in ppm; 4 the known-answer check of bank S, the boot images, and what the scans met; 5 the decoded tables,
slice programs and crossbar routes, and what the scan of the safety part met; 6 the failing injection, set and index, if one failed; 7 whether every DRAM word
could be read, and the words that could not (R397); 8 the bandgap; of sensor
systems and rail return current channels that did not convert the reference levels exactly, the 24 codes (R104: full rate, then
low; +0.750 V, 0 V, -0.750 V; four each); of power-measurement channels that did not, the 12 codes of the same levels and whether the
comparator reported every crossing (R324); the strings whose reference check failed, and whether a metering spare failed (R330); 9 the levels
that came back inverted, and the links whose fail-safe detection read idle with the transmitter stopped (bit l); 10 the readbacks that were not those of a sound channel; 11 and 12 nothing of their own. -/
inductive ItemResult where
  | clocks (ok : Bool)
  | sram (ok : Bool)
  | crossCheck (rcDev : BitVec 16) (fxRuns : Bool) (fxDev : BitVec 16)
  | flash (kat boot : Bool) (found : MemFound)
  | loaf (entries : List LoafEntry) (programs : List SliceProgram) (routes : List Route) (found : MemFound)
  | weevil (fail : Option (Nat × Nat))
  | dram (ok : Bool) (damaged : List Word)
  | references (bandgap : Bool) (systems : List (Fin 192 × List (BitVec 16)))
      (rrc : List (Fin 8 × List (BitVec 16))) (pma : List (Fin 48 × List (BitVec 16) × Bool))
      (strings : List (Fin 32)) (spareFail : Bool)
  | loopback (flips : List LoopFlip) (idle : BitVec 4)
  | outputs
  | lines
  | results
  deriving DecidableEq, Repr, Inhabited

/-- The wake sources of R73 that have no row of their own. -/
inductive WakeSource where
  | damping | link | servicePort | pcie | clockMonitor
  deriving DecidableEq, Repr, Inhabited

/-- A converter of the head front end: a sensor system at the low or the full rate (R100), or a rail return current channel
(R101). -/
inductive Converter where
  | system (q : Fin 192) (low : Bool)
  | rrc (c : Fin 8)
  deriving DecidableEq, Repr, Inhabited

/-- A fault as the comparator sees it, by the fields of `LKS_FAULT0` and `LKS_FAULT1` (R216). -/
structure LksFault where
  comparator : Bool
  port : Nat
  half : Nat
  inst : Nat
  lane : Nat
  lanes : Nat
  pc : Nat
  deriving DecidableEq, Repr

/-- How the transfer of a descriptor ends apart from faults of translation: completely, at an uncorrectable read after
some bytes, which with `write` is the read of a word that the destination writes in part (R396), at an uncorrectable read of a table entry of level 1 or 2 during a walk, or because the port's block stopped it or its
link went down (R400, R410). -/
inductive DescEnd where
  | all
  | memUncorr (done : Nat) (write : Bool)
  | walkUncorr (done : Nat) (level2 : Bool)
  | portStop (done : Nat)
  | link (done : Nat)
  deriving DecidableEq, Repr, Inhabited

/-- What a service of the descriptor at the queue's head is like: the delay to its first beat, whether it was pre-empted, the words
of memory that its beats met with a correctable error, the bytes a port or the host supplies, how it ends. -/
structure Service where
  delay : Nat
  preempted : Bool
  corrected : List (Word × Fin 8)
  data : List Nat
  ending : DescEnd
  deriving DecidableEq, Repr, Inhabited

/-- An error that a scrubber finds (R397, R398): its address, and the number of symbols corrected, none where it cannot be. -/
structure ScrubError where
  addr : Word
  syms : Option (Fin 8)
  deriving DecidableEq, Repr, Inhabited

/-- A pass of the configuration scrub (R93): the CRC-32C that the store of some slices reads back with, and the errors that the
local memories of some have corrected since the pass before. -/
structure ScrubPass where
  read : List (Fin 128 × Word)
  corrected : List (Fin 128 × Byte)
  deriving DecidableEq, Repr, Inhabited

/-- A digital output pin (R448). -/
inductive OutPin where
  | soh (o : Fin 72) | sol (o : Fin 72)
  | pwmH (m : Fin 36) | pwmL (m : Fin 36)
  | hsup (q : Fin 192)
  | neighbour (l : Fin 4)
  | canTx (k : Fin 8)
  | safeN
  | closePermit
  | serviceIo (i : Fin 4)
  deriving DecidableEq, Repr, Inhabited

/-- The instruction in the test access port (R461): BYPASS, the cores' debug access, or a boundary-scan instruction that controls
output pins, with the levels shifted into cells. -/
inductive TapInstr where
  | bypass | debug
  | boundary (cells : List (OutPin × Bool))
  deriving DecidableEq, Repr, Inhabited

/-- What comes through the test access port (R206, R207, R461): an instruction for the port itself; or what the debugger asks of a
core, core 1 where the flag says so: to halt, to resume, or to read or write what that core may reach. -/
inductive DebugRequest where
  | instruction (i : TapInstr)
  | halt (core1 : Bool)
  | resume (core1 : Bool)
  | read (core1 : Bool) (addr : Word) (size : Width)
  | write (core1 : Bool) (addr : Word) (size : Width) (value : Word)
  deriving DecidableEq, Repr, Inhabited

/-- Where the host reaches for memory over PCIe (R423, R424): the memory window BAR2, the command mailbox BAR4, the configuration
space. -/
inductive HostSpace where
  | window (offset : BitVec 28)
  | mailbox (offset : BitVec 16)
  | config (offset : BitVec 12)
  deriving DecidableEq, Repr, Inhabited

/-- How the endpoint is reset (R427): by a hot reset or a Function Level Reset, or because the link is lost. -/
inductive LinkReset where
  | hotReset | functionLevel | linkLoss
  deriving DecidableEq, Repr, Inhabited

/-- A channel of Pelalmix (R430): PCIe is 0, the service port 1. -/
abbrev Chan := Fin 2

/-! ### The commands -/

/-- The commands, in the order of the table. -/
inductive Instr where
  -- reset, time, modes
  | coldReset
  | warmReset
  | supplyMonitorTrip
  | sysResetReq (key : BitVec 16) (go : Bool)
  | oscillatorQualified (loafSel : BitVec 2)
  | tick (som sov : BitVec 72)
  | cycleBoundary (rcDev fxDev : BitVec 16)
  | controlStep (refs : List (Int × Int))
  | modeReq (ch : Chan) (tag : Byte) (target : Byte)
  | crustChange (word : BitVec 16)
  | proofItemComplete (result : ItemResult)
  | proofTimeout (item : Fin 12)
  | proofTimerHour
  | tProofExpiry
  | autoProofStart (hourOver : Bool)
  | recoveryComplete
  | tRecExpiry
  | dormantWake (source : WakeSource)
  | wakeTimerExpiry
  | wakeComplete
  | thermal
  -- loaves, flash, slices
  | loafSelect (ch : Chan) (tag : Byte) (slot : Byte)
  | flashErase (dst len : Word) (bootUnlock : Bool)
  | flashProgram (src dst len : Word) (bootUnlock : Bool)
  | flashCheckSlot (slot : Word)
  | flashEraseSlot (slot : Word)
  | flashAbort
  | flashOpComplete (units : Nat) (ending : FlashEnding)
  | sliceWatchdog (i : Fin 128)
  | sliceMemUncorr (i : Fin 128)
  | configScrub (pass : ScrubPass)
  -- head front end
  | conversionDone (c : Converter) (code : BitVec 16)
  | conversionMissed (c : Converter)
  | testSlotStart
  | testPulseEnd
  | testRestartCheck
  | testSlotEnd
  | testLate (q : Fin 192)
  | cancellerCorrection (q : Fin 192) (tick : Nat) (correction : BitVec 16)
  | cancellerRequalify (q : Fin 192)
  | recorderEnable
  | recorderArm
  | recorderBlock (lost : Bool)
  -- Chafer
  | chaferTick (h : Fin 96)
  | discrepancyTimeout (h : Fin 96)
  | standing (h : Fin 96)
  | headQuiet (h : Fin 96)
  | recordPost
  -- counting
  | sectionResetSweep (ch : Chan) (tag : Byte) (sec : Byte)
  | sectionResetConfirmed (ch : Chan) (tag : Byte) (sec : Byte)
  | sectionResetConfirm (ch : Chan) (tag : Byte) (sec : Byte) (token : BitVec 16)
  | sectionResetAbort (ch : Chan) (tag : Byte) (sec : Byte)
  | sweepDone (sec : Fin 64)
  | confirmed (sec : Fin 64)
  | tPrepExpiry (sec : Fin 64)
  | tConfMaxExpiry (sec : Fin 64)
  | undercount (sec : Fin 64)
  | linkHoldExpiry (sec : Fin 64)
  | peerDisagree (sec : Fin 64)
  | cntForce (sec : Fin 64)
  -- the Scarab pair
  | lockstep (port : BitVec 3) (half inst : BitVec 2) (lane lanes : Byte) (pc : Word)
  | comparator (port : BitVec 3) (half inst : BitVec 2) (lane lanes : Byte) (pc : Word)
  | heartbeatLoss (y : Bool)
  | debugHalt (request : DebugRequest)
  | split (ch : Chan) (tag : Byte)
  | rejoin (ch : Chan) (tag : Byte) (target : Byte) (weevilFail : Option (Nat × Nat)) (image : ImageCheck)
  -- safety outputs
  | sopCommit (gen : BitVec 16) (us : Nat)
  | sopUnlock (channel : BitVec 7)
  | offPulse (o : Fin 72)
  | offPulseEnd (o : Fin 72) (som sov : Bool)
  | splitSwitchTest (o : Fin 72)
  | splitSwitchTestEnd (o : Fin 72) (somH sovH somL sovL : Bool)
  | outputTestLate (o : Fin 72)
  -- links
  | frameTransmit
  | frameReceived (l : Fin 4) (lead line : List Bool) (afterNs : Nat)
  | frameMissing (l : Fin 4)
  -- check unit
  | chkGo (bank : Fin 2) (tag : BitVec 16) (start : BitVec 2)
  | chkAbort (bank : Fin 2) (entered suspUs : Nat)
  | chkScanComplete (bank : Fin 2) (suspUs : Nat) (found : MemFound)
  -- Leaven
  | start
  | stop
  | abort
  | sync
  | breakerClosed
  | gfeKick
  | supLost
  | setpointWrite (set1 : Bool) (value : Word)
  | blackstartBackoffEnd
  | blackstartRampEnd
  | bsOverload
  | join
  | autoBs
  | frtEnd
  | frtTime
  | freq
  | overvolt
  | dcWindowTimeout (bridge : Fin 12) (high : Bool)
  | autoSync
  | syncGridLost
  | syncTimeout
  | closePermitQualified
  | ffCopy (entered conf eventNs : Nat)
  | ffReservationExpiry
  -- bridges and power measurement
  | dsat (leg : Fin 36) (asserted : Bool)
  | windowCrossing (c : Fin 48) (input : Int)
  | pwmUpdatePoint (bridge : Fin 12) (peak : Bool)
  | stepUpdate (bridge : Fin 12) (duties : Option (BitVec 24 × BitVec 24 × BitVec 24))
  | ditherHop (g : Fin 12)
  | load (bridge : Fin 12) (late : Bool)
  | clrTrip (bridge : Fin 12)
  | bridgeEnable (bridge : Fin 12) (write : EnableWrite)
  | pmaConversion (group : Fin 6) (duringBurst : Bool) (codes : List (BitVec 16))
  -- metering, packs, CAN
  | meterSample (k : Fin 32) (v i : BitVec 24)
  | meterStall (k : Fin 32)
  | ledgerClose
  | ledgerRecordWritten (matching : Bool)
  | ledgerRead (ch : Chan) (tag : Byte) (string max : Byte) (firstSeq : Word)
  | packFrame (ctrl : Fin 8) (ext : Bool) (kind : RxKind) (id : BitVec 29) (data : List Byte)
  | packSilent (k : Fin 32)
  | packMalformedExpiry (k : Fin 32)
  | canTxPost (ctrl : Fin 8) (tag : BitVec 16) (queue : BitVec 2) (len : BitVec 7)
  | canTxAbort (ctrl : Fin 8) (tag : BitVec 16) (stage : Fin 3) (delay : Nat)
  | canTxComplete (ctrl : Fin 8) (attempt : CanAttempt)
  | bulkDeadline (check : BulkCheck)
  | busOff (ctrl : Fin 8)
  | busOffRecovery (ctrl : Fin 8)
  -- clocks
  | strobe (tag : BitVec 16)
  | strobeDrainEnd (drained : Bool)
  | mdllQualified (b : Bool) (us : Nat)
  | mdllLockLoss (b : Bool)
  | periodGuard (b : Bool)
  | clkALoss
  | refLoss
  | referenceRequalified
  | tsUnlock
  | tsQualified
  | fxStop
  | crystalReturn
  | rcStop
  | tsFreqWrite (value : Word)
  -- Ethernet and network time
  | ptpFrameReceived (port : Fin 3) (pinNs : Nat) (frame : List Byte)
  | txTimestamp (port : Fin 3) (msgType : BitVec 4) (seq : BitVec 16) (tag : Byte) (pinNs : Nat)
  | txtsPop (port : Fin 3)
  | syncMeasurement
  | masterLost
  | parentWrite (word : Fin 4) (value : Word)
  | stepArm (ch : Chan) (tag : Byte)
  | armExpiry
  | egressComplete (r : Fin 32) (delayUs : Nat)
  | egressDeadline (r : Fin 32)
  -- memory and rings
  | ringPost (r : Fin 32) (head : BitVec 16)
  | descriptorComplete (r : Fin 32) (service : Service)
  | ringStart (r : Fin 32)
  | ringStop (r : Fin 32)
  | ringResume (r : Fin 32)
  | ringAbort (r : Fin 32) (seq : BitVec 16)
  | ringFlush (r : Fin 32)
  | translationFault (r : Fin 32) (offset : Nat) (write : Bool) (service : Service)
  | classBDeadline (r : Fin 32)
  | iommuInvalidate (scope : BitVec 2) (dom : BitVec 4) (page : BitVec 20)
  | errLogPop
  | dramScrub (errors : List ScrubError)
  | sramScrub (errors : List ScrubError)
  -- host
  | pcieLinkReset (kind : LinkReset)
  | hostMemoryAccess (place : HostSpace) (len : Nat) (write : Option (List Byte)) (late : Bool) (found : MemFound)
  | irqUnmask (vector : Fin 32)
  | summary (ch : Chan) (tag : Byte)
  | snap (ch : Chan) (tag : Byte) (time : Option (Word × BitVec 48))
  | unknownCmd (ch : Chan) (tag : Byte) (code : Byte) (payload : List Byte)
  | commandTimeout (ch : Chan)
  | svStatus
  | svRegRead (addr : Word) (words : Nat)
  | svRegWrite (addr : Word) (values : List Word)
  | svMemRead (addr : Word) (len : Nat) (read : PortRead)
  | svMemWrite (addr : Word) (write : PortWrite)
  | svPost (bytes : List Byte)
  | svReadResponse (len : Nat)
  | svUnknownOpcode (opcode : Byte)
  | svFrameCut (addr : Word) (words : List Word)
  -- Crumb
  | snapTrig
  | timeMatch
  | trigger
  | unlock
  | arm
  | disarm
  -- registers, and the rest
  | registerWrite (req : Requester) (addr : Word) (size : Width) (value : Word)
  | resetRelease
  | registerRead (req : Requester) (addr : Word) (size : Width)
  | ethernetLinkDown (port : Fin 3)
  | sramUncorr (addr : Word)
  deriving DecidableEq, Repr, Inhabited

end Sys2Proof
end

