-- ==== Sys2Proof/Decode.lean ====
section
/-!
DEFINITION. The words of the table's rows. The table gives its rows no bits: a command is not spelled by a word, and its frame
on a link, where it has one, is decoded by the meaning that takes the frame.
-/
namespace Sys2Proof

/-- The command that a word of the table spells. No row has bits, so no word spells one. -/
def decodeTableWord (_nbits _w : Nat) : Option Instr := none

end Sys2Proof
end

