-- ==== Sys2Proof/Machine/Bits.lean ====
section
/-!
DEFINITION. Bit fields, two's complement, saturation and byte order: the helpers every block uses.
-/
namespace Sys2Proof.Machine

/-- The low `w` bits of `v`. -/
def trunc (w v : Nat) : Nat := v % 2 ^ w

/-- Bit `i` of `v`. -/
def bit (v i : Nat) : Bool := v / 2 ^ i % 2 = 1

/-- `true` as 1, `false` as 0: the value of a one-bit field. -/
def b2n (b : Bool) : Nat := if b then 1 else 0

/-- Bits `lo + w - 1 : lo` of `v`. -/
def bits (v lo w : Nat) : Nat := v / 2 ^ lo % 2 ^ w

/-- `v` with bit `i` set to `b`. -/
def setBit (v i : Nat) (b : Bool) : Nat :=
  if bit v i then (if b then v else v - 2 ^ i) else (if b then v + 2 ^ i else v)

/-- The signed number that `w` bits spell in two's complement. -/
def toSigned (w v : Nat) : Int :=
  if v % 2 ^ w < 2 ^ (w - 1) then (v % 2 ^ w : Nat) else (v % 2 ^ w : Nat) - (2 ^ w : Nat)

/-- The `w` bits that spell `i` in two's complement, modulo 2^w. -/
def ofSigned (w : Nat) (i : Int) : Nat := (i % (2 ^ w : Nat)).toNat

/-- `i` clipped to the range of a signed field of `w` bits. -/
def clipSigned (w : Nat) (i : Int) : Int :=
  if i < -(2 ^ (w - 1) : Nat) then -(2 ^ (w - 1) : Nat)
  else if i > (2 ^ (w - 1) : Nat) - 1 then (2 ^ (w - 1) : Nat) - 1 else i

/-- `v` clipped to what an unsigned field of `w` bits holds: a count that saturates. -/
def sat (w v : Nat) : Nat := min v (2 ^ w - 1)

/-- `x` clipped to the closed range `lo … hi`. -/
def clampInt (lo hi x : Int) : Int := if x < lo then lo else if x > hi then hi else x

/-- The number that bytes spell, lowest byte first (R6). -/
def ofBytesLE : List Nat → Nat
  | [] => 0
  | b :: bs => b % 256 + 256 * ofBytesLE bs

/-- The `n` bytes of `v`, lowest byte first (R6). -/
def toBytesLE : Nat → Nat → List Nat
  | 0, _ => []
  | n + 1, v => v % 256 :: toBytesLE n (v / 256)

/-- The number that bytes spell, highest byte first: the order of the fields of a PTP message on the wire. -/
def ofBytesBE (bs : List Nat) : Nat := ofBytesLE bs.reverse

/-- The `n` bytes of `v`, highest byte first. -/
def toBytesBE (n v : Nat) : List Nat := (toBytesLE n v).reverse

/-- How many bits of the low `w` bits of `v` are 1. -/
def popcount : Nat → Nat → Nat
  | 0, _ => 0
  | w + 1, v => v % 2 + popcount w (v / 2)

/-- The map word whose bit `i` is `f (base + i)`, for 32 bits, or fewer where `n` ends earlier. -/
def mapWord (f : Nat → Bool) (base : Nat) : Nat → Nat
  | 0 => 0
  | n + 1 => mapWord f base n + (if f (base + n) then 2 ^ n else 0)

/-- One step of the Galois shift register: right, with the feedback mask 0xD008. -/
def lfsrStep (v : Nat) : Nat := if v % 2 = 1 then Nat.xor (v / 2) 0xD008 else v / 2

/-- `n` steps of the shift register. -/
def lfsrRun : Nat → Nat → Nat
  | 0, v => v
  | n + 1, v => lfsrRun n (lfsrStep v)

/-- The bytes of `bs` from `off`, `n` of them. -/
def slice (bs : List Nat) (off n : Nat) : List Nat := (bs.drop off).take n

/-- The largest integer whose square is at most `n`, by bisection from the given bit downward. -/
def isqrtGo : Nat → Nat → Nat → Nat
  | 0, acc, _ => acc
  | k + 1, acc, n =>
    if (acc + 2 ^ k) * (acc + 2 ^ k) ≤ n then isqrtGo k (acc + 2 ^ k) n else isqrtGo k acc n

/-- The integer square root of a number below 2^128. -/
def isqrt (n : Nat) : Nat := isqrtGo 64 0 n

end Sys2Proof.Machine
end

