-- ==== Sys2Proof/Machine/Mem.lean ====
section
/-!
DEFINITION. Device memory as (address, byte) pairs in one canonical form: the on-die SRAM, the flash and the DRAM at
their device addresses (R393). Addresses strictly rise, and no listed byte equals what its address reads as unlisted.
-/
namespace Sys2Proof.Machine

/-- The memories of R393. -/
inductive MemKind where
  | sram | flash | dram
  deriving DecidableEq, Repr, Inhabited

/-- First device address of each memory. -/
def MemKind.base : MemKind → Nat
  | .sram => 0x20000000
  | .flash => 0x40000000
  | .dram => 0x80000000

/-- Size in bytes of each memory. -/
def MemKind.size : MemKind → Nat
  | .sram => 0x800000
  | .flash => 0x2000000
  | .dram => 0x10000000

/-- The memory that holds device address `a`, if one does. -/
def memKindAt (a : Nat) : Option MemKind :=
  if 0x20000000 ≤ a ∧ a < 0x20800000 then some .sram
  else if 0x40000000 ≤ a ∧ a < 0x42000000 then some .flash
  else if 0x80000000 ≤ a ∧ a < 0x90000000 then some .dram
  else none

/-- What an address reads as that nothing has written: erased flash reads 0xFF, SRAM and DRAM read 0.
DESIGN CHOICE (log 6): the manual gives no contents at power-up. Unsafe. -/
def memDefault (a : Nat) : BitVec 8 := if 0x40000000 ≤ a ∧ a < 0x42000000 then 0xFF else 0

/-- The memory of the device: (address, byte) pairs. -/
abbrev Mem := List Host.Cell

/-- The byte at address `a`. -/
def Mem.read : Mem → Nat → BitVec 8
  | [], a => memDefault a
  | (k, v) :: m, a => if k = a then v else Mem.read m a

/-- The memory with byte `v` at address `a`, in canonical form. -/
def Mem.write : Mem → Nat → BitVec 8 → Mem
  | [], a, v => if v = memDefault a then [] else [(a, v)]
  | (k, w) :: m, a, v =>
    if k = a then (if v = memDefault a then m else (a, v) :: m)
    else if a < k then (if v = memDefault a then (k, w) :: m else (a, v) :: (k, w) :: m)
    else (k, w) :: Mem.write m a v

/-- The canonical form above a given lower bound. -/
def Mem.wfFrom : Nat → Mem → Bool
  | _, [] => true
  | lo, (k, v) :: m => decide (lo ≤ k) && (v != memDefault k) && Mem.wfFrom (k + 1) m

/-- The canonical form: addresses strictly rise and no entry equals what its address reads as unlisted. -/
def Mem.wf (m : Mem) : Bool := Mem.wfFrom 0 m

/-- The `n` bytes from address `a` as numbers. -/
def Mem.readBytes (m : Mem) (a : Nat) : Nat → List Nat
  | 0 => []
  | n + 1 => (m.read a).toNat :: Mem.readBytes m (a + 1) n

/-- The memory with the bytes stored from address `a` upward. -/
def Mem.writeBytes : Mem → Nat → List Nat → Mem
  | m, _, [] => m
  | m, a, b :: bs => Mem.writeBytes (m.write a (BitVec.ofNat 8 b)) (a + 1) bs

/-- The little-endian number of `n` bytes at address `a` (R6). -/
def Mem.readLE (m : Mem) (a n : Nat) : Nat := ofBytesLE (m.readBytes a n)

/-- `n` little-endian bytes of `v` stored at address `a` (R6). -/
def Mem.writeLE (m : Mem) (a n v : Nat) : Mem := m.writeBytes a (toBytesLE n v)

/-- The memory with every byte from `lo` up to (not including) `hi` as an unlisted address reads: erased flash. -/
def Mem.clearRange (m : Mem) (lo hi : Nat) : Mem := m.filter (fun c => decide (c.1 < lo ∨ hi ≤ c.1))

/-- The memory with one of its kinds cleared to what it reads as unwritten. -/
def Mem.clearKind (m : Mem) (k : MemKind) : Mem := m.clearRange k.base (k.base + k.size)

end Sys2Proof.Machine
end

