-- ==== Sys2Proof/Machine/Cells.lean ====
section
/-!
DEFINITION. Sparse data as plain lists of (key, value) pairs with rising keys: register fields, and records by index.
-/
namespace Sys2Proof.Machine

/-- Records of one kind by index; an index not listed holds the default record. -/
abbrev Tab (α : Type) := List (Nat × α)

/-- The entry at key `k`, if one is listed. -/
def lookup {α : Type} : Tab α → Nat → Option α
  | [], _ => none
  | (k', v) :: t, k => if k' = k then some v else lookup t k

/-- The list with `v` at key `k`: replaced where listed, else put before the first greater key. -/
def insert {α : Type} : Tab α → Nat → α → Tab α
  | [], k, v => [(k, v)]
  | (k', v') :: t, k, v =>
    if k' = k then (k, v) :: t
    else if k < k' then (k, v) :: (k', v') :: t
    else (k', v') :: insert t k v

/-- The list without key `k`. -/
def remove {α : Type} (t : Tab α) (k : Nat) : Tab α := t.filter (fun p => !(p.1 == k))

/-- The record at index `k`. -/
def tget {α : Type} [Inhabited α] (t : Tab α) (k : Nat) : α := (lookup t k).getD default

/-- The table with the record at index `k` changed by `f`. -/
def tmod {α : Type} [Inhabited α] (t : Tab α) (k : Nat) (f : α → α) : Tab α := insert t k (f (tget t k))

end Sys2Proof.Machine
end

