-- ==== Sys2Proof/Machine/Fields.lean ====
section
/-!
DEFINITION. What a register and a register field are: place, width, access type and reset value (R9 to R13).
-/
namespace Sys2Proof.Machine

/-- The access types of R11. -/
inductive Acc where
  | ro    -- a write is ignored
  | rw    -- a read returns the value last written
  | wo    -- reads as 0
  | w1c   -- writing 1 clears, writing 0 has no effect
  | w1s   -- writing 1 sets, writing 0 has no effect
  | rc    -- a read clears
  | rws   -- as RW, and kept across a warm reset
  deriving DecidableEq, Repr

/-- A field of a register, or of an array of registers: entry `i` stands at
`base + stride * (i / inner) + istride * (i % inner)`. -/
structure Fld where
  base : Nat
  stride : Nat
  count : Nat
  inner : Nat
  istride : Nat
  lo : Nat
  width : Nat
  acc : Acc
  reset : Nat
  kept : Bool
  deriving DecidableEq, Repr

/-- The address of the register that holds entry `i` of the field. -/
def Fld.addr (f : Fld) (i : Nat) : Nat := f.base + f.stride * (i / f.inner) + f.istride * (i % f.inner)

/-- The key of the field's cell: address and lowest bit. -/
def Fld.key (f : Fld) (i : Nat) : Nat := f.addr i * 32 + f.lo

/-- A register or an array of registers with its fields; reserved bits have no field (R10). -/
structure Reg where
  name : String
  base : Nat
  stride : Nat
  count : Nat
  inner : Nat
  istride : Nat
  fields : List Fld
  deriving DecidableEq, Repr

/-- The address of entry `i`. -/
def Reg.addr (r : Reg) (i : Nat) : Nat := r.base + r.stride * (i / r.inner) + r.istride * (i % r.inner)

/-- The entry of the array that stands at `a`, if one does. -/
def Reg.indexAt (r : Reg) (a : Nat) : Option Nat :=
  if a < r.base then none
  else
    let d := a - r.base
    let i := if r.stride = 0 then 0 else d / r.stride
    let e := d - r.stride * i
    let j := if r.istride = 0 then 0 else e / r.istride
    if j < r.inner ∧ i * r.inner + j < r.count ∧ r.addr (i * r.inner + j) = a then some (i * r.inner + j)
    else none

/-- The first register of the list that stands at `a`, with its entry. -/
def findReg : List Reg → Nat → Option (Reg × Nat)
  | [], _ => none
  | r :: rs, a =>
    match r.indexAt a with
    | some i => some (r, i)
    | none => findReg rs a

end Sys2Proof.Machine
end

