-- ==== Sys2Proof/Machine/RegsChk.lean ====
section
/-!
DEFINITION. The registers of CHK: check unit (R270); `x` is bank S (index 0) or bank A (index 1).

Per field: base, stride, count, inner count, inner stride, lowest bit, width, access, reset value, kept across a warm reset.
-/
namespace Sys2Proof.Machine

/- `CHK_x_ADDR` (R270). -/
def CHK_x_ADDR.ADDR : Fld := ⟨0x60000, 0x100, 2, 1, 0x0, 0, 32, .rw, 0x0, false⟩
def CHK_x_ADDR.reg : Reg := ⟨"CHK_x_ADDR", 0x60000, 0x100, 2, 1, 0x0,
  [CHK_x_ADDR.ADDR]⟩

/- `CHK_x_LEN` (R270). -/
def CHK_x_LEN.LEN : Fld := ⟨0x60004, 0x100, 2, 1, 0x0, 0, 29, .rw, 0x0, false⟩
def CHK_x_LEN.reg : Reg := ⟨"CHK_x_LEN", 0x60004, 0x100, 2, 1, 0x0,
  [CHK_x_LEN.LEN]⟩

/- `CHK_x_RUN` (R270). -/
def CHK_x_RUN.RUN : Fld := ⟨0x60008, 0x100, 2, 1, 0x0, 0, 32, .rw, 0xFFFFFFFF, false⟩
def CHK_x_RUN.reg : Reg := ⟨"CHK_x_RUN", 0x60008, 0x100, 2, 1, 0x0,
  [CHK_x_RUN.RUN]⟩

/- `CHK_x_CTRL` (R270). -/
def CHK_x_CTRL.TAG : Fld := ⟨0x6000C, 0x100, 2, 1, 0x0, 16, 16, .wo, 0x0, false⟩
def CHK_x_CTRL.START : Fld := ⟨0x6000C, 0x100, 2, 1, 0x0, 2, 2, .wo, 0x0, false⟩
def CHK_x_CTRL.ABORT : Fld := ⟨0x6000C, 0x100, 2, 1, 0x0, 1, 1, .wo, 0x0, false⟩
def CHK_x_CTRL.GO : Fld := ⟨0x6000C, 0x100, 2, 1, 0x0, 0, 1, .wo, 0x0, false⟩
def CHK_x_CTRL.reg : Reg := ⟨"CHK_x_CTRL", 0x6000C, 0x100, 2, 1, 0x0,
  [CHK_x_CTRL.TAG, CHK_x_CTRL.START, CHK_x_CTRL.ABORT, CHK_x_CTRL.GO]⟩

/- `CHK_x_RESULT` (R270). -/
def CHK_x_RESULT.GEN : Fld := ⟨0x60010, 0x100, 2, 1, 0x0, 16, 16, .ro, 0x0, false⟩
def CHK_x_RESULT.VALID : Fld := ⟨0x60010, 0x100, 2, 1, 0x0, 15, 1, .ro, 0x0, false⟩
def CHK_x_RESULT.DELAYED : Fld := ⟨0x60010, 0x100, 2, 1, 0x0, 14, 1, .ro, 0x0, false⟩
def CHK_x_RESULT.ABORT_ACK : Fld := ⟨0x60010, 0x100, 2, 1, 0x0, 8, 4, .ro, 0x0, false⟩
def CHK_x_RESULT.STATUS : Fld := ⟨0x60010, 0x100, 2, 1, 0x0, 0, 4, .ro, 0x0, false⟩
def CHK_x_RESULT.reg : Reg := ⟨"CHK_x_RESULT", 0x60010, 0x100, 2, 1, 0x0,
  [CHK_x_RESULT.GEN, CHK_x_RESULT.VALID, CHK_x_RESULT.DELAYED, CHK_x_RESULT.ABORT_ACK, CHK_x_RESULT.STATUS]⟩

/- `CHK_x_CRC` (R270). -/
def CHK_x_CRC.CRC : Fld := ⟨0x60014, 0x100, 2, 1, 0x0, 0, 32, .ro, 0x0, false⟩
def CHK_x_CRC.reg : Reg := ⟨"CHK_x_CRC", 0x60014, 0x100, 2, 1, 0x0,
  [CHK_x_CRC.CRC]⟩

/- `CHK_x_DONE` (R270). -/
def CHK_x_DONE.DONE : Fld := ⟨0x60018, 0x100, 2, 1, 0x0, 0, 29, .ro, 0x0, false⟩
def CHK_x_DONE.reg : Reg := ⟨"CHK_x_DONE", 0x60018, 0x100, 2, 1, 0x0,
  [CHK_x_DONE.DONE]⟩

/- `CHK_x_TAG` (R270). -/
def CHK_x_TAG.TAG : Fld := ⟨0x6001C, 0x100, 2, 1, 0x0, 16, 16, .ro, 0x0, false⟩
def CHK_x_TAG.SUSP_US : Fld := ⟨0x6001C, 0x100, 2, 1, 0x0, 8, 8, .ro, 0x0, false⟩
def CHK_x_TAG.N_BUSY : Fld := ⟨0x6001C, 0x100, 2, 1, 0x0, 0, 8, .rc, 0x0, false⟩
def CHK_x_TAG.reg : Reg := ⟨"CHK_x_TAG", 0x6001C, 0x100, 2, 1, 0x0,
  [CHK_x_TAG.TAG, CHK_x_TAG.SUSP_US, CHK_x_TAG.N_BUSY]⟩

/- `CHK_STATUS` (R270). -/
def CHK_STATUS.KAT_PASS : Fld := ⟨0x60200, 0x0, 1, 1, 0x0, 7, 1, .ro, 0x0, false⟩
def CHK_STATUS.WR_IGN : Fld := ⟨0x60200, 0x0, 1, 1, 0x0, 6, 1, .w1c, 0x0, false⟩
def CHK_STATUS.A_SUSP : Fld := ⟨0x60200, 0x0, 1, 1, 0x0, 3, 1, .ro, 0x0, false⟩
def CHK_STATUS.A_RUN : Fld := ⟨0x60200, 0x0, 1, 1, 0x0, 2, 1, .ro, 0x0, false⟩
def CHK_STATUS.S_OWNER : Fld := ⟨0x60200, 0x0, 1, 1, 0x0, 1, 1, .ro, 0x0, false⟩
def CHK_STATUS.S_RUN : Fld := ⟨0x60200, 0x0, 1, 1, 0x0, 0, 1, .ro, 0x0, false⟩
def CHK_STATUS.reg : Reg := ⟨"CHK_STATUS", 0x60200, 0x0, 1, 1, 0x0,
  [CHK_STATUS.KAT_PASS, CHK_STATUS.WR_IGN, CHK_STATUS.A_SUSP, CHK_STATUS.A_RUN, CHK_STATUS.S_OWNER, CHK_STATUS.S_RUN]⟩

/- `CHK_ERR_ADDR` (R270). -/
def CHK_ERR_ADDR.ADDR : Fld := ⟨0x60204, 0x0, 1, 1, 0x0, 0, 32, .ro, 0x0, false⟩
def CHK_ERR_ADDR.reg : Reg := ⟨"CHK_ERR_ADDR", 0x60204, 0x0, 1, 1, 0x0,
  [CHK_ERR_ADDR.ADDR]⟩

/-- Every register of this file. -/
def regsChk : List Reg :=
  [CHK_x_ADDR.reg, CHK_x_LEN.reg, CHK_x_RUN.reg, CHK_x_CTRL.reg, CHK_x_RESULT.reg, CHK_x_CRC.reg, CHK_x_DONE.reg, CHK_x_TAG.reg, CHK_STATUS.reg, CHK_ERR_ADDR.reg]

end Sys2Proof.Machine
end

