-- ==== Sys2Proof/Machine/RegsClk.lean ====
section
/-!
DEFINITION. The registers of CLK: clocks (R370).

Per field: base, stride, count, inner count, inner stride, lowest bit, width, access, reset value, kept across a warm reset.
-/
namespace Sys2Proof.Machine

/- `CLK_STATUS` (R370). -/
def CLK_STATUS.REF_OK : Fld := ⟨0x10000, 0x0, 1, 1, 0x0, 31, 1, .ro, 0x0, false⟩
def CLK_STATUS.MA_QUAL : Fld := ⟨0x10000, 0x0, 1, 1, 0x0, 30, 1, .ro, 0x0, false⟩
def CLK_STATUS.MB_QUAL : Fld := ⟨0x10000, 0x0, 1, 1, 0x0, 29, 1, .ro, 0x0, false⟩
def CLK_STATUS.TS_QUAL : Fld := ⟨0x10000, 0x0, 1, 1, 0x0, 28, 1, .ro, 0x0, false⟩
def CLK_STATUS.TICK_RC : Fld := ⟨0x10000, 0x0, 1, 1, 0x0, 27, 1, .ro, 0x1, false⟩
def CLK_STATUS.FF_XTAL : Fld := ⟨0x10000, 0x0, 1, 1, 0x0, 26, 1, .ro, 0x0, false⟩
def CLK_STATUS.MB_SEL : Fld := ⟨0x10000, 0x0, 1, 1, 0x0, 25, 1, .ro, 0x0, false⟩
def CLK_STATUS.TICK_REF : Fld := ⟨0x10000, 0x0, 1, 1, 0x0, 24, 1, .ro, 0x0, false⟩
def CLK_STATUS.reg : Reg := ⟨"CLK_STATUS", 0x10000, 0x0, 1, 1, 0x0,
  [CLK_STATUS.REF_OK, CLK_STATUS.MA_QUAL, CLK_STATUS.MB_QUAL, CLK_STATUS.TS_QUAL, CLK_STATUS.TICK_RC, CLK_STATUS.FF_XTAL, CLK_STATUS.MB_SEL, CLK_STATUS.TICK_REF]⟩

/- `CLK_MON` (R370). -/
def CLK_MON.WR_IGN : Fld := ⟨0x10004, 0x0, 1, 1, 0x0, 8, 1, .w1c, 0x0, false⟩
def CLK_MON.FX_STOP : Fld := ⟨0x10004, 0x0, 1, 1, 0x0, 7, 1, .w1c, 0x0, false⟩
def CLK_MON.RC_STOP : Fld := ⟨0x10004, 0x0, 1, 1, 0x0, 6, 1, .w1c, 0x0, false⟩
def CLK_MON.RC_DEV : Fld := ⟨0x10004, 0x0, 1, 1, 0x0, 5, 1, .w1c, 0x0, false⟩
def CLK_MON.REF_DEV : Fld := ⟨0x10004, 0x0, 1, 1, 0x0, 4, 1, .w1c, 0x0, false⟩
def CLK_MON.TS_UNLOCK : Fld := ⟨0x10004, 0x0, 1, 1, 0x0, 3, 1, .w1c, 0x0, false⟩
def CLK_MON.GUARD_B : Fld := ⟨0x10004, 0x0, 1, 1, 0x0, 2, 1, .w1c, 0x0, false⟩
def CLK_MON.GUARD_A : Fld := ⟨0x10004, 0x0, 1, 1, 0x0, 1, 1, .w1c, 0x0, false⟩
def CLK_MON.REF_LOSS : Fld := ⟨0x10004, 0x0, 1, 1, 0x0, 0, 1, .w1c, 0x0, false⟩
def CLK_MON.reg : Reg := ⟨"CLK_MON", 0x10004, 0x0, 1, 1, 0x0,
  [CLK_MON.WR_IGN, CLK_MON.FX_STOP, CLK_MON.RC_STOP, CLK_MON.RC_DEV, CLK_MON.REF_DEV, CLK_MON.TS_UNLOCK, CLK_MON.GUARD_B, CLK_MON.GUARD_A, CLK_MON.REF_LOSS]⟩

/- `CLK_XCHK` (R370). -/
def CLK_XCHK.RC_DEV : Fld := ⟨0x10008, 0x0, 1, 1, 0x0, 16, 16, .ro, 0x0, false⟩
def CLK_XCHK.FX_DEV : Fld := ⟨0x10008, 0x0, 1, 1, 0x0, 0, 16, .ro, 0x0, false⟩
def CLK_XCHK.reg : Reg := ⟨"CLK_XCHK", 0x10008, 0x0, 1, 1, 0x0,
  [CLK_XCHK.RC_DEV, CLK_XCHK.FX_DEV]⟩

/- `CLK_TICK` (R370). -/
def CLK_TICK.CYCLE : Fld := ⟨0x1000C, 0x0, 1, 1, 0x0, 6, 26, .ro, 0x0, false⟩
def CLK_TICK.TICK : Fld := ⟨0x1000C, 0x0, 1, 1, 0x0, 0, 6, .ro, 0x0, false⟩
def CLK_TICK.reg : Reg := ⟨"CLK_TICK", 0x1000C, 0x0, 1, 1, 0x0,
  [CLK_TICK.CYCLE, CLK_TICK.TICK]⟩

/- `CLK_MA_STATUS` (R370). -/
def CLK_MA_STATUS.N_GATE : Fld := ⟨0x10010, 0x0, 1, 1, 0x0, 16, 16, .rc, 0x0, false⟩
def CLK_MA_STATUS.LAST_US : Fld := ⟨0x10010, 0x0, 1, 1, 0x0, 0, 16, .ro, 0x0, false⟩
def CLK_MA_STATUS.reg : Reg := ⟨"CLK_MA_STATUS", 0x10010, 0x0, 1, 1, 0x0,
  [CLK_MA_STATUS.N_GATE, CLK_MA_STATUS.LAST_US]⟩

/- `CLK_MB_SHADOW` (R370). -/
def CLK_MB_SHADOW.SEL : Fld := ⟨0x10020, 0x0, 1, 1, 0x0, 0, 1, .rw, 0x0, false⟩
def CLK_MB_SHADOW.reg : Reg := ⟨"CLK_MB_SHADOW", 0x10020, 0x0, 1, 1, 0x0,
  [CLK_MB_SHADOW.SEL]⟩

/- `CLK_MB_ACTIVE` (R370). -/
def CLK_MB_ACTIVE.SEL : Fld := ⟨0x10024, 0x0, 1, 1, 0x0, 0, 1, .ro, 0x0, false⟩
def CLK_MB_ACTIVE.reg : Reg := ⟨"CLK_MB_ACTIVE", 0x10024, 0x0, 1, 1, 0x0,
  [CLK_MB_ACTIVE.SEL]⟩

/- `CLK_MB_CTRL` (R370). -/
def CLK_MB_CTRL.TAG : Fld := ⟨0x10028, 0x0, 1, 1, 0x0, 16, 16, .wo, 0x0, false⟩
def CLK_MB_CTRL.STROBE : Fld := ⟨0x10028, 0x0, 1, 1, 0x0, 0, 1, .wo, 0x0, false⟩
def CLK_MB_CTRL.reg : Reg := ⟨"CLK_MB_CTRL", 0x10028, 0x0, 1, 1, 0x0,
  [CLK_MB_CTRL.TAG, CLK_MB_CTRL.STROBE]⟩

/- `CLK_MB_RESULT` (R370). -/
def CLK_MB_RESULT.GEN : Fld := ⟨0x1002C, 0x0, 1, 1, 0x0, 16, 16, .ro, 0x0, false⟩
def CLK_MB_RESULT.VALID : Fld := ⟨0x1002C, 0x0, 1, 1, 0x0, 15, 1, .ro, 0x0, false⟩
def CLK_MB_RESULT.STATUS : Fld := ⟨0x1002C, 0x0, 1, 1, 0x0, 0, 4, .ro, 0x0, false⟩
def CLK_MB_RESULT.reg : Reg := ⟨"CLK_MB_RESULT", 0x1002C, 0x0, 1, 1, 0x0,
  [CLK_MB_RESULT.GEN, CLK_MB_RESULT.VALID, CLK_MB_RESULT.STATUS]⟩

/- `CLK_MB_TAG` (R370). -/
def CLK_MB_TAG.TAG : Fld := ⟨0x10040, 0x0, 1, 1, 0x0, 0, 16, .ro, 0x0, false⟩
def CLK_MB_TAG.reg : Reg := ⟨"CLK_MB_TAG", 0x10040, 0x0, 1, 1, 0x0,
  [CLK_MB_TAG.TAG]⟩

/- `CLK_TS_CFG` (R370). -/
def CLK_TS_CFG.DSEED : Fld := ⟨0x10030, 0x0, 1, 1, 0x0, 0, 16, .ro, 0x0, false⟩
def CLK_TS_CFG.reg : Reg := ⟨"CLK_TS_CFG", 0x10030, 0x0, 1, 1, 0x0,
  [CLK_TS_CFG.DSEED]⟩

/- `CLK_TS_FREQ` (R370). -/
def CLK_TS_FREQ.OFFSET : Fld := ⟨0x10034, 0x0, 1, 1, 0x0, 0, 32, .rw, 0x0, false⟩
def CLK_TS_FREQ.reg : Reg := ⟨"CLK_TS_FREQ", 0x10034, 0x0, 1, 1, 0x0,
  [CLK_TS_FREQ.OFFSET]⟩

/- `CLK_TS_APPLIED` (R370). -/
def CLK_TS_APPLIED.OFFSET : Fld := ⟨0x10038, 0x0, 1, 1, 0x0, 0, 32, .ro, 0x0, false⟩
def CLK_TS_APPLIED.reg : Reg := ⟨"CLK_TS_APPLIED", 0x10038, 0x0, 1, 1, 0x0,
  [CLK_TS_APPLIED.OFFSET]⟩

/- `CLK_TS_STATUS` (R370). -/
def CLK_TS_STATUS.CLIP : Fld := ⟨0x1003C, 0x0, 1, 1, 0x0, 31, 1, .w1c, 0x0, false⟩
def CLK_TS_STATUS.RAMP : Fld := ⟨0x1003C, 0x0, 1, 1, 0x0, 30, 1, .ro, 0x0, false⟩
def CLK_TS_STATUS.HOLDOVER : Fld := ⟨0x1003C, 0x0, 1, 1, 0x0, 29, 1, .ro, 0x0, false⟩
def CLK_TS_STATUS.N_UNLOCK : Fld := ⟨0x1003C, 0x0, 1, 1, 0x0, 0, 16, .rc, 0x0, false⟩
def CLK_TS_STATUS.reg : Reg := ⟨"CLK_TS_STATUS", 0x1003C, 0x0, 1, 1, 0x0,
  [CLK_TS_STATUS.CLIP, CLK_TS_STATUS.RAMP, CLK_TS_STATUS.HOLDOVER, CLK_TS_STATUS.N_UNLOCK]⟩

/-- Every register of this file. -/
def regsClk : List Reg :=
  [CLK_STATUS.reg, CLK_MON.reg, CLK_XCHK.reg, CLK_TICK.reg, CLK_MA_STATUS.reg, CLK_MB_SHADOW.reg, CLK_MB_ACTIVE.reg, CLK_MB_CTRL.reg, CLK_MB_RESULT.reg, CLK_MB_TAG.reg, CLK_TS_CFG.reg, CLK_TS_FREQ.reg, CLK_TS_APPLIED.reg, CLK_TS_STATUS.reg]

end Sys2Proof.Machine
end

