-- ==== Sys2Proof/Machine/RegsCnt.lean ====
section
/-!
DEFINITION. The registers of CNT: section counting (R183).

Per field: base, stride, count, inner count, inner stride, lowest bit, width, access, reset value, kept across a warm reset.
-/
namespace Sys2Proof.Machine

/- `CNT_GLB_STATUS` (R183). -/
def CNT_GLB_STATUS.N_SEC : Fld := ⟨0x30000, 0x0, 1, 1, 0x0, 24, 8, .ro, 0x0, false⟩
def CNT_GLB_STATUS.N_CP : Fld := ⟨0x30000, 0x0, 1, 1, 0x0, 16, 8, .ro, 0x0, false⟩
def CNT_GLB_STATUS.RUN : Fld := ⟨0x30000, 0x0, 1, 1, 0x0, 15, 1, .ro, 0x0, false⟩
def CNT_GLB_STATUS.FROZEN : Fld := ⟨0x30000, 0x0, 1, 1, 0x0, 14, 1, .ro, 0x0, false⟩
def CNT_GLB_STATUS.reg : Reg := ⟨"CNT_GLB_STATUS", 0x30000, 0x0, 1, 1, 0x0,
  [CNT_GLB_STATUS.N_SEC, CNT_GLB_STATUS.N_CP, CNT_GLB_STATUS.RUN, CNT_GLB_STATUS.FROZEN]⟩

/- `CNT_CYCLE` (R183). -/
def CNT_CYCLE.GEN : Fld := ⟨0x30004, 0x0, 1, 1, 0x0, 16, 16, .ro, 0x0, false⟩
def CNT_CYCLE.N_REC : Fld := ⟨0x30004, 0x0, 1, 1, 0x0, 8, 8, .ro, 0x0, false⟩
def CNT_CYCLE.N_REM : Fld := ⟨0x30004, 0x0, 1, 1, 0x0, 0, 8, .ro, 0x0, false⟩
def CNT_CYCLE.reg : Reg := ⟨"CNT_CYCLE", 0x30004, 0x0, 1, 1, 0x0,
  [CNT_CYCLE.GEN, CNT_CYCLE.N_REC, CNT_CYCLE.N_REM]⟩

/- `CNT_RESET_CMD` (R183). -/
def CNT_RESET_CMD.TOKEN : Fld := ⟨0x30010, 0x0, 1, 1, 0x0, 16, 16, .wo, 0x0, false⟩
def CNT_RESET_CMD.OP : Fld := ⟨0x30010, 0x0, 1, 1, 0x0, 8, 4, .wo, 0x0, false⟩
def CNT_RESET_CMD.GO : Fld := ⟨0x30010, 0x0, 1, 1, 0x0, 7, 1, .wo, 0x0, false⟩
def CNT_RESET_CMD.SECTION : Fld := ⟨0x30010, 0x0, 1, 1, 0x0, 0, 6, .wo, 0x0, false⟩
def CNT_RESET_CMD.reg : Reg := ⟨"CNT_RESET_CMD", 0x30010, 0x0, 1, 1, 0x0,
  [CNT_RESET_CMD.TOKEN, CNT_RESET_CMD.OP, CNT_RESET_CMD.GO, CNT_RESET_CMD.SECTION]⟩

/- `CNT_RESET_RESULT` (R183). -/
def CNT_RESET_RESULT.GEN : Fld := ⟨0x30014, 0x0, 1, 1, 0x0, 16, 16, .ro, 0x0, false⟩
def CNT_RESET_RESULT.VALID : Fld := ⟨0x30014, 0x0, 1, 1, 0x0, 15, 1, .ro, 0x0, false⟩
def CNT_RESET_RESULT.IGNORED : Fld := ⟨0x30014, 0x0, 1, 1, 0x0, 14, 1, .ro, 0x0, false⟩
def CNT_RESET_RESULT.STATUS : Fld := ⟨0x30014, 0x0, 1, 1, 0x0, 8, 4, .ro, 0x0, false⟩
def CNT_RESET_RESULT.SECTION : Fld := ⟨0x30014, 0x0, 1, 1, 0x0, 0, 6, .ro, 0x0, false⟩
def CNT_RESET_RESULT.reg : Reg := ⟨"CNT_RESET_RESULT", 0x30014, 0x0, 1, 1, 0x0,
  [CNT_RESET_RESULT.GEN, CNT_RESET_RESULT.VALID, CNT_RESET_RESULT.IGNORED, CNT_RESET_RESULT.STATUS, CNT_RESET_RESULT.SECTION]⟩

/- `CNT_FORCE` (R183). -/
def CNT_FORCE.GO : Fld := ⟨0x30018, 0x0, 1, 1, 0x0, 7, 1, .wo, 0x0, false⟩
def CNT_FORCE.SECTION : Fld := ⟨0x30018, 0x0, 1, 1, 0x0, 0, 6, .wo, 0x0, false⟩
def CNT_FORCE.reg : Reg := ⟨"CNT_FORCE", 0x30018, 0x0, 1, 1, 0x0,
  [CNT_FORCE.GO, CNT_FORCE.SECTION]⟩

/- `CNT_CLEAR_MAP` (R183). -/
def CNT_CLEAR_MAP.MAP : Fld := ⟨0x30020, 0x4, 2, 1, 0x0, 0, 32, .ro, 0x0, false⟩
def CNT_CLEAR_MAP.reg : Reg := ⟨"CNT_CLEAR_MAP", 0x30020, 0x4, 2, 1, 0x0,
  [CNT_CLEAR_MAP.MAP]⟩

/- `CNT_OCC_MAP` (R183). -/
def CNT_OCC_MAP.MAP : Fld := ⟨0x30028, 0x4, 2, 1, 0x0, 0, 32, .ro, 0x0, false⟩
def CNT_OCC_MAP.reg : Reg := ⟨"CNT_OCC_MAP", 0x30028, 0x4, 2, 1, 0x0,
  [CNT_OCC_MAP.MAP]⟩

/- `CNT_DIST_MAP` (R183). -/
def CNT_DIST_MAP.MAP : Fld := ⟨0x30030, 0x4, 2, 1, 0x0, 0, 32, .ro, 0x0, false⟩
def CNT_DIST_MAP.reg : Reg := ⟨"CNT_DIST_MAP", 0x30030, 0x4, 2, 1, 0x0,
  [CNT_DIST_MAP.MAP]⟩

/- `CNT_PREP_MAP` (R183). -/
def CNT_PREP_MAP.MAP : Fld := ⟨0x30038, 0x4, 2, 1, 0x0, 0, 32, .ro, 0x0, false⟩
def CNT_PREP_MAP.reg : Reg := ⟨"CNT_PREP_MAP", 0x30038, 0x4, 2, 1, 0x0,
  [CNT_PREP_MAP.MAP]⟩

/- `CNT_CP_CFG` (R183). -/
def CNT_CP_CFG.USED : Fld := ⟨0x31000, 0x10, 128, 1, 0x0, 31, 1, .ro, 0x0, false⟩
def CNT_CP_CFG.REMOTE : Fld := ⟨0x31000, 0x10, 128, 1, 0x0, 30, 1, .ro, 0x0, false⟩
def CNT_CP_CFG.LINK : Fld := ⟨0x31000, 0x10, 128, 1, 0x0, 27, 2, .ro, 0x0, false⟩
def CNT_CP_CFG.SLOT : Fld := ⟨0x31000, 0x10, 128, 1, 0x0, 24, 3, .ro, 0x0, false⟩
def CNT_CP_CFG.FAR_ID : Fld := ⟨0x31000, 0x10, 128, 1, 0x0, 16, 8, .ro, 0x0, false⟩
def CNT_CP_CFG.EXPORT : Fld := ⟨0x31000, 0x10, 128, 1, 0x0, 0, 4, .ro, 0x0, false⟩
def CNT_CP_CFG.reg : Reg := ⟨"CNT_CP_CFG", 0x31000, 0x10, 128, 1, 0x0,
  [CNT_CP_CFG.USED, CNT_CP_CFG.REMOTE, CNT_CP_CFG.LINK, CNT_CP_CFG.SLOT, CNT_CP_CFG.FAR_ID, CNT_CP_CFG.EXPORT]⟩

/- `CNT_CP_STATE` (R183). -/
def CNT_CP_STATE.PSTATE : Fld := ⟨0x31004, 0x10, 128, 1, 0x0, 30, 2, .ro, 0x3, false⟩
def CNT_CP_STATE.PASSAGE : Fld := ⟨0x31004, 0x10, 128, 1, 0x0, 29, 1, .ro, 0x0, false⟩
def CNT_CP_STATE.RESTARTING : Fld := ⟨0x31004, 0x10, 128, 1, 0x0, 28, 1, .ro, 0x0, false⟩
def CNT_CP_STATE.CNT_BA : Fld := ⟨0x31004, 0x10, 128, 1, 0x0, 8, 8, .ro, 0x0, false⟩
def CNT_CP_STATE.CNT_AB : Fld := ⟨0x31004, 0x10, 128, 1, 0x0, 0, 8, .ro, 0x0, false⟩
def CNT_CP_STATE.reg : Reg := ⟨"CNT_CP_STATE", 0x31004, 0x10, 128, 1, 0x0,
  [CNT_CP_STATE.PSTATE, CNT_CP_STATE.PASSAGE, CNT_CP_STATE.RESTARTING, CNT_CP_STATE.CNT_BA, CNT_CP_STATE.CNT_AB]⟩

/- `CNT_CP_AGE` (R183). -/
def CNT_CP_AGE.AGE : Fld := ⟨0x31008, 0x10, 128, 1, 0x0, 16, 16, .ro, 0xFFFF, false⟩
def CNT_CP_AGE.reg : Reg := ⟨"CNT_CP_AGE", 0x31008, 0x10, 128, 1, 0x0,
  [CNT_CP_AGE.AGE]⟩

/- `CNT_SEC_CFG` (R183). -/
def CNT_SEC_CFG.USED : Fld := ⟨0x32000, 0x40, 64, 1, 0x0, 31, 1, .ro, 0x0, false⟩
def CNT_SEC_CFG.SHARED : Fld := ⟨0x32000, 0x40, 64, 1, 0x0, 30, 1, .ro, 0x0, false⟩
def CNT_SEC_CFG.LINK : Fld := ⟨0x32000, 0x40, 64, 1, 0x0, 28, 2, .ro, 0x0, false⟩
def CNT_SEC_CFG.SWEEP_OK : Fld := ⟨0x32000, 0x40, 64, 1, 0x0, 25, 1, .ro, 0x1, false⟩
def CNT_SEC_CFG.CONF_OK : Fld := ⟨0x32000, 0x40, 64, 1, 0x0, 24, 1, .ro, 0x1, false⟩
def CNT_SEC_CFG.N_SWEEP : Fld := ⟨0x32000, 0x40, 64, 1, 0x0, 16, 8, .ro, 0x2, false⟩
def CNT_SEC_CFG.N_BOUND : Fld := ⟨0x32000, 0x40, 64, 1, 0x0, 8, 4, .ro, 0x0, false⟩
def CNT_SEC_CFG.PEER_SEC : Fld := ⟨0x32000, 0x40, 64, 1, 0x0, 0, 6, .ro, 0x0, false⟩
def CNT_SEC_CFG.reg : Reg := ⟨"CNT_SEC_CFG", 0x32000, 0x40, 64, 1, 0x0,
  [CNT_SEC_CFG.USED, CNT_SEC_CFG.SHARED, CNT_SEC_CFG.LINK, CNT_SEC_CFG.SWEEP_OK, CNT_SEC_CFG.CONF_OK, CNT_SEC_CFG.N_SWEEP, CNT_SEC_CFG.N_BOUND, CNT_SEC_CFG.PEER_SEC]⟩

/- `CNT_SEC_BOUND0` (R183). -/
def CNT_SEC_BOUND0.BND3 : Fld := ⟨0x32004, 0x40, 64, 1, 0x0, 24, 8, .ro, 0x0, false⟩
def CNT_SEC_BOUND0.BND2 : Fld := ⟨0x32004, 0x40, 64, 1, 0x0, 16, 8, .ro, 0x0, false⟩
def CNT_SEC_BOUND0.BND1 : Fld := ⟨0x32004, 0x40, 64, 1, 0x0, 8, 8, .ro, 0x0, false⟩
def CNT_SEC_BOUND0.BND0 : Fld := ⟨0x32004, 0x40, 64, 1, 0x0, 0, 8, .ro, 0x0, false⟩
def CNT_SEC_BOUND0.reg : Reg := ⟨"CNT_SEC_BOUND0", 0x32004, 0x40, 64, 1, 0x0,
  [CNT_SEC_BOUND0.BND3, CNT_SEC_BOUND0.BND2, CNT_SEC_BOUND0.BND1, CNT_SEC_BOUND0.BND0]⟩

/- `CNT_SEC_BOUND1` (R183). -/
def CNT_SEC_BOUND1.BND7 : Fld := ⟨0x32008, 0x40, 64, 1, 0x0, 24, 8, .ro, 0x0, false⟩
def CNT_SEC_BOUND1.BND6 : Fld := ⟨0x32008, 0x40, 64, 1, 0x0, 16, 8, .ro, 0x0, false⟩
def CNT_SEC_BOUND1.BND5 : Fld := ⟨0x32008, 0x40, 64, 1, 0x0, 8, 8, .ro, 0x0, false⟩
def CNT_SEC_BOUND1.BND4 : Fld := ⟨0x32008, 0x40, 64, 1, 0x0, 0, 8, .ro, 0x0, false⟩
def CNT_SEC_BOUND1.reg : Reg := ⟨"CNT_SEC_BOUND1", 0x32008, 0x40, 64, 1, 0x0,
  [CNT_SEC_BOUND1.BND7, CNT_SEC_BOUND1.BND6, CNT_SEC_BOUND1.BND5, CNT_SEC_BOUND1.BND4]⟩

/- `CNT_SEC_TIME0` (R183). -/
def CNT_SEC_TIME0.T_PREP : Fld := ⟨0x3200C, 0x40, 64, 1, 0x0, 20, 12, .ro, 0x384, false⟩
def CNT_SEC_TIME0.T_CONF_MIN : Fld := ⟨0x3200C, 0x40, 64, 1, 0x0, 14, 6, .ro, 0x5, false⟩
def CNT_SEC_TIME0.T_CONF_MAX : Fld := ⟨0x3200C, 0x40, 64, 1, 0x0, 5, 9, .ro, 0x3C, false⟩
def CNT_SEC_TIME0.reg : Reg := ⟨"CNT_SEC_TIME0", 0x3200C, 0x40, 64, 1, 0x0,
  [CNT_SEC_TIME0.T_PREP, CNT_SEC_TIME0.T_CONF_MIN, CNT_SEC_TIME0.T_CONF_MAX]⟩

/- `CNT_SEC_TIME1` (R183). -/
def CNT_SEC_TIME1.T_AGREE : Fld := ⟨0x32010, 0x40, 64, 1, 0x0, 24, 8, .ro, 0x14, false⟩
def CNT_SEC_TIME1.T_LINKHOLD : Fld := ⟨0x32010, 0x40, 64, 1, 0x0, 17, 7, .ro, 0x14, false⟩
def CNT_SEC_TIME1.NEG_HOLD : Fld := ⟨0x32010, 0x40, 64, 1, 0x0, 11, 6, .ro, 0xA, false⟩
def CNT_SEC_TIME1.reg : Reg := ⟨"CNT_SEC_TIME1", 0x32010, 0x40, 64, 1, 0x0,
  [CNT_SEC_TIME1.T_AGREE, CNT_SEC_TIME1.T_LINKHOLD, CNT_SEC_TIME1.NEG_HOLD]⟩

/- `CNT_SEC_STATE` (R183). -/
def CNT_SEC_STATE.STATE : Fld := ⟨0x32014, 0x40, 64, 1, 0x0, 30, 2, .ro, 0x2, false⟩
def CNT_SEC_STATE.CAUSE : Fld := ⟨0x32014, 0x40, 64, 1, 0x0, 16, 8, .ro, 0x2, false⟩
def CNT_SEC_STATE.LINK_HOLD : Fld := ⟨0x32014, 0x40, 64, 1, 0x0, 15, 1, .ro, 0x0, false⟩
def CNT_SEC_STATE.SWEEPING : Fld := ⟨0x32014, 0x40, 64, 1, 0x0, 14, 1, .ro, 0x0, false⟩
def CNT_SEC_STATE.AWAIT_CONF : Fld := ⟨0x32014, 0x40, 64, 1, 0x0, 13, 1, .ro, 0x0, false⟩
def CNT_SEC_STATE.NEG : Fld := ⟨0x32014, 0x40, 64, 1, 0x0, 12, 1, .ro, 0x0, false⟩
def CNT_SEC_STATE.COUNT : Fld := ⟨0x32014, 0x40, 64, 1, 0x0, 0, 12, .ro, 0x0, false⟩
def CNT_SEC_STATE.reg : Reg := ⟨"CNT_SEC_STATE", 0x32014, 0x40, 64, 1, 0x0,
  [CNT_SEC_STATE.STATE, CNT_SEC_STATE.CAUSE, CNT_SEC_STATE.LINK_HOLD, CNT_SEC_STATE.SWEEPING, CNT_SEC_STATE.AWAIT_CONF, CNT_SEC_STATE.NEG, CNT_SEC_STATE.COUNT]⟩

/- `CNT_SEC_PREP` (R183). -/
def CNT_SEC_PREP.TOKEN : Fld := ⟨0x32018, 0x40, 64, 1, 0x0, 16, 16, .ro, 0x0, false⟩
def CNT_SEC_PREP.ELAPSED : Fld := ⟨0x32018, 0x40, 64, 1, 0x0, 0, 16, .ro, 0x0, false⟩
def CNT_SEC_PREP.reg : Reg := ⟨"CNT_SEC_PREP", 0x32018, 0x40, 64, 1, 0x0,
  [CNT_SEC_PREP.TOKEN, CNT_SEC_PREP.ELAPSED]⟩

/- `CNT_SEC_TALLY` (R183). -/
def CNT_SEC_TALLY.OUT : Fld := ⟨0x3201C, 0x40, 64, 1, 0x0, 16, 16, .ro, 0x0, false⟩
def CNT_SEC_TALLY.IN : Fld := ⟨0x3201C, 0x40, 64, 1, 0x0, 0, 16, .ro, 0x0, false⟩
def CNT_SEC_TALLY.reg : Reg := ⟨"CNT_SEC_TALLY", 0x3201C, 0x40, 64, 1, 0x0,
  [CNT_SEC_TALLY.OUT, CNT_SEC_TALLY.IN]⟩

/- `CNT_SEC_DELTA` (R183). -/
def CNT_SEC_DELTA.PREV : Fld := ⟨0x32020, 0x40, 64, 1, 0x0, 16, 12, .ro, 0x0, false⟩
def CNT_SEC_DELTA.DELTA : Fld := ⟨0x32020, 0x40, 64, 1, 0x0, 0, 8, .ro, 0x0, false⟩
def CNT_SEC_DELTA.reg : Reg := ⟨"CNT_SEC_DELTA", 0x32020, 0x40, 64, 1, 0x0,
  [CNT_SEC_DELTA.PREV, CNT_SEC_DELTA.DELTA]⟩

/- `CNT_SEC_PEER` (R183). -/
def CNT_SEC_PEER.PSTATE : Fld := ⟨0x32024, 0x40, 64, 1, 0x0, 30, 2, .ro, 0x2, false⟩
def CNT_SEC_PEER.PREP_DONE : Fld := ⟨0x32024, 0x40, 64, 1, 0x0, 29, 1, .ro, 0x0, false⟩
def CNT_SEC_PEER.VALID : Fld := ⟨0x32024, 0x40, 64, 1, 0x0, 28, 1, .ro, 0x0, false⟩
def CNT_SEC_PEER.DISAGREE : Fld := ⟨0x32024, 0x40, 64, 1, 0x0, 0, 8, .ro, 0x0, false⟩
def CNT_SEC_PEER.reg : Reg := ⟨"CNT_SEC_PEER", 0x32024, 0x40, 64, 1, 0x0,
  [CNT_SEC_PEER.PSTATE, CNT_SEC_PEER.PREP_DONE, CNT_SEC_PEER.VALID, CNT_SEC_PEER.DISAGREE]⟩

/- `CNT_SEC_CAUSE` (R183). -/
def CNT_SEC_CAUSE.N_DIST : Fld := ⟨0x32028, 0x40, 64, 1, 0x0, 16, 16, .rc, 0x0, false⟩
def CNT_SEC_CAUSE.FIRST : Fld := ⟨0x32028, 0x40, 64, 1, 0x0, 8, 8, .ro, 0x2, false⟩
def CNT_SEC_CAUSE.LAST : Fld := ⟨0x32028, 0x40, 64, 1, 0x0, 0, 8, .ro, 0x2, false⟩
def CNT_SEC_CAUSE.reg : Reg := ⟨"CNT_SEC_CAUSE", 0x32028, 0x40, 64, 1, 0x0,
  [CNT_SEC_CAUSE.N_DIST, CNT_SEC_CAUSE.FIRST, CNT_SEC_CAUSE.LAST]⟩

/-- Every register of this file. -/
def regsCnt : List Reg :=
  [CNT_GLB_STATUS.reg, CNT_CYCLE.reg, CNT_RESET_CMD.reg, CNT_RESET_RESULT.reg, CNT_FORCE.reg, CNT_CLEAR_MAP.reg, CNT_OCC_MAP.reg, CNT_DIST_MAP.reg, CNT_PREP_MAP.reg, CNT_CP_CFG.reg, CNT_CP_STATE.reg, CNT_CP_AGE.reg, CNT_SEC_CFG.reg, CNT_SEC_BOUND0.reg, CNT_SEC_BOUND1.reg, CNT_SEC_TIME0.reg, CNT_SEC_TIME1.reg, CNT_SEC_STATE.reg, CNT_SEC_PREP.reg, CNT_SEC_TALLY.reg] ++
  [CNT_SEC_DELTA.reg, CNT_SEC_PEER.reg, CNT_SEC_CAUSE.reg]

end Sys2Proof.Machine
end

