-- ==== Sys2Proof/Machine/RegsDma.lean ====
section
/-!
DEFINITION. The registers of DMA: memory and rings (R420).

Per field: base, stride, count, inner count, inner stride, lowest bit, width, access, reset value, kept across a warm reset.
-/
namespace Sys2Proof.Machine

/- `DMA_RUN_MAP` (R420). -/
def DMA_RUN_MAP.MAP : Fld := ⟨0xE0000, 0x0, 1, 1, 0x0, 0, 32, .ro, 0x0, false⟩
def DMA_RUN_MAP.reg : Reg := ⟨"DMA_RUN_MAP", 0xE0000, 0x0, 1, 1, 0x0,
  [DMA_RUN_MAP.MAP]⟩

/- `DMA_PAUSE_MAP` (R420). -/
def DMA_PAUSE_MAP.MAP : Fld := ⟨0xE0004, 0x0, 1, 1, 0x0, 0, 32, .ro, 0x0, false⟩
def DMA_PAUSE_MAP.reg : Reg := ⟨"DMA_PAUSE_MAP", 0xE0004, 0x0, 1, 1, 0x0,
  [DMA_PAUSE_MAP.MAP]⟩

/- `DMA_CLASS_CNT0` (R420). -/
def DMA_CLASS_CNT0.LATE_C : Fld := ⟨0xE0008, 0x0, 1, 1, 0x0, 16, 16, .rc, 0x0, false⟩
def DMA_CLASS_CNT0.LATE_T : Fld := ⟨0xE0008, 0x0, 1, 1, 0x0, 0, 16, .rc, 0x0, false⟩
def DMA_CLASS_CNT0.reg : Reg := ⟨"DMA_CLASS_CNT0", 0xE0008, 0x0, 1, 1, 0x0,
  [DMA_CLASS_CNT0.LATE_C, DMA_CLASS_CNT0.LATE_T]⟩

/- `DMA_CLASS_CNT1` (R420). -/
def DMA_CLASS_CNT1.REFUSED_B : Fld := ⟨0xE000C, 0x0, 1, 1, 0x0, 16, 16, .rc, 0x0, false⟩
def DMA_CLASS_CNT1.OVER_BUDGET : Fld := ⟨0xE000C, 0x0, 1, 1, 0x0, 0, 16, .rc, 0x0, false⟩
def DMA_CLASS_CNT1.reg : Reg := ⟨"DMA_CLASS_CNT1", 0xE000C, 0x0, 1, 1, 0x0,
  [DMA_CLASS_CNT1.REFUSED_B, DMA_CLASS_CNT1.OVER_BUDGET]⟩

/- `DMA_MEM_CFG` (R420). -/
def DMA_MEM_CFG.T_SCRUB : Fld := ⟨0xE0100, 0x0, 1, 1, 0x0, 24, 8, .ro, 0x18, false⟩
def DMA_MEM_CFG.PASSES : Fld := ⟨0xE0100, 0x0, 1, 1, 0x0, 1, 15, .ro, 0x0, false⟩
def DMA_MEM_CFG.SCRUB_RUN : Fld := ⟨0xE0100, 0x0, 1, 1, 0x0, 0, 1, .ro, 0x0, false⟩
def DMA_MEM_CFG.reg : Reg := ⟨"DMA_MEM_CFG", 0xE0100, 0x0, 1, 1, 0x0,
  [DMA_MEM_CFG.T_SCRUB, DMA_MEM_CFG.PASSES, DMA_MEM_CFG.SCRUB_RUN]⟩

/- `DMA_DRAM_ECC` (R420). -/
def DMA_DRAM_ECC.CE : Fld := ⟨0xE0104, 0x0, 1, 1, 0x0, 16, 16, .rc, 0x0, false⟩
def DMA_DRAM_ECC.CE_HEAVY : Fld := ⟨0xE0104, 0x0, 1, 1, 0x0, 8, 8, .rc, 0x0, false⟩
def DMA_DRAM_ECC.UE : Fld := ⟨0xE0104, 0x0, 1, 1, 0x0, 0, 8, .rc, 0x0, false⟩
def DMA_DRAM_ECC.reg : Reg := ⟨"DMA_DRAM_ECC", 0xE0104, 0x0, 1, 1, 0x0,
  [DMA_DRAM_ECC.CE, DMA_DRAM_ECC.CE_HEAVY, DMA_DRAM_ECC.UE]⟩

/- `DMA_SRAM_ECC` (R420). -/
def DMA_SRAM_ECC.CE : Fld := ⟨0xE0108, 0x0, 1, 1, 0x0, 16, 16, .rc, 0x0, false⟩
def DMA_SRAM_ECC.UE_SAFE : Fld := ⟨0xE0108, 0x0, 1, 1, 0x0, 8, 8, .rc, 0x0, false⟩
def DMA_SRAM_ECC.UE_CTRL : Fld := ⟨0xE0108, 0x0, 1, 1, 0x0, 0, 8, .rc, 0x0, false⟩
def DMA_SRAM_ECC.reg : Reg := ⟨"DMA_SRAM_ECC", 0xE0108, 0x0, 1, 1, 0x0,
  [DMA_SRAM_ECC.CE, DMA_SRAM_ECC.UE_SAFE, DMA_SRAM_ECC.UE_CTRL]⟩

/- `DMA_FLASH_ECC` (R420). -/
def DMA_FLASH_ECC.CE : Fld := ⟨0xE010C, 0x0, 1, 1, 0x0, 16, 16, .rc, 0x0, false⟩
def DMA_FLASH_ECC.UE : Fld := ⟨0xE010C, 0x0, 1, 1, 0x0, 0, 8, .rc, 0x0, false⟩
def DMA_FLASH_ECC.reg : Reg := ⟨"DMA_FLASH_ECC", 0xE010C, 0x0, 1, 1, 0x0,
  [DMA_FLASH_ECC.CE, DMA_FLASH_ECC.UE]⟩

/- `DMA_ERR_LOG0` (R420). -/
def DMA_ERR_LOG0.PRESENT : Fld := ⟨0xE0110, 0x0, 1, 1, 0x0, 31, 1, .ro, 0x0, false⟩
def DMA_ERR_LOG0.MEM : Fld := ⟨0xE0110, 0x0, 1, 1, 0x0, 28, 3, .ro, 0x0, false⟩
def DMA_ERR_LOG0.KIND : Fld := ⟨0xE0110, 0x0, 1, 1, 0x0, 26, 2, .ro, 0x0, false⟩
def DMA_ERR_LOG0.REQ : Fld := ⟨0xE0110, 0x0, 1, 1, 0x0, 8, 8, .ro, 0x0, false⟩
def DMA_ERR_LOG0.SYMS : Fld := ⟨0xE0110, 0x0, 1, 1, 0x0, 0, 8, .ro, 0x0, false⟩
def DMA_ERR_LOG0.reg : Reg := ⟨"DMA_ERR_LOG0", 0xE0110, 0x0, 1, 1, 0x0,
  [DMA_ERR_LOG0.PRESENT, DMA_ERR_LOG0.MEM, DMA_ERR_LOG0.KIND, DMA_ERR_LOG0.REQ, DMA_ERR_LOG0.SYMS]⟩

/- `DMA_ERR_LOG1` (R420). -/
def DMA_ERR_LOG1.ADDR : Fld := ⟨0xE0114, 0x0, 1, 1, 0x0, 0, 32, .ro, 0x0, false⟩
def DMA_ERR_LOG1.reg : Reg := ⟨"DMA_ERR_LOG1", 0xE0114, 0x0, 1, 1, 0x0,
  [DMA_ERR_LOG1.ADDR]⟩

/- `DMA_ERR_LOG2` (R420). -/
def DMA_ERR_LOG2.NS : Fld := ⟨0xE0118, 0x0, 1, 1, 0x0, 0, 32, .ro, 0x0, false⟩
def DMA_ERR_LOG2.reg : Reg := ⟨"DMA_ERR_LOG2", 0xE0118, 0x0, 1, 1, 0x0,
  [DMA_ERR_LOG2.NS]⟩

/- `DMA_ERR_LOG3` (R420). -/
def DMA_ERR_LOG3.SEC_LO : Fld := ⟨0xE011C, 0x0, 1, 1, 0x0, 0, 32, .ro, 0x0, false⟩
def DMA_ERR_LOG3.reg : Reg := ⟨"DMA_ERR_LOG3", 0xE011C, 0x0, 1, 1, 0x0,
  [DMA_ERR_LOG3.SEC_LO]⟩

/- `DMA_ERR_LOG4` (R420). -/
def DMA_ERR_LOG4.SEC_HI : Fld := ⟨0xE0120, 0x0, 1, 1, 0x0, 0, 16, .ro, 0x0, false⟩
def DMA_ERR_LOG4.reg : Reg := ⟨"DMA_ERR_LOG4", 0xE0120, 0x0, 1, 1, 0x0,
  [DMA_ERR_LOG4.SEC_HI]⟩

/- `DMA_ERR_LOG_STAT` (R420). -/
def DMA_ERR_LOG_STAT.EMPTY : Fld := ⟨0xE0124, 0x0, 1, 1, 0x0, 31, 1, .ro, 0x1, false⟩
def DMA_ERR_LOG_STAT.LEVEL : Fld := ⟨0xE0124, 0x0, 1, 1, 0x0, 26, 5, .ro, 0x0, false⟩
def DMA_ERR_LOG_STAT.OVERFLOW : Fld := ⟨0xE0124, 0x0, 1, 1, 0x0, 8, 8, .rc, 0x0, false⟩
def DMA_ERR_LOG_STAT.UNDERFLOW : Fld := ⟨0xE0124, 0x0, 1, 1, 0x0, 0, 8, .rc, 0x0, false⟩
def DMA_ERR_LOG_STAT.reg : Reg := ⟨"DMA_ERR_LOG_STAT", 0xE0124, 0x0, 1, 1, 0x0,
  [DMA_ERR_LOG_STAT.EMPTY, DMA_ERR_LOG_STAT.LEVEL, DMA_ERR_LOG_STAT.OVERFLOW, DMA_ERR_LOG_STAT.UNDERFLOW]⟩

/- `DMA_IOMMU_CTX0` (R420). -/
def DMA_IOMMU_CTX0.MODE : Fld := ⟨0xE0200, 0x8, 16, 1, 0x0, 30, 2, .rw, 0x0, false⟩
def DMA_IOMMU_CTX0.reg : Reg := ⟨"DMA_IOMMU_CTX0", 0xE0200, 0x8, 16, 1, 0x0,
  [DMA_IOMMU_CTX0.MODE]⟩

/- `DMA_IOMMU_CTX1` (R420). -/
def DMA_IOMMU_CTX1.ROOT : Fld := ⟨0xE0204, 0x8, 16, 1, 0x0, 14, 18, .rw, 0x0, false⟩
def DMA_IOMMU_CTX1.reg : Reg := ⟨"DMA_IOMMU_CTX1", 0xE0204, 0x8, 16, 1, 0x0,
  [DMA_IOMMU_CTX1.ROOT]⟩

/- `DMA_IOMMU_INV` (R420). -/
def DMA_IOMMU_INV.IOVA : Fld := ⟨0xE0300, 0x0, 1, 1, 0x0, 12, 20, .wo, 0x0, false⟩
def DMA_IOMMU_INV.DOM : Fld := ⟨0xE0300, 0x0, 1, 1, 0x0, 8, 4, .wo, 0x0, false⟩
def DMA_IOMMU_INV.SCOPE : Fld := ⟨0xE0300, 0x0, 1, 1, 0x0, 4, 2, .wo, 0x0, false⟩
def DMA_IOMMU_INV.GO : Fld := ⟨0xE0300, 0x0, 1, 1, 0x0, 0, 1, .wo, 0x0, false⟩
def DMA_IOMMU_INV.reg : Reg := ⟨"DMA_IOMMU_INV", 0xE0300, 0x0, 1, 1, 0x0,
  [DMA_IOMMU_INV.IOVA, DMA_IOMMU_INV.DOM, DMA_IOMMU_INV.SCOPE, DMA_IOMMU_INV.GO]⟩

/- `DMA_IOMMU_INV_RESULT` (R420). -/
def DMA_IOMMU_INV_RESULT.GEN : Fld := ⟨0xE0304, 0x0, 1, 1, 0x0, 16, 16, .ro, 0x0, false⟩
def DMA_IOMMU_INV_RESULT.VALID : Fld := ⟨0xE0304, 0x0, 1, 1, 0x0, 15, 1, .ro, 0x0, false⟩
def DMA_IOMMU_INV_RESULT.STATUS : Fld := ⟨0xE0304, 0x0, 1, 1, 0x0, 0, 4, .ro, 0x0, false⟩
def DMA_IOMMU_INV_RESULT.reg : Reg := ⟨"DMA_IOMMU_INV_RESULT", 0xE0304, 0x0, 1, 1, 0x0,
  [DMA_IOMMU_INV_RESULT.GEN, DMA_IOMMU_INV_RESULT.VALID, DMA_IOMMU_INV_RESULT.STATUS]⟩

/- `DMA_IOMMU_STAT` (R420). -/
def DMA_IOMMU_STAT.MISS : Fld := ⟨0xE0308, 0x0, 1, 1, 0x0, 16, 16, .rc, 0x0, false⟩
def DMA_IOMMU_STAT.FAULT : Fld := ⟨0xE0308, 0x0, 1, 1, 0x0, 8, 8, .rc, 0x0, false⟩
def DMA_IOMMU_STAT.N_VALID : Fld := ⟨0xE0308, 0x0, 1, 1, 0x0, 0, 7, .ro, 0x0, false⟩
def DMA_IOMMU_STAT.reg : Reg := ⟨"DMA_IOMMU_STAT", 0xE0308, 0x0, 1, 1, 0x0,
  [DMA_IOMMU_STAT.MISS, DMA_IOMMU_STAT.FAULT, DMA_IOMMU_STAT.N_VALID]⟩

/- `DMA_RING_CFG` (R420). -/
def DMA_RING_CFG.KIND : Fld := ⟨0xE1000, 0x40, 32, 1, 0x0, 30, 2, .ro, 0x0, false⟩
def DMA_RING_CFG.OWNER : Fld := ⟨0xE1000, 0x40, 32, 1, 0x0, 28, 2, .ro, 0x0, false⟩
def DMA_RING_CFG.DOM : Fld := ⟨0xE1000, 0x40, 32, 1, 0x0, 24, 4, .rw, 0x0, false⟩
def DMA_RING_CFG.PORT : Fld := ⟨0xE1000, 0x40, 32, 1, 0x0, 16, 8, .ro, 0x0, false⟩
def DMA_RING_CFG.CLASS : Fld := ⟨0xE1000, 0x40, 32, 1, 0x0, 14, 2, .ro, 0x0, false⟩
def DMA_RING_CFG.TRANSLATE : Fld := ⟨0xE1000, 0x40, 32, 1, 0x0, 13, 1, .rw, 0x0, false⟩
def DMA_RING_CFG.SIZE : Fld := ⟨0xE1000, 0x40, 32, 1, 0x0, 0, 13, .rw, 0x1, false⟩
def DMA_RING_CFG.reg : Reg := ⟨"DMA_RING_CFG", 0xE1000, 0x40, 32, 1, 0x0,
  [DMA_RING_CFG.KIND, DMA_RING_CFG.OWNER, DMA_RING_CFG.DOM, DMA_RING_CFG.PORT, DMA_RING_CFG.CLASS, DMA_RING_CFG.TRANSLATE, DMA_RING_CFG.SIZE]⟩

/- `DMA_RING_DBASE` (R420). -/
def DMA_RING_DBASE.BASE : Fld := ⟨0xE1004, 0x40, 32, 1, 0x0, 0, 32, .rw, 0x0, false⟩
def DMA_RING_DBASE.reg : Reg := ⟨"DMA_RING_DBASE", 0xE1004, 0x40, 32, 1, 0x0,
  [DMA_RING_DBASE.BASE]⟩

/- `DMA_RING_CBASE` (R420). -/
def DMA_RING_CBASE.BASE : Fld := ⟨0xE1008, 0x40, 32, 1, 0x0, 0, 32, .rw, 0x0, false⟩
def DMA_RING_CBASE.reg : Reg := ⟨"DMA_RING_CBASE", 0xE1008, 0x40, 32, 1, 0x0,
  [DMA_RING_CBASE.BASE]⟩

/- `DMA_RING_HEAD` (R420). -/
def DMA_RING_HEAD.HEAD : Fld := ⟨0xE100C, 0x40, 32, 1, 0x0, 0, 16, .rw, 0x0, false⟩
def DMA_RING_HEAD.reg : Reg := ⟨"DMA_RING_HEAD", 0xE100C, 0x40, 32, 1, 0x0,
  [DMA_RING_HEAD.HEAD]⟩

/- `DMA_RING_TAIL` (R420). -/
def DMA_RING_TAIL.CDONE : Fld := ⟨0xE1010, 0x40, 32, 1, 0x0, 16, 16, .ro, 0x0, false⟩
def DMA_RING_TAIL.TAIL : Fld := ⟨0xE1010, 0x40, 32, 1, 0x0, 0, 16, .ro, 0x0, false⟩
def DMA_RING_TAIL.reg : Reg := ⟨"DMA_RING_TAIL", 0xE1010, 0x40, 32, 1, 0x0,
  [DMA_RING_TAIL.CDONE, DMA_RING_TAIL.TAIL]⟩

/- `DMA_RING_CTRL` (R420). -/
def DMA_RING_CTRL.SEQ : Fld := ⟨0xE1014, 0x40, 32, 1, 0x0, 16, 16, .wo, 0x0, false⟩
def DMA_RING_CTRL.GO : Fld := ⟨0xE1014, 0x40, 32, 1, 0x0, 7, 1, .wo, 0x0, false⟩
def DMA_RING_CTRL.OP : Fld := ⟨0xE1014, 0x40, 32, 1, 0x0, 0, 4, .wo, 0x0, false⟩
def DMA_RING_CTRL.reg : Reg := ⟨"DMA_RING_CTRL", 0xE1014, 0x40, 32, 1, 0x0,
  [DMA_RING_CTRL.SEQ, DMA_RING_CTRL.GO, DMA_RING_CTRL.OP]⟩

/- `DMA_RING_STATE` (R420). -/
def DMA_RING_STATE.GEN : Fld := ⟨0xE1018, 0x40, 32, 1, 0x0, 16, 16, .ro, 0x0, false⟩
def DMA_RING_STATE.STATE : Fld := ⟨0xE1018, 0x40, 32, 1, 0x0, 14, 2, .ro, 0x0, false⟩
def DMA_RING_STATE.PHASE : Fld := ⟨0xE1018, 0x40, 32, 1, 0x0, 13, 1, .ro, 0x0, false⟩
def DMA_RING_STATE.BUSY : Fld := ⟨0xE1018, 0x40, 32, 1, 0x0, 12, 1, .ro, 0x0, false⟩
def DMA_RING_STATE.OVERPOST : Fld := ⟨0xE1018, 0x40, 32, 1, 0x0, 11, 1, .w1c, 0x0, false⟩
def DMA_RING_STATE.ABORT_ACK : Fld := ⟨0xE1018, 0x40, 32, 1, 0x0, 9, 2, .ro, 0x0, false⟩
def DMA_RING_STATE.CMD_RES : Fld := ⟨0xE1018, 0x40, 32, 1, 0x0, 4, 4, .ro, 0x0, false⟩
def DMA_RING_STATE.reg : Reg := ⟨"DMA_RING_STATE", 0xE1018, 0x40, 32, 1, 0x0,
  [DMA_RING_STATE.GEN, DMA_RING_STATE.STATE, DMA_RING_STATE.PHASE, DMA_RING_STATE.BUSY, DMA_RING_STATE.OVERPOST, DMA_RING_STATE.ABORT_ACK, DMA_RING_STATE.CMD_RES]⟩

/- `DMA_RING_BUDGET` (R420). -/
def DMA_RING_BUDGET.DEF_DEADLINE : Fld := ⟨0xE101C, 0x40, 32, 1, 0x0, 16, 16, .ro, 0x64, false⟩
def DMA_RING_BUDGET.BUDGET : Fld := ⟨0xE101C, 0x40, 32, 1, 0x0, 0, 16, .ro, 0x0, false⟩
def DMA_RING_BUDGET.reg : Reg := ⟨"DMA_RING_BUDGET", 0xE101C, 0x40, 32, 1, 0x0,
  [DMA_RING_BUDGET.DEF_DEADLINE, DMA_RING_BUDGET.BUDGET]⟩

/- `DMA_RING_FAULT0` (R420). -/
def DMA_RING_FAULT0.IOVA : Fld := ⟨0xE1020, 0x40, 32, 1, 0x0, 0, 32, .ro, 0x0, false⟩
def DMA_RING_FAULT0.reg : Reg := ⟨"DMA_RING_FAULT0", 0xE1020, 0x40, 32, 1, 0x0,
  [DMA_RING_FAULT0.IOVA]⟩

/- `DMA_RING_FAULT1` (R420). -/
def DMA_RING_FAULT1.TYPE : Fld := ⟨0xE1024, 0x40, 32, 1, 0x0, 29, 3, .ro, 0x0, false⟩
def DMA_RING_FAULT1.WRITE : Fld := ⟨0xE1024, 0x40, 32, 1, 0x0, 28, 1, .ro, 0x0, false⟩
def DMA_RING_FAULT1.DONE : Fld := ⟨0xE1024, 0x40, 32, 1, 0x0, 0, 25, .ro, 0x0, false⟩
def DMA_RING_FAULT1.reg : Reg := ⟨"DMA_RING_FAULT1", 0xE1024, 0x40, 32, 1, 0x0,
  [DMA_RING_FAULT1.TYPE, DMA_RING_FAULT1.WRITE, DMA_RING_FAULT1.DONE]⟩

/- `DMA_RING_CNT` (R420). -/
def DMA_RING_CNT.COMPLETED : Fld := ⟨0xE1028, 0x40, 32, 1, 0x0, 16, 16, .ro, 0x0, false⟩
def DMA_RING_CNT.LATE : Fld := ⟨0xE1028, 0x40, 32, 1, 0x0, 8, 8, .rc, 0x0, false⟩
def DMA_RING_CNT.REFUSED : Fld := ⟨0xE1028, 0x40, 32, 1, 0x0, 0, 8, .rc, 0x0, false⟩
def DMA_RING_CNT.reg : Reg := ⟨"DMA_RING_CNT", 0xE1028, 0x40, 32, 1, 0x0,
  [DMA_RING_CNT.COMPLETED, DMA_RING_CNT.LATE, DMA_RING_CNT.REFUSED]⟩

/-- Every register of this file. -/
def regsDma : List Reg :=
  [DMA_RUN_MAP.reg, DMA_PAUSE_MAP.reg, DMA_CLASS_CNT0.reg, DMA_CLASS_CNT1.reg, DMA_MEM_CFG.reg, DMA_DRAM_ECC.reg, DMA_SRAM_ECC.reg, DMA_FLASH_ECC.reg, DMA_ERR_LOG0.reg, DMA_ERR_LOG1.reg, DMA_ERR_LOG2.reg, DMA_ERR_LOG3.reg, DMA_ERR_LOG4.reg, DMA_ERR_LOG_STAT.reg, DMA_IOMMU_CTX0.reg, DMA_IOMMU_CTX1.reg, DMA_IOMMU_INV.reg, DMA_IOMMU_INV_RESULT.reg, DMA_IOMMU_STAT.reg, DMA_RING_CFG.reg] ++
  [DMA_RING_DBASE.reg, DMA_RING_CBASE.reg, DMA_RING_HEAD.reg, DMA_RING_TAIL.reg, DMA_RING_CTRL.reg, DMA_RING_STATE.reg, DMA_RING_BUDGET.reg, DMA_RING_FAULT0.reg, DMA_RING_FAULT1.reg, DMA_RING_CNT.reg]

end Sys2Proof.Machine
end

