-- ==== Sys2Proof/Machine/RegsEth.lean ====
section
/-!
DEFINITION. The registers of ETH: network time (R392).

Per field: base, stride, count, inner count, inner stride, lowest bit, width, access, reset value, kept across a warm reset.
-/
namespace Sys2Proof.Machine

/- `ETH_PTP_CFG` (R392). -/
def ETH_PTP_CFG.EN : Fld := ⟨0xD0000, 0x0, 1, 1, 0x0, 31, 1, .ro, 0x0, false⟩
def ETH_PTP_CFG.PROFILE : Fld := ⟨0xD0000, 0x0, 1, 1, 0x0, 28, 3, .ro, 0x0, false⟩
def ETH_PTP_CFG.P2P : Fld := ⟨0xD0000, 0x0, 1, 1, 0x0, 27, 1, .ro, 0x0, false⟩
def ETH_PTP_CFG.CLOCK : Fld := ⟨0xD0000, 0x0, 1, 1, 0x0, 25, 2, .ro, 0x0, false⟩
def ETH_PTP_CFG.UDP4 : Fld := ⟨0xD0000, 0x0, 1, 1, 0x0, 24, 1, .ro, 0x0, false⟩
def ETH_PTP_CFG.DOMAIN : Fld := ⟨0xD0000, 0x0, 1, 1, 0x0, 0, 8, .ro, 0x0, false⟩
def ETH_PTP_CFG.reg : Reg := ⟨"ETH_PTP_CFG", 0xD0000, 0x0, 1, 1, 0x0,
  [ETH_PTP_CFG.EN, ETH_PTP_CFG.PROFILE, ETH_PTP_CFG.P2P, ETH_PTP_CFG.CLOCK, ETH_PTP_CFG.UDP4, ETH_PTP_CFG.DOMAIN]⟩

/- `ETH_SRV_CFG0` (R392). -/
def ETH_SRV_CFG0.T_J : Fld := ⟨0xD0004, 0x0, 1, 1, 0x0, 12, 20, .ro, 0x32, false⟩
def ETH_SRV_CFG0.SYNC_TO : Fld := ⟨0xD0004, 0x0, 1, 1, 0x0, 0, 10, .ro, 0x1E, false⟩
def ETH_SRV_CFG0.reg : Reg := ⟨"ETH_SRV_CFG0", 0xD0004, 0x0, 1, 1, 0x0,
  [ETH_SRV_CFG0.T_J, ETH_SRV_CFG0.SYNC_TO]⟩

/- `ETH_SRV_CFG1` (R392). -/
def ETH_SRV_CFG1.N_ACQ : Fld := ⟨0xD0008, 0x0, 1, 1, 0x0, 28, 4, .ro, 0x4, false⟩
def ETH_SRV_CFG1.ACQ_TOL : Fld := ⟨0xD0008, 0x0, 1, 1, 0x0, 18, 10, .ro, 0xA, false⟩
def ETH_SRV_CFG1.HO_WIDEN : Fld := ⟨0xD0008, 0x0, 1, 1, 0x0, 0, 7, .ro, 0x0, false⟩
def ETH_SRV_CFG1.reg : Reg := ⟨"ETH_SRV_CFG1", 0xD0008, 0x0, 1, 1, 0x0,
  [ETH_SRV_CFG1.N_ACQ, ETH_SRV_CFG1.ACQ_TOL, ETH_SRV_CFG1.HO_WIDEN]⟩

/- `ETH_SRV_CTRL` (R392). -/
def ETH_SRV_CTRL.ENABLE : Fld := ⟨0xD0010, 0x0, 1, 1, 0x0, 2, 1, .rw, 0x0, false⟩
def ETH_SRV_CTRL.SLAVE_PORT : Fld := ⟨0xD0010, 0x0, 1, 1, 0x0, 0, 2, .rw, 0x0, false⟩
def ETH_SRV_CTRL.reg : Reg := ⟨"ETH_SRV_CTRL", 0xD0010, 0x0, 1, 1, 0x0,
  [ETH_SRV_CTRL.ENABLE, ETH_SRV_CTRL.SLAVE_PORT]⟩

/- `ETH_SRV_PARENT0` (R392). -/
def ETH_SRV_PARENT0.ID : Fld := ⟨0xD0014, 0x0, 1, 1, 0x0, 0, 32, .rw, 0x0, false⟩
def ETH_SRV_PARENT0.reg : Reg := ⟨"ETH_SRV_PARENT0", 0xD0014, 0x0, 1, 1, 0x0,
  [ETH_SRV_PARENT0.ID]⟩

/- `ETH_SRV_PARENT1` (R392). -/
def ETH_SRV_PARENT1.ID : Fld := ⟨0xD0018, 0x0, 1, 1, 0x0, 0, 32, .rw, 0x0, false⟩
def ETH_SRV_PARENT1.reg : Reg := ⟨"ETH_SRV_PARENT1", 0xD0018, 0x0, 1, 1, 0x0,
  [ETH_SRV_PARENT1.ID]⟩

/- `ETH_SRV_PARENT2` (R392). -/
def ETH_SRV_PARENT2.PORT : Fld := ⟨0xD001C, 0x0, 1, 1, 0x0, 0, 16, .rw, 0x0, false⟩
def ETH_SRV_PARENT2.reg : Reg := ⟨"ETH_SRV_PARENT2", 0xD001C, 0x0, 1, 1, 0x0,
  [ETH_SRV_PARENT2.PORT]⟩

/- `ETH_SRV_STATUS` (R392). -/
def ETH_SRV_STATUS.GEN : Fld := ⟨0xD0020, 0x0, 1, 1, 0x0, 16, 16, .ro, 0x0, false⟩
def ETH_SRV_STATUS.STATE : Fld := ⟨0xD0020, 0x0, 1, 1, 0x0, 14, 2, .ro, 0x0, false⟩
def ETH_SRV_STATUS.CAUSE : Fld := ⟨0xD0020, 0x0, 1, 1, 0x0, 8, 4, .ro, 0x1, false⟩
def ETH_SRV_STATUS.ARMED : Fld := ⟨0xD0020, 0x0, 1, 1, 0x0, 7, 1, .ro, 0x1, false⟩
def ETH_SRV_STATUS.ACQUIRED : Fld := ⟨0xD0020, 0x0, 1, 1, 0x0, 6, 1, .ro, 0x0, true⟩
def ETH_SRV_STATUS.WIDE : Fld := ⟨0xD0020, 0x0, 1, 1, 0x0, 5, 1, .ro, 0x0, false⟩
def ETH_SRV_STATUS.RATE_CLAMP : Fld := ⟨0xD0020, 0x0, 1, 1, 0x0, 4, 1, .w1c, 0x0, false⟩
def ETH_SRV_STATUS.reg : Reg := ⟨"ETH_SRV_STATUS", 0xD0020, 0x0, 1, 1, 0x0,
  [ETH_SRV_STATUS.GEN, ETH_SRV_STATUS.STATE, ETH_SRV_STATUS.CAUSE, ETH_SRV_STATUS.ARMED, ETH_SRV_STATUS.ACQUIRED, ETH_SRV_STATUS.WIDE, ETH_SRV_STATUS.RATE_CLAMP]⟩

/- `ETH_SRV_OFFSET0` (R392). -/
def ETH_SRV_OFFSET0.OFFSET : Fld := ⟨0xD0024, 0x0, 1, 1, 0x0, 0, 32, .ro, 0x0, false⟩
def ETH_SRV_OFFSET0.reg : Reg := ⟨"ETH_SRV_OFFSET0", 0xD0024, 0x0, 1, 1, 0x0,
  [ETH_SRV_OFFSET0.OFFSET]⟩

/- `ETH_SRV_OFFSET1` (R392). -/
def ETH_SRV_OFFSET1.OFFSET : Fld := ⟨0xD0028, 0x0, 1, 1, 0x0, 0, 32, .ro, 0x0, false⟩
def ETH_SRV_OFFSET1.reg : Reg := ⟨"ETH_SRV_OFFSET1", 0xD0028, 0x0, 1, 1, 0x0,
  [ETH_SRV_OFFSET1.OFFSET]⟩

/- `ETH_SRV_OFFSET2` (R392). -/
def ETH_SRV_OFFSET2.GEN : Fld := ⟨0xD002C, 0x0, 1, 1, 0x0, 16, 16, .ro, 0x0, false⟩
def ETH_SRV_OFFSET2.VALID : Fld := ⟨0xD002C, 0x0, 1, 1, 0x0, 15, 1, .ro, 0x0, false⟩
def ETH_SRV_OFFSET2.REFUSED : Fld := ⟨0xD002C, 0x0, 1, 1, 0x0, 14, 1, .ro, 0x0, false⟩
def ETH_SRV_OFFSET2.reg : Reg := ⟨"ETH_SRV_OFFSET2", 0xD002C, 0x0, 1, 1, 0x0,
  [ETH_SRV_OFFSET2.GEN, ETH_SRV_OFFSET2.VALID, ETH_SRV_OFFSET2.REFUSED]⟩

/- `ETH_SRV_DELAY` (R392). -/
def ETH_SRV_DELAY.D_MEAN : Fld := ⟨0xD0030, 0x0, 1, 1, 0x0, 0, 32, .ro, 0x0, false⟩
def ETH_SRV_DELAY.reg : Reg := ⟨"ETH_SRV_DELAY", 0xD0030, 0x0, 1, 1, 0x0,
  [ETH_SRV_DELAY.D_MEAN]⟩

/- `ETH_SRV_STEP0` (R392). -/
def ETH_SRV_STEP0.NS : Fld := ⟨0xD0034, 0x0, 1, 1, 0x0, 0, 32, .ro, 0x0, false⟩
def ETH_SRV_STEP0.reg : Reg := ⟨"ETH_SRV_STEP0", 0xD0034, 0x0, 1, 1, 0x0,
  [ETH_SRV_STEP0.NS]⟩

/- `ETH_SRV_STEP1` (R392). -/
def ETH_SRV_STEP1.SEC : Fld := ⟨0xD0038, 0x0, 1, 1, 0x0, 0, 32, .ro, 0x0, false⟩
def ETH_SRV_STEP1.reg : Reg := ⟨"ETH_SRV_STEP1", 0xD0038, 0x0, 1, 1, 0x0,
  [ETH_SRV_STEP1.SEC]⟩

/- `ETH_SRV_CNT` (R392). -/
def ETH_SRV_CNT.N_REFUSED : Fld := ⟨0xD003C, 0x0, 1, 1, 0x0, 16, 16, .rc, 0x0, false⟩
def ETH_SRV_CNT.N_FOREIGN : Fld := ⟨0xD003C, 0x0, 1, 1, 0x0, 8, 8, .rc, 0x0, false⟩
def ETH_SRV_CNT.N_STEP : Fld := ⟨0xD003C, 0x0, 1, 1, 0x0, 0, 8, .ro, 0x0, true⟩
def ETH_SRV_CNT.reg : Reg := ⟨"ETH_SRV_CNT", 0xD003C, 0x0, 1, 1, 0x0,
  [ETH_SRV_CNT.N_REFUSED, ETH_SRV_CNT.N_FOREIGN, ETH_SRV_CNT.N_STEP]⟩

/- `ETH_P_CFG` (R392). -/
def ETH_P_CFG.USED : Fld := ⟨0xD1000, 0x100, 3, 1, 0x0, 31, 1, .ro, 0x0, false⟩
def ETH_P_CFG.BASEX : Fld := ⟨0xD1000, 0x100, 3, 1, 0x0, 30, 1, .ro, 0x0, false⟩
def ETH_P_CFG.PTP : Fld := ⟨0xD1000, 0x100, 3, 1, 0x0, 29, 1, .ro, 0x0, false⟩
def ETH_P_CFG.reg : Reg := ⟨"ETH_P_CFG", 0xD1000, 0x100, 3, 1, 0x0,
  [ETH_P_CFG.USED, ETH_P_CFG.BASEX, ETH_P_CFG.PTP]⟩

/- `ETH_P_CTRL` (R392). -/
def ETH_P_CTRL.PORT_STATE : Fld := ⟨0xD1004, 0x100, 3, 1, 0x0, 0, 4, .rw, 0x1, false⟩
def ETH_P_CTRL.reg : Reg := ⟨"ETH_P_CTRL", 0xD1004, 0x100, 3, 1, 0x0,
  [ETH_P_CTRL.PORT_STATE]⟩

/- `ETH_P_LAT` (R392). -/
def ETH_P_LAT.LAT_OUT : Fld := ⟨0xD1008, 0x100, 3, 1, 0x0, 16, 16, .rw, 0x0, false⟩
def ETH_P_LAT.LAT_IN : Fld := ⟨0xD1008, 0x100, 3, 1, 0x0, 0, 16, .rw, 0x0, false⟩
def ETH_P_LAT.reg : Reg := ⟨"ETH_P_LAT", 0xD1008, 0x100, 3, 1, 0x0,
  [ETH_P_LAT.LAT_OUT, ETH_P_LAT.LAT_IN]⟩

/- `ETH_P_ASYM` (R392). -/
def ETH_P_ASYM.ASYM : Fld := ⟨0xD100C, 0x100, 3, 1, 0x0, 0, 32, .rw, 0x0, false⟩
def ETH_P_ASYM.reg : Reg := ⟨"ETH_P_ASYM", 0xD100C, 0x100, 3, 1, 0x0,
  [ETH_P_ASYM.ASYM]⟩

/- `ETH_P_TXTS0` (R392). -/
def ETH_P_TXTS0.PRESENT : Fld := ⟨0xD1010, 0x100, 3, 1, 0x0, 31, 1, .rc, 0x0, false⟩
def ETH_P_TXTS0.MSGTYPE : Fld := ⟨0xD1010, 0x100, 3, 1, 0x0, 24, 4, .rc, 0x0, false⟩
def ETH_P_TXTS0.SEQ : Fld := ⟨0xD1010, 0x100, 3, 1, 0x0, 8, 16, .rc, 0x0, false⟩
def ETH_P_TXTS0.TAG : Fld := ⟨0xD1010, 0x100, 3, 1, 0x0, 0, 8, .rc, 0x0, false⟩
def ETH_P_TXTS0.reg : Reg := ⟨"ETH_P_TXTS0", 0xD1010, 0x100, 3, 1, 0x0,
  [ETH_P_TXTS0.PRESENT, ETH_P_TXTS0.MSGTYPE, ETH_P_TXTS0.SEQ, ETH_P_TXTS0.TAG]⟩

/- `ETH_P_TXTS1` (R392). -/
def ETH_P_TXTS1.NS : Fld := ⟨0xD1014, 0x100, 3, 1, 0x0, 0, 32, .ro, 0x0, false⟩
def ETH_P_TXTS1.reg : Reg := ⟨"ETH_P_TXTS1", 0xD1014, 0x100, 3, 1, 0x0,
  [ETH_P_TXTS1.NS]⟩

/- `ETH_P_TXTS2` (R392). -/
def ETH_P_TXTS2.SEC_LO : Fld := ⟨0xD1018, 0x100, 3, 1, 0x0, 0, 32, .ro, 0x0, false⟩
def ETH_P_TXTS2.reg : Reg := ⟨"ETH_P_TXTS2", 0xD1018, 0x100, 3, 1, 0x0,
  [ETH_P_TXTS2.SEC_LO]⟩

/- `ETH_P_TXTS3` (R392). -/
def ETH_P_TXTS3.SEC_HI : Fld := ⟨0xD101C, 0x100, 3, 1, 0x0, 0, 16, .ro, 0x0, false⟩
def ETH_P_TXTS3.reg : Reg := ⟨"ETH_P_TXTS3", 0xD101C, 0x100, 3, 1, 0x0,
  [ETH_P_TXTS3.SEC_HI]⟩

/- `ETH_P_TXTS_STAT` (R392). -/
def ETH_P_TXTS_STAT.EMPTY : Fld := ⟨0xD1020, 0x100, 3, 1, 0x0, 31, 1, .ro, 0x1, false⟩
def ETH_P_TXTS_STAT.OVF : Fld := ⟨0xD1020, 0x100, 3, 1, 0x0, 30, 1, .w1c, 0x0, false⟩
def ETH_P_TXTS_STAT.LEVEL : Fld := ⟨0xD1020, 0x100, 3, 1, 0x0, 24, 4, .ro, 0x0, false⟩
def ETH_P_TXTS_STAT.DROP : Fld := ⟨0xD1020, 0x100, 3, 1, 0x0, 8, 16, .rc, 0x0, false⟩
def ETH_P_TXTS_STAT.UNDERFLOW : Fld := ⟨0xD1020, 0x100, 3, 1, 0x0, 0, 8, .rc, 0x0, false⟩
def ETH_P_TXTS_STAT.reg : Reg := ⟨"ETH_P_TXTS_STAT", 0xD1020, 0x100, 3, 1, 0x0,
  [ETH_P_TXTS_STAT.EMPTY, ETH_P_TXTS_STAT.OVF, ETH_P_TXTS_STAT.LEVEL, ETH_P_TXTS_STAT.DROP, ETH_P_TXTS_STAT.UNDERFLOW]⟩

/- `ETH_P_EGRESS` (R392). -/
def ETH_P_EGRESS.LATE : Fld := ⟨0xD1024, 0x100, 3, 1, 0x0, 16, 16, .rc, 0x0, false⟩
def ETH_P_EGRESS.REFUSED : Fld := ⟨0xD1024, 0x100, 3, 1, 0x0, 0, 16, .rc, 0x0, false⟩
def ETH_P_EGRESS.reg : Reg := ⟨"ETH_P_EGRESS", 0xD1024, 0x100, 3, 1, 0x0,
  [ETH_P_EGRESS.LATE, ETH_P_EGRESS.REFUSED]⟩

/- `ETH_P_PTP_CNT` (R392). -/
def ETH_P_PTP_CNT.RX_EVENT : Fld := ⟨0xD1028, 0x100, 3, 1, 0x0, 16, 16, .rc, 0x0, false⟩
def ETH_P_PTP_CNT.PDELAY_ANS : Fld := ⟨0xD1028, 0x100, 3, 1, 0x0, 0, 16, .rc, 0x0, false⟩
def ETH_P_PTP_CNT.reg : Reg := ⟨"ETH_P_PTP_CNT", 0xD1028, 0x100, 3, 1, 0x0,
  [ETH_P_PTP_CNT.RX_EVENT, ETH_P_PTP_CNT.PDELAY_ANS]⟩

/-- Every register of this file. -/
def regsEth : List Reg :=
  [ETH_PTP_CFG.reg, ETH_SRV_CFG0.reg, ETH_SRV_CFG1.reg, ETH_SRV_CTRL.reg, ETH_SRV_PARENT0.reg, ETH_SRV_PARENT1.reg, ETH_SRV_PARENT2.reg, ETH_SRV_STATUS.reg, ETH_SRV_OFFSET0.reg, ETH_SRV_OFFSET1.reg, ETH_SRV_OFFSET2.reg, ETH_SRV_DELAY.reg, ETH_SRV_STEP0.reg, ETH_SRV_STEP1.reg, ETH_SRV_CNT.reg, ETH_P_CFG.reg, ETH_P_CTRL.reg, ETH_P_LAT.reg, ETH_P_ASYM.reg, ETH_P_TXTS0.reg] ++
  [ETH_P_TXTS1.reg, ETH_P_TXTS2.reg, ETH_P_TXTS3.reg, ETH_P_TXTS_STAT.reg, ETH_P_EGRESS.reg, ETH_P_PTP_CNT.reg]

end Sys2Proof.Machine
end

