-- ==== Sys2Proof/Machine/RegsFab.lean ====
section
/-!
DEFINITION. The registers of FAB: loaves, slices and flash (R94).

Per field: base, stride, count, inner count, inner stride, lowest bit, width, access, reset value, kept across a warm reset.
-/
namespace Sys2Proof.Machine

/- `FAB_STATUS` (R94). -/
def FAB_STATUS.LOADED : Fld := ⟨0x100000, 0x0, 1, 1, 0x0, 31, 1, .ro, 0x0, false⟩
def FAB_STATUS.SLOT : Fld := ⟨0x100000, 0x0, 1, 1, 0x0, 26, 2, .ro, 0x0, false⟩
def FAB_STATUS.N_SAFE : Fld := ⟨0x100000, 0x0, 1, 1, 0x0, 16, 8, .ro, 0x0, false⟩
def FAB_STATUS.N_CTRL : Fld := ⟨0x100000, 0x0, 1, 1, 0x0, 8, 8, .ro, 0x0, false⟩
def FAB_STATUS.N_FAULT : Fld := ⟨0x100000, 0x0, 1, 1, 0x0, 0, 8, .ro, 0x0, false⟩
def FAB_STATUS.reg : Reg := ⟨"FAB_STATUS", 0x100000, 0x0, 1, 1, 0x0,
  [FAB_STATUS.LOADED, FAB_STATUS.SLOT, FAB_STATUS.N_SAFE, FAB_STATUS.N_CTRL, FAB_STATUS.N_FAULT]⟩

/- `FAB_LOAF_ID` (R94). -/
def FAB_LOAF_ID.LOAF_ID : Fld := ⟨0x100004, 0x0, 1, 1, 0x0, 0, 32, .ro, 0x0, false⟩
def FAB_LOAF_ID.reg : Reg := ⟨"FAB_LOAF_ID", 0x100004, 0x0, 1, 1, 0x0,
  [FAB_LOAF_ID.LOAF_ID]⟩

/- `FAB_LOAF_CRC_SAFE` (R94). -/
def FAB_LOAF_CRC_SAFE.CRC : Fld := ⟨0x100008, 0x0, 1, 1, 0x0, 0, 32, .ro, 0x0, false⟩
def FAB_LOAF_CRC_SAFE.reg : Reg := ⟨"FAB_LOAF_CRC_SAFE", 0x100008, 0x0, 1, 1, 0x0,
  [FAB_LOAF_CRC_SAFE.CRC]⟩

/- `FAB_LOAF_CRC_CTRL` (R94). -/
def FAB_LOAF_CRC_CTRL.CRC : Fld := ⟨0x10000C, 0x0, 1, 1, 0x0, 0, 32, .ro, 0x0, false⟩
def FAB_LOAF_CRC_CTRL.reg : Reg := ⟨"FAB_LOAF_CRC_CTRL", 0x10000C, 0x0, 1, 1, 0x0,
  [FAB_LOAF_CRC_CTRL.CRC]⟩

/- `FAB_SEAL` (R94). -/
def FAB_SEAL.CRUST_LIVE : Fld := ⟨0x100010, 0x0, 1, 1, 0x0, 16, 16, .ro, 0x0, false⟩
def FAB_SEAL.SEAL : Fld := ⟨0x100010, 0x0, 1, 1, 0x0, 0, 16, .ro, 0x0, false⟩
def FAB_SEAL.reg : Reg := ⟨"FAB_SEAL", 0x100010, 0x0, 1, 1, 0x0,
  [FAB_SEAL.CRUST_LIVE, FAB_SEAL.SEAL]⟩

/- `FAB_CRUST` (R94). -/
def FAB_CRUST.CHG_DORMANT : Fld := ⟨0x100014, 0x0, 1, 1, 0x0, 31, 1, .ro, 0x0, false⟩
def FAB_CRUST.CHG_SINCE : Fld := ⟨0x100014, 0x0, 1, 1, 0x0, 30, 1, .w1c, 0x0, false⟩
def FAB_CRUST.LATCHED : Fld := ⟨0x100014, 0x0, 1, 1, 0x0, 0, 16, .ro, 0x0, false⟩
def FAB_CRUST.reg : Reg := ⟨"FAB_CRUST", 0x100014, 0x0, 1, 1, 0x0,
  [FAB_CRUST.CHG_DORMANT, FAB_CRUST.CHG_SINCE, FAB_CRUST.LATCHED]⟩

/- `FAB_SLOT_STATUS` (R94). -/
def FAB_SLOT_STATUS.GEN : Fld := ⟨0x100020, 0x4, 4, 1, 0x0, 16, 16, .ro, 0x0, false⟩
def FAB_SLOT_STATUS.VALID : Fld := ⟨0x100020, 0x4, 4, 1, 0x0, 15, 1, .ro, 0x0, false⟩
def FAB_SLOT_STATUS.FREE_OK : Fld := ⟨0x100020, 0x4, 4, 1, 0x0, 3, 1, .ro, 0x0, false⟩
def FAB_SLOT_STATUS.CTRL_OK : Fld := ⟨0x100020, 0x4, 4, 1, 0x0, 2, 1, .ro, 0x0, false⟩
def FAB_SLOT_STATUS.SAFE_OK : Fld := ⟨0x100020, 0x4, 4, 1, 0x0, 1, 1, .ro, 0x0, false⟩
def FAB_SLOT_STATUS.HDR_OK : Fld := ⟨0x100020, 0x4, 4, 1, 0x0, 0, 1, .ro, 0x0, false⟩
def FAB_SLOT_STATUS.reg : Reg := ⟨"FAB_SLOT_STATUS", 0x100020, 0x4, 4, 1, 0x0,
  [FAB_SLOT_STATUS.GEN, FAB_SLOT_STATUS.VALID, FAB_SLOT_STATUS.FREE_OK, FAB_SLOT_STATUS.CTRL_OK, FAB_SLOT_STATUS.SAFE_OK, FAB_SLOT_STATUS.HDR_OK]⟩

/- `FAB_SLOT_ID` (R94). -/
def FAB_SLOT_ID.LOAF_ID : Fld := ⟨0x100030, 0x4, 4, 1, 0x0, 0, 32, .ro, 0x0, false⟩
def FAB_SLOT_ID.reg : Reg := ⟨"FAB_SLOT_ID", 0x100030, 0x4, 4, 1, 0x0,
  [FAB_SLOT_ID.LOAF_ID]⟩

/- `FAB_FLASH_SRC` (R94). -/
def FAB_FLASH_SRC.VALUE : Fld := ⟨0x100040, 0x0, 1, 1, 0x0, 0, 32, .rw, 0x0, false⟩
def FAB_FLASH_SRC.reg : Reg := ⟨"FAB_FLASH_SRC", 0x100040, 0x0, 1, 1, 0x0,
  [FAB_FLASH_SRC.VALUE]⟩

/- `FAB_FLASH_DST` (R94). -/
def FAB_FLASH_DST.VALUE : Fld := ⟨0x100044, 0x0, 1, 1, 0x0, 0, 32, .rw, 0x0, false⟩
def FAB_FLASH_DST.reg : Reg := ⟨"FAB_FLASH_DST", 0x100044, 0x0, 1, 1, 0x0,
  [FAB_FLASH_DST.VALUE]⟩

/- `FAB_FLASH_LEN` (R94). -/
def FAB_FLASH_LEN.VALUE : Fld := ⟨0x100048, 0x0, 1, 1, 0x0, 0, 32, .rw, 0x0, false⟩
def FAB_FLASH_LEN.reg : Reg := ⟨"FAB_FLASH_LEN", 0x100048, 0x0, 1, 1, 0x0,
  [FAB_FLASH_LEN.VALUE]⟩

/- `FAB_FLASH_CTRL` (R94). -/
def FAB_FLASH_CTRL.BOOT_UNLOCK : Fld := ⟨0x10004C, 0x0, 1, 1, 0x0, 8, 1, .rw, 0x0, false⟩
def FAB_FLASH_CTRL.ABORT : Fld := ⟨0x10004C, 0x0, 1, 1, 0x0, 5, 1, .wo, 0x0, false⟩
def FAB_FLASH_CTRL.GO : Fld := ⟨0x10004C, 0x0, 1, 1, 0x0, 4, 1, .wo, 0x0, false⟩
def FAB_FLASH_CTRL.OP : Fld := ⟨0x10004C, 0x0, 1, 1, 0x0, 0, 4, .wo, 0x0, false⟩
def FAB_FLASH_CTRL.reg : Reg := ⟨"FAB_FLASH_CTRL", 0x10004C, 0x0, 1, 1, 0x0,
  [FAB_FLASH_CTRL.BOOT_UNLOCK, FAB_FLASH_CTRL.ABORT, FAB_FLASH_CTRL.GO, FAB_FLASH_CTRL.OP]⟩

/- `FAB_FLASH_RESULT` (R94). -/
def FAB_FLASH_RESULT.GEN : Fld := ⟨0x100050, 0x0, 1, 1, 0x0, 16, 16, .ro, 0x0, false⟩
def FAB_FLASH_RESULT.VALID : Fld := ⟨0x100050, 0x0, 1, 1, 0x0, 15, 1, .ro, 0x0, false⟩
def FAB_FLASH_RESULT.ABORT_ACK : Fld := ⟨0x100050, 0x0, 1, 1, 0x0, 8, 4, .ro, 0x0, false⟩
def FAB_FLASH_RESULT.STATUS : Fld := ⟨0x100050, 0x0, 1, 1, 0x0, 0, 4, .ro, 0x0, false⟩
def FAB_FLASH_RESULT.reg : Reg := ⟨"FAB_FLASH_RESULT", 0x100050, 0x0, 1, 1, 0x0,
  [FAB_FLASH_RESULT.GEN, FAB_FLASH_RESULT.VALID, FAB_FLASH_RESULT.ABORT_ACK, FAB_FLASH_RESULT.STATUS]⟩

/- `FAB_SLICE_STATE` (R94). -/
def FAB_SLICE_STATE.CORR : Fld := ⟨0x100400, 0x4, 128, 1, 0x0, 24, 8, .rc, 0x0, false⟩
def FAB_SLICE_STATE.FAULT : Fld := ⟨0x100400, 0x4, 128, 1, 0x0, 16, 3, .ro, 0x0, false⟩
def FAB_SLICE_STATE.FUNC : Fld := ⟨0x100400, 0x4, 128, 1, 0x0, 8, 8, .ro, 0x0, false⟩
def FAB_SLICE_STATE.SIDE : Fld := ⟨0x100400, 0x4, 128, 1, 0x0, 0, 2, .ro, 0x0, false⟩
def FAB_SLICE_STATE.reg : Reg := ⟨"FAB_SLICE_STATE", 0x100400, 0x4, 128, 1, 0x0,
  [FAB_SLICE_STATE.CORR, FAB_SLICE_STATE.FAULT, FAB_SLICE_STATE.FUNC, FAB_SLICE_STATE.SIDE]⟩

/-- Every register of this file. -/
def regsFab : List Reg :=
  [FAB_STATUS.reg, FAB_LOAF_ID.reg, FAB_LOAF_CRC_SAFE.reg, FAB_LOAF_CRC_CTRL.reg, FAB_SEAL.reg, FAB_CRUST.reg, FAB_SLOT_STATUS.reg, FAB_SLOT_ID.reg, FAB_FLASH_SRC.reg, FAB_FLASH_DST.reg, FAB_FLASH_LEN.reg, FAB_FLASH_CTRL.reg, FAB_FLASH_RESULT.reg, FAB_SLICE_STATE.reg]

end Sys2Proof.Machine
end

