-- ==== Sys2Proof/Machine/RegsGfe.lean ====
section
/-!
DEFINITION. The registers of GFE: Leaven (R303).

Per field: base, stride, count, inner count, inner stride, lowest bit, width, access, reset value, kept across a warm reset.
-/
namespace Sys2Proof.Machine

/- `GFE_STATUS` (R303). -/
def GFE_STATUS.GEN : Fld := ⟨0x80000, 0x0, 1, 1, 0x0, 16, 16, .ro, 0x0, false⟩
def GFE_STATUS.STATE : Fld := ⟨0x80000, 0x0, 1, 1, 0x0, 13, 3, .ro, 0x0, false⟩
def GFE_STATUS.CLOSE_PERMIT : Fld := ⟨0x80000, 0x0, 1, 1, 0x0, 12, 1, .ro, 0x0, false⟩
def GFE_STATUS.ILIM : Fld := ⟨0x80000, 0x0, 1, 1, 0x0, 11, 1, .ro, 0x0, false⟩
def GFE_STATUS.SUP_LOST : Fld := ⟨0x80000, 0x0, 1, 1, 0x0, 10, 1, .ro, 0x0, false⟩
def GFE_STATUS.CLAMP : Fld := ⟨0x80000, 0x0, 1, 1, 0x0, 9, 1, .ro, 0x0, false⟩
def GFE_STATUS.CAUSE : Fld := ⟨0x80000, 0x0, 1, 1, 0x0, 0, 8, .ro, 0x1, false⟩
def GFE_STATUS.reg : Reg := ⟨"GFE_STATUS", 0x80000, 0x0, 1, 1, 0x0,
  [GFE_STATUS.GEN, GFE_STATUS.STATE, GFE_STATUS.CLOSE_PERMIT, GFE_STATUS.ILIM, GFE_STATUS.SUP_LOST, GFE_STATUS.CLAMP, GFE_STATUS.CAUSE]⟩

/- `GFE_CTRL` (R303). -/
def GFE_CTRL.GO : Fld := ⟨0x80004, 0x0, 1, 1, 0x0, 7, 1, .wo, 0x0, false⟩
def GFE_CTRL.OP : Fld := ⟨0x80004, 0x0, 1, 1, 0x0, 0, 4, .wo, 0x0, false⟩
def GFE_CTRL.reg : Reg := ⟨"GFE_CTRL", 0x80004, 0x0, 1, 1, 0x0,
  [GFE_CTRL.GO, GFE_CTRL.OP]⟩

/- `GFE_RESULT` (R303). -/
def GFE_RESULT.GEN : Fld := ⟨0x80008, 0x0, 1, 1, 0x0, 16, 16, .ro, 0x0, false⟩
def GFE_RESULT.VALID : Fld := ⟨0x80008, 0x0, 1, 1, 0x0, 15, 1, .ro, 0x0, false⟩
def GFE_RESULT.OP : Fld := ⟨0x80008, 0x0, 1, 1, 0x0, 12, 3, .ro, 0x0, false⟩
def GFE_RESULT.ABORT_ACK : Fld := ⟨0x80008, 0x0, 1, 1, 0x0, 8, 4, .ro, 0x0, false⟩
def GFE_RESULT.REASON : Fld := ⟨0x80008, 0x0, 1, 1, 0x0, 4, 4, .ro, 0x0, false⟩
def GFE_RESULT.STATUS : Fld := ⟨0x80008, 0x0, 1, 1, 0x0, 0, 4, .ro, 0x0, false⟩
def GFE_RESULT.reg : Reg := ⟨"GFE_RESULT", 0x80008, 0x0, 1, 1, 0x0,
  [GFE_RESULT.GEN, GFE_RESULT.VALID, GFE_RESULT.OP, GFE_RESULT.ABORT_ACK, GFE_RESULT.REASON, GFE_RESULT.STATUS]⟩

/- `GFE_KICK` (R303). -/
def GFE_KICK.KICK : Fld := ⟨0x8000C, 0x0, 1, 1, 0x0, 0, 1, .wo, 0x0, false⟩
def GFE_KICK.reg : Reg := ⟨"GFE_KICK", 0x8000C, 0x0, 1, 1, 0x0,
  [GFE_KICK.KICK]⟩

/- `GFE_SET0` (R303). -/
def GFE_SET0.Q_SET : Fld := ⟨0x80010, 0x0, 1, 1, 0x0, 16, 16, .rw, 0x0, false⟩
def GFE_SET0.P_SET : Fld := ⟨0x80010, 0x0, 1, 1, 0x0, 0, 16, .rw, 0x0, false⟩
def GFE_SET0.reg : Reg := ⟨"GFE_SET0", 0x80010, 0x0, 1, 1, 0x0,
  [GFE_SET0.Q_SET, GFE_SET0.P_SET]⟩

/- `GFE_SET1` (R303). -/
def GFE_SET1.SET_CLIP : Fld := ⟨0x80014, 0x0, 1, 1, 0x0, 31, 1, .w1c, 0x0, false⟩
def GFE_SET1.V_SET : Fld := ⟨0x80014, 0x0, 1, 1, 0x0, 0, 16, .rw, 0x2710, false⟩
def GFE_SET1.reg : Reg := ⟨"GFE_SET1", 0x80014, 0x0, 1, 1, 0x0,
  [GFE_SET1.SET_CLIP, GFE_SET1.V_SET]⟩

/- `GFE_BRIDGES` (R303). -/
def GFE_BRIDGES.N_AVAIL : Fld := ⟨0x80018, 0x0, 1, 1, 0x0, 28, 4, .ro, 0x0, false⟩
def GFE_BRIDGES.REASON : Fld := ⟨0x80018, 0x0, 1, 1, 0x0, 0, 24, .ro, 0x0, false⟩
def GFE_BRIDGES.reg : Reg := ⟨"GFE_BRIDGES", 0x80018, 0x0, 1, 1, 0x0,
  [GFE_BRIDGES.N_AVAIL, GFE_BRIDGES.REASON]⟩

/- `GFE_BASE` (R303). -/
def GFE_BASE.F60 : Fld := ⟨0x80020, 0x0, 1, 1, 0x0, 31, 1, .ro, 0x0, false⟩
def GFE_BASE.TEST_RUN : Fld := ⟨0x80020, 0x0, 1, 1, 0x0, 30, 1, .ro, 0x0, false⟩
def GFE_BASE.ISO : Fld := ⟨0x80020, 0x0, 1, 1, 0x0, 29, 1, .ro, 0x0, false⟩
def GFE_BASE.AUTO_BS : Fld := ⟨0x80020, 0x0, 1, 1, 0x0, 28, 1, .ro, 0x0, false⟩
def GFE_BASE.AUTO_SYNC : Fld := ⟨0x80020, 0x0, 1, 1, 0x0, 27, 1, .ro, 0x0, false⟩
def GFE_BASE.SUP_ACTION : Fld := ⟨0x80020, 0x0, 1, 1, 0x0, 26, 1, .ro, 0x0, false⟩
def GFE_BASE.MIN_BR : Fld := ⟨0x80020, 0x0, 1, 1, 0x0, 20, 4, .ro, 0x1, false⟩
def GFE_BASE.N_BR : Fld := ⟨0x80020, 0x0, 1, 1, 0x0, 16, 4, .ro, 0x0, false⟩
def GFE_BASE.V_BASE : Fld := ⟨0x80020, 0x0, 1, 1, 0x0, 0, 16, .ro, 0x0, false⟩
def GFE_BASE.reg : Reg := ⟨"GFE_BASE", 0x80020, 0x0, 1, 1, 0x0,
  [GFE_BASE.F60, GFE_BASE.TEST_RUN, GFE_BASE.ISO, GFE_BASE.AUTO_BS, GFE_BASE.AUTO_SYNC, GFE_BASE.SUP_ACTION, GFE_BASE.MIN_BR, GFE_BASE.N_BR, GFE_BASE.V_BASE]⟩

/- `GFE_MACH0` (R303). -/
def GFE_MACH0.H : Fld := ⟨0x80024, 0x0, 1, 1, 0x0, 16, 16, .ro, 0xC8, false⟩
def GFE_MACH0.M_P : Fld := ⟨0x80024, 0x0, 1, 1, 0x0, 0, 16, .ro, 0x190, false⟩
def GFE_MACH0.reg : Reg := ⟨"GFE_MACH0", 0x80024, 0x0, 1, 1, 0x0,
  [GFE_MACH0.H, GFE_MACH0.M_P]⟩

/- `GFE_MACH1` (R303). -/
def GFE_MACH1.N_Q : Fld := ⟨0x80028, 0x0, 1, 1, 0x0, 16, 16, .ro, 0x1F4, false⟩
def GFE_MACH1.D : Fld := ⟨0x80028, 0x0, 1, 1, 0x0, 0, 16, .ro, 0xC8, false⟩
def GFE_MACH1.reg : Reg := ⟨"GFE_MACH1", 0x80028, 0x0, 1, 1, 0x0,
  [GFE_MACH1.N_Q, GFE_MACH1.D]⟩

/- `GFE_MACH2` (R303). -/
def GFE_MACH2.T_D : Fld := ⟨0x8002C, 0x0, 1, 1, 0x0, 21, 11, .ro, 0xC8, false⟩
def GFE_MACH2.T_P : Fld := ⟨0x8002C, 0x0, 1, 1, 0x0, 12, 9, .ro, 0x32, false⟩
def GFE_MACH2.T_Q : Fld := ⟨0x8002C, 0x0, 1, 1, 0x0, 3, 9, .ro, 0xC8, false⟩
def GFE_MACH2.reg : Reg := ⟨"GFE_MACH2", 0x8002C, 0x0, 1, 1, 0x0,
  [GFE_MACH2.T_D, GFE_MACH2.T_P, GFE_MACH2.T_Q]⟩

/- `GFE_MACH3` (R303). -/
def GFE_MACH3.T_ISO : Fld := ⟨0x80030, 0x0, 1, 1, 0x0, 22, 10, .ro, 0x1E, false⟩
def GFE_MACH3.P_RAMP : Fld := ⟨0x80030, 0x0, 1, 1, 0x0, 0, 16, .ro, 0x32, false⟩
def GFE_MACH3.reg : Reg := ⟨"GFE_MACH3", 0x80030, 0x0, 1, 1, 0x0,
  [GFE_MACH3.T_ISO, GFE_MACH3.P_RAMP]⟩

/- `GFE_VIMP` (R303). -/
def GFE_VIMP.X_VFRT : Fld := ⟨0x80034, 0x0, 1, 1, 0x0, 22, 10, .ro, 0x12C, false⟩
def GFE_VIMP.X_V : Fld := ⟨0x80034, 0x0, 1, 1, 0x0, 10, 10, .ro, 0x64, false⟩
def GFE_VIMP.R_V : Fld := ⟨0x80034, 0x0, 1, 1, 0x0, 0, 10, .ro, 0xA, false⟩
def GFE_VIMP.reg : Reg := ⟨"GFE_VIMP", 0x80034, 0x0, 1, 1, 0x0,
  [GFE_VIMP.X_VFRT, GFE_VIMP.X_V, GFE_VIMP.R_V]⟩

/- `GFE_LIMITS` (R303). -/
def GFE_LIMITS.I_LIM_CONT : Fld := ⟨0x80038, 0x0, 1, 1, 0x0, 24, 8, .ro, 0x6E, false⟩
def GFE_LIMITS.I_LIM_FRT : Fld := ⟨0x80038, 0x0, 1, 1, 0x0, 16, 8, .ro, 0x96, false⟩
def GFE_LIMITS.P_LIM_SET : Fld := ⟨0x80038, 0x0, 1, 1, 0x0, 8, 8, .ro, 0x64, false⟩
def GFE_LIMITS.F_TRIP : Fld := ⟨0x80038, 0x0, 1, 1, 0x0, 0, 8, .ro, 0x32, false⟩
def GFE_LIMITS.reg : Reg := ⟨"GFE_LIMITS", 0x80038, 0x0, 1, 1, 0x0,
  [GFE_LIMITS.I_LIM_CONT, GFE_LIMITS.I_LIM_FRT, GFE_LIMITS.P_LIM_SET, GFE_LIMITS.F_TRIP]⟩

/- `GFE_DC` (R303). -/
def GFE_DC.V_DC_MAX : Fld := ⟨0x8003C, 0x0, 1, 1, 0x0, 16, 16, .ro, 0x0, false⟩
def GFE_DC.V_DC_MIN : Fld := ⟨0x8003C, 0x0, 1, 1, 0x0, 0, 16, .ro, 0x0, false⟩
def GFE_DC.reg : Reg := ⟨"GFE_DC", 0x8003C, 0x0, 1, 1, 0x0,
  [GFE_DC.V_DC_MAX, GFE_DC.V_DC_MIN]⟩

/- `GFE_FRT0` (R303). -/
def GFE_FRT0.V_ENTER : Fld := ⟨0x80040, 0x0, 1, 1, 0x0, 24, 8, .ro, 0x55, false⟩
def GFE_FRT0.V_EXIT : Fld := ⟨0x80040, 0x0, 1, 1, 0x0, 16, 8, .ro, 0x5A, false⟩
def GFE_FRT0.FRT_DP : Fld := ⟨0x80040, 0x0, 1, 1, 0x0, 8, 8, .ro, 0x14, false⟩
def GFE_FRT0.V_HI : Fld := ⟨0x80040, 0x0, 1, 1, 0x0, 0, 8, .ro, 0x78, false⟩
def GFE_FRT0.reg : Reg := ⟨"GFE_FRT0", 0x80040, 0x0, 1, 1, 0x0,
  [GFE_FRT0.V_ENTER, GFE_FRT0.V_EXIT, GFE_FRT0.FRT_DP, GFE_FRT0.V_HI]⟩

/- `GFE_FRT1` (R303). -/
def GFE_FRT1.T_FRT_REC : Fld := ⟨0x80044, 0x0, 1, 1, 0x0, 16, 16, .ro, 0x64, false⟩
def GFE_FRT1.T_FRT_MAX : Fld := ⟨0x80044, 0x0, 1, 1, 0x0, 0, 16, .ro, 0xBB8, false⟩
def GFE_FRT1.reg : Reg := ⟨"GFE_FRT1", 0x80044, 0x0, 1, 1, 0x0,
  [GFE_FRT1.T_FRT_REC, GFE_FRT1.T_FRT_MAX]⟩

/- `GFE_FRT_PT` (R303). -/
def GFE_FRT_PT.T : Fld := ⟨0x80048, 0x4, 8, 1, 0x0, 16, 16, .ro, 0x0, false⟩
def GFE_FRT_PT.VMIN : Fld := ⟨0x80048, 0x4, 8, 1, 0x0, 0, 8, .ro, 0x0, false⟩
def GFE_FRT_PT.reg : Reg := ⟨"GFE_FRT_PT", 0x80048, 0x4, 8, 1, 0x0,
  [GFE_FRT_PT.T, GFE_FRT_PT.VMIN]⟩

/- `GFE_BS0` (R303). -/
def GFE_BS0.T_DEAD : Fld := ⟨0x80070, 0x0, 1, 1, 0x0, 16, 16, .ro, 0x32, false⟩
def GFE_BS0.V_DEAD : Fld := ⟨0x80070, 0x0, 1, 1, 0x0, 8, 8, .ro, 0xA, false⟩
def GFE_BS0.V_LIVE : Fld := ⟨0x80070, 0x0, 1, 1, 0x0, 0, 8, .ro, 0x50, false⟩
def GFE_BS0.reg : Reg := ⟨"GFE_BS0", 0x80070, 0x0, 1, 1, 0x0,
  [GFE_BS0.T_DEAD, GFE_BS0.V_DEAD, GFE_BS0.V_LIVE]⟩

/- `GFE_BS1` (R303). -/
def GFE_BS1.T_RAMP : Fld := ⟨0x80074, 0x0, 1, 1, 0x0, 22, 10, .ro, 0xC8, false⟩
def GFE_BS1.BACKOFF_MAX : Fld := ⟨0x80074, 0x0, 1, 1, 0x0, 17, 5, .ro, 0xA, false⟩
def GFE_BS1.T_BS_ILIM : Fld := ⟨0x80074, 0x0, 1, 1, 0x0, 8, 9, .ro, 0x64, false⟩
def GFE_BS1.reg : Reg := ⟨"GFE_BS1", 0x80074, 0x0, 1, 1, 0x0,
  [GFE_BS1.T_RAMP, GFE_BS1.BACKOFF_MAX, GFE_BS1.T_BS_ILIM]⟩

/- `GFE_BS2` (R303). -/
def GFE_BS2.T_LIVE : Fld := ⟨0x80078, 0x0, 1, 1, 0x0, 16, 16, .ro, 0x32, false⟩
def GFE_BS2.BS_SEED : Fld := ⟨0x80078, 0x0, 1, 1, 0x0, 0, 16, .ro, 0x0, false⟩
def GFE_BS2.reg : Reg := ⟨"GFE_BS2", 0x80078, 0x0, 1, 1, 0x0,
  [GFE_BS2.T_LIVE, GFE_BS2.BS_SEED]⟩

/- `GFE_SYNC0` (R303). -/
def GFE_SYNC0.SLEW : Fld := ⟨0x80080, 0x0, 1, 1, 0x0, 24, 8, .ro, 0x14, false⟩
def GFE_SYNC0.PHI_WIN : Fld := ⟨0x80080, 0x0, 1, 1, 0x0, 16, 8, .ro, 0xA, false⟩
def GFE_SYNC0.F_WIN : Fld := ⟨0x80080, 0x0, 1, 1, 0x0, 8, 8, .ro, 0xA, false⟩
def GFE_SYNC0.V_WIN : Fld := ⟨0x80080, 0x0, 1, 1, 0x0, 0, 8, .ro, 0x32, false⟩
def GFE_SYNC0.reg : Reg := ⟨"GFE_SYNC0", 0x80080, 0x0, 1, 1, 0x0,
  [GFE_SYNC0.SLEW, GFE_SYNC0.PHI_WIN, GFE_SYNC0.F_WIN, GFE_SYNC0.V_WIN]⟩

/- `GFE_SYNC1` (R303). -/
def GFE_SYNC1.T_QUAL : Fld := ⟨0x80084, 0x0, 1, 1, 0x0, 20, 12, .ro, 0xC8, false⟩
def GFE_SYNC1.T_SYNC_MAX : Fld := ⟨0x80084, 0x0, 1, 1, 0x0, 10, 10, .ro, 0x12C, false⟩
def GFE_SYNC1.F_RAMP : Fld := ⟨0x80084, 0x0, 1, 1, 0x0, 0, 10, .ro, 0xA, false⟩
def GFE_SYNC1.reg : Reg := ⟨"GFE_SYNC1", 0x80084, 0x0, 1, 1, 0x0,
  [GFE_SYNC1.T_QUAL, GFE_SYNC1.T_SYNC_MAX, GFE_SYNC1.F_RAMP]⟩

/- `GFE_SUP` (R303). -/
def GFE_SUP.T_SUP : Fld := ⟨0x80088, 0x0, 1, 1, 0x0, 16, 16, .ro, 0x3E8, false⟩
def GFE_SUP.reg : Reg := ⟨"GFE_SUP", 0x80088, 0x0, 1, 1, 0x0,
  [GFE_SUP.T_SUP]⟩

/- `GFE_FF_CFG0` (R303). -/
def GFE_FF_CFG0.FF_LIM : Fld := ⟨0x80090, 0x0, 1, 1, 0x0, 24, 8, .ro, 0xA, false⟩
def GFE_FF_CFG0.FF_HOLD : Fld := ⟨0x80090, 0x0, 1, 1, 0x0, 14, 10, .ro, 0x64, false⟩
def GFE_FF_CFG0.FF_AGE : Fld := ⟨0x80090, 0x0, 1, 1, 0x0, 4, 10, .ro, 0x64, false⟩
def GFE_FF_CFG0.FF_RING : Fld := ⟨0x80090, 0x0, 1, 1, 0x0, 0, 3, .ro, 0x0, false⟩
def GFE_FF_CFG0.reg : Reg := ⟨"GFE_FF_CFG0", 0x80090, 0x0, 1, 1, 0x0,
  [GFE_FF_CFG0.FF_LIM, GFE_FF_CFG0.FF_HOLD, GFE_FF_CFG0.FF_AGE, GFE_FF_CFG0.FF_RING]⟩

/- `GFE_FF_CFG1` (R303). -/
def GFE_FF_CFG1.FF_CONF_MIN : Fld := ⟨0x80094, 0x0, 1, 1, 0x0, 24, 8, .ro, 0x80, false⟩
def GFE_FF_CFG1.FF_RATE : Fld := ⟨0x80094, 0x0, 1, 1, 0x0, 14, 10, .ro, 0x64, false⟩
def GFE_FF_CFG1.SOC_GAIN : Fld := ⟨0x80094, 0x0, 1, 1, 0x0, 0, 8, .ro, 0x0, false⟩
def GFE_FF_CFG1.reg : Reg := ⟨"GFE_FF_CFG1", 0x80094, 0x0, 1, 1, 0x0,
  [GFE_FF_CFG1.FF_CONF_MIN, GFE_FF_CFG1.FF_RATE, GFE_FF_CFG1.SOC_GAIN]⟩

/- `GFE_FF_STATUS` (R303). -/
def GFE_FF_STATUS.R_FF : Fld := ⟨0x80098, 0x0, 1, 1, 0x0, 16, 16, .ro, 0x0, false⟩
def GFE_FF_STATUS.N_ACTIVE : Fld := ⟨0x80098, 0x0, 1, 1, 0x0, 11, 5, .ro, 0x0, false⟩
def GFE_FF_STATUS.SOC_BIAS : Fld := ⟨0x80098, 0x0, 1, 1, 0x0, 0, 11, .ro, 0x0, false⟩
def GFE_FF_STATUS.reg : Reg := ⟨"GFE_FF_STATUS", 0x80098, 0x0, 1, 1, 0x0,
  [GFE_FF_STATUS.R_FF, GFE_FF_STATUS.N_ACTIVE, GFE_FF_STATUS.SOC_BIAS]⟩

/- `GFE_FF_CNT` (R303). -/
def GFE_FF_CNT.USED : Fld := ⟨0x8009C, 0x0, 1, 1, 0x0, 16, 16, .rc, 0x0, false⟩
def GFE_FF_CNT.IGNORED : Fld := ⟨0x8009C, 0x0, 1, 1, 0x0, 0, 16, .rc, 0x0, false⟩
def GFE_FF_CNT.reg : Reg := ⟨"GFE_FF_CNT", 0x8009C, 0x0, 1, 1, 0x0,
  [GFE_FF_CNT.USED, GFE_FF_CNT.IGNORED]⟩

/- `GFE_MEAS0` (R303). -/
def GFE_MEAS0.GEN : Fld := ⟨0x800A0, 0x0, 1, 1, 0x0, 16, 16, .ro, 0x0, false⟩
def GFE_MEAS0.F_OWN : Fld := ⟨0x800A0, 0x0, 1, 1, 0x0, 0, 16, .ro, 0x0, false⟩
def GFE_MEAS0.reg : Reg := ⟨"GFE_MEAS0", 0x800A0, 0x0, 1, 1, 0x0,
  [GFE_MEAS0.GEN, GFE_MEAS0.F_OWN]⟩

/- `GFE_MEAS1` (R303). -/
def GFE_MEAS1.VB : Fld := ⟨0x800A4, 0x0, 1, 1, 0x0, 16, 16, .ro, 0x0, false⟩
def GFE_MEAS1.VG : Fld := ⟨0x800A4, 0x0, 1, 1, 0x0, 0, 16, .ro, 0x0, false⟩
def GFE_MEAS1.reg : Reg := ⟨"GFE_MEAS1", 0x800A4, 0x0, 1, 1, 0x0,
  [GFE_MEAS1.VB, GFE_MEAS1.VG]⟩

/- `GFE_MEAS2` (R303). -/
def GFE_MEAS2.QE : Fld := ⟨0x800A8, 0x0, 1, 1, 0x0, 16, 16, .ro, 0x0, false⟩
def GFE_MEAS2.PE : Fld := ⟨0x800A8, 0x0, 1, 1, 0x0, 0, 16, .ro, 0x0, false⟩
def GFE_MEAS2.reg : Reg := ⟨"GFE_MEAS2", 0x800A8, 0x0, 1, 1, 0x0,
  [GFE_MEAS2.QE, GFE_MEAS2.PE]⟩

/- `GFE_MEAS3` (R303). -/
def GFE_MEAS3.DPHI : Fld := ⟨0x800AC, 0x0, 1, 1, 0x0, 16, 16, .ro, 0x0, false⟩
def GFE_MEAS3.DF : Fld := ⟨0x800AC, 0x0, 1, 1, 0x0, 0, 16, .ro, 0x0, false⟩
def GFE_MEAS3.reg : Reg := ⟨"GFE_MEAS3", 0x800AC, 0x0, 1, 1, 0x0,
  [GFE_MEAS3.DPHI, GFE_MEAS3.DF]⟩

/- `GFE_PHASE_T0` (R303). -/
def GFE_PHASE_T0.NS : Fld := ⟨0x800B0, 0x0, 1, 1, 0x0, 0, 32, .ro, 0x0, false⟩
def GFE_PHASE_T0.reg : Reg := ⟨"GFE_PHASE_T0", 0x800B0, 0x0, 1, 1, 0x0,
  [GFE_PHASE_T0.NS]⟩

/- `GFE_PHASE_T1` (R303). -/
def GFE_PHASE_T1.SEC_LO : Fld := ⟨0x800B4, 0x0, 1, 1, 0x0, 0, 32, .ro, 0x0, false⟩
def GFE_PHASE_T1.reg : Reg := ⟨"GFE_PHASE_T1", 0x800B4, 0x0, 1, 1, 0x0,
  [GFE_PHASE_T1.SEC_LO]⟩

/- `GFE_PHASE_T2` (R303). -/
def GFE_PHASE_T2.SEC_HI : Fld := ⟨0x800B8, 0x0, 1, 1, 0x0, 0, 16, .ro, 0x0, false⟩
def GFE_PHASE_T2.reg : Reg := ⟨"GFE_PHASE_T2", 0x800B8, 0x0, 1, 1, 0x0,
  [GFE_PHASE_T2.SEC_HI]⟩

/- `GFE_COUNT` (R303). -/
def GFE_COUNT.N_AUTO : Fld := ⟨0x800C0, 0x0, 1, 1, 0x0, 24, 8, .ro, 0x0, false⟩
def GFE_COUNT.N_TRIP : Fld := ⟨0x800C0, 0x0, 1, 1, 0x0, 0, 16, .rc, 0x0, false⟩
def GFE_COUNT.reg : Reg := ⟨"GFE_COUNT", 0x800C0, 0x0, 1, 1, 0x0,
  [GFE_COUNT.N_AUTO, GFE_COUNT.N_TRIP]⟩

/- `GFE_BR_CFG` (R303). -/
def GFE_BR_CFG.USED : Fld := ⟨0x80100, 0x4, 12, 1, 0x0, 31, 1, .ro, 0x0, false⟩
def GFE_BR_CFG.RATING : Fld := ⟨0x80100, 0x4, 12, 1, 0x0, 0, 16, .ro, 0x0, false⟩
def GFE_BR_CFG.reg : Reg := ⟨"GFE_BR_CFG", 0x80100, 0x4, 12, 1, 0x0,
  [GFE_BR_CFG.USED, GFE_BR_CFG.RATING]⟩

/- `GFE_FF_AMP` (R303). -/
def GFE_FF_AMP.A : Fld := ⟨0x80200, 0x4, 64, 1, 0x0, 0, 16, .ro, 0x0, false⟩
def GFE_FF_AMP.reg : Reg := ⟨"GFE_FF_AMP", 0x80200, 0x4, 64, 1, 0x0,
  [GFE_FF_AMP.A]⟩

/-- Every register of this file. -/
def regsGfe : List Reg :=
  [GFE_STATUS.reg, GFE_CTRL.reg, GFE_RESULT.reg, GFE_KICK.reg, GFE_SET0.reg, GFE_SET1.reg, GFE_BRIDGES.reg, GFE_BASE.reg, GFE_MACH0.reg, GFE_MACH1.reg, GFE_MACH2.reg, GFE_MACH3.reg, GFE_VIMP.reg, GFE_LIMITS.reg, GFE_DC.reg, GFE_FRT0.reg, GFE_FRT1.reg, GFE_FRT_PT.reg, GFE_BS0.reg, GFE_BS1.reg] ++
  [GFE_BS2.reg, GFE_SYNC0.reg, GFE_SYNC1.reg, GFE_SUP.reg, GFE_FF_CFG0.reg, GFE_FF_CFG1.reg, GFE_FF_STATUS.reg, GFE_FF_CNT.reg, GFE_MEAS0.reg, GFE_MEAS1.reg, GFE_MEAS2.reg, GFE_MEAS3.reg, GFE_PHASE_T0.reg, GFE_PHASE_T1.reg, GFE_PHASE_T2.reg, GFE_COUNT.reg, GFE_BR_CFG.reg, GFE_FF_AMP.reg]

end Sys2Proof.Machine
end

