-- ==== Sys2Proof/Machine/RegsHfe.lean ====
section
/-!
DEFINITION. The registers of HFE: head front end and Chafer (R125, R156).

Per field: base, stride, count, inner count, inner stride, lowest bit, width, access, reset value, kept across a warm reset.
-/
namespace Sys2Proof.Machine

/- `HFE_HEAD_CFG` (R125). -/
def HFE_HEAD_CFG.USED : Fld := ⟨0x20000, 0x100, 96, 1, 0x0, 31, 1, .ro, 0x0, false⟩
def HFE_HEAD_CFG.F_FULL : Fld := ⟨0x20000, 0x100, 96, 1, 0x0, 24, 4, .ro, 0x2, false⟩
def HFE_HEAD_CFG.F_LOW : Fld := ⟨0x20000, 0x100, 96, 1, 0x0, 23, 1, .ro, 0x1, false⟩
def HFE_HEAD_CFG.reg : Reg := ⟨"HFE_HEAD_CFG", 0x20000, 0x100, 96, 1, 0x0,
  [HFE_HEAD_CFG.USED, HFE_HEAD_CFG.F_FULL, HFE_HEAD_CFG.F_LOW]⟩

/- `HFE_SC_MASK` (R125). -/
def HFE_SC_MASK.MASK : Fld := ⟨0x20004, 0x100, 288, 3, 0x4, 0, 32, .ro, 0x0, false⟩
def HFE_SC_MASK.reg : Reg := ⟨"HFE_SC_MASK", 0x20004, 0x100, 288, 3, 0x4,
  [HFE_SC_MASK.MASK]⟩

/- `HFE_THR0` (R125). -/
def HFE_THR0.THR_OPEN : Fld := ⟨0x20020, 0x100, 192, 2, 0x20, 16, 16, .ro, 0x0, false⟩
def HFE_THR0.THR_DAMP : Fld := ⟨0x20020, 0x100, 192, 2, 0x20, 0, 16, .ro, 0x7FFF, false⟩
def HFE_THR0.reg : Reg := ⟨"HFE_THR0", 0x20020, 0x100, 192, 2, 0x20,
  [HFE_THR0.THR_OPEN, HFE_THR0.THR_DAMP]⟩

/- `HFE_THR1` (R125). -/
def HFE_THR1.SHUNT : Fld := ⟨0x20024, 0x100, 192, 2, 0x20, 16, 16, .ro, 0x0, false⟩
def HFE_THR1.THR_SHORT : Fld := ⟨0x20024, 0x100, 192, 2, 0x20, 0, 16, .ro, 0x7FFF, false⟩
def HFE_THR1.reg : Reg := ⟨"HFE_THR1", 0x20024, 0x100, 192, 2, 0x20,
  [HFE_THR1.SHUNT, HFE_THR1.THR_SHORT]⟩

/- `HFE_CANC` (R125). -/
def HFE_CANC.QUIET : Fld := ⟨0x20028, 0x100, 192, 2, 0x20, 16, 16, .ro, 0x0, false⟩
def HFE_CANC.CLIP : Fld := ⟨0x20028, 0x100, 192, 2, 0x20, 0, 16, .ro, 0x0, false⟩
def HFE_CANC.reg : Reg := ⟨"HFE_CANC", 0x20028, 0x100, 192, 2, 0x20,
  [HFE_CANC.QUIET, HFE_CANC.CLIP]⟩

/- `HFE_SAMPLE` (R125). -/
def HFE_SAMPLE.TICK : Fld := ⟨0x2002C, 0x100, 192, 2, 0x20, 24, 8, .ro, 0x0, false⟩
def HFE_SAMPLE.BLANK : Fld := ⟨0x2002C, 0x100, 192, 2, 0x20, 23, 1, .ro, 0x0, false⟩
def HFE_SAMPLE.LOW : Fld := ⟨0x2002C, 0x100, 192, 2, 0x20, 22, 1, .ro, 0x0, false⟩
def HFE_SAMPLE.CODE : Fld := ⟨0x2002C, 0x100, 192, 2, 0x20, 0, 16, .ro, 0x0, false⟩
def HFE_SAMPLE.reg : Reg := ⟨"HFE_SAMPLE", 0x2002C, 0x100, 192, 2, 0x20,
  [HFE_SAMPLE.TICK, HFE_SAMPLE.BLANK, HFE_SAMPLE.LOW, HFE_SAMPLE.CODE]⟩

/- `HFE_STATUS` (R125). -/
def HFE_STATUS.HSUP : Fld := ⟨0x20030, 0x100, 192, 2, 0x20, 31, 1, .ro, 0x0, false⟩
def HFE_STATUS.TEST : Fld := ⟨0x20030, 0x100, 192, 2, 0x20, 30, 1, .ro, 0x0, false⟩
def HFE_STATUS.BLANK : Fld := ⟨0x20030, 0x100, 192, 2, 0x20, 29, 1, .ro, 0x0, false⟩
def HFE_STATUS.LOW_RATE : Fld := ⟨0x20030, 0x100, 192, 2, 0x20, 26, 1, .ro, 0x0, false⟩
def HFE_STATUS.ABOVE_SHORT : Fld := ⟨0x20030, 0x100, 192, 2, 0x20, 25, 1, .ro, 0x0, false⟩
def HFE_STATUS.CROSSING : Fld := ⟨0x20030, 0x100, 192, 2, 0x20, 24, 1, .ro, 0x0, false⟩
def HFE_STATUS.BELOW_OPEN : Fld := ⟨0x20030, 0x100, 192, 2, 0x20, 23, 1, .ro, 0x0, false⟩
def HFE_STATUS.FAULT : Fld := ⟨0x20030, 0x100, 192, 2, 0x20, 16, 4, .ro, 0x0, false⟩
def HFE_STATUS.PARTNER : Fld := ⟨0x20030, 0x100, 192, 2, 0x20, 8, 8, .ro, 0xFF, false⟩
def HFE_STATUS.reg : Reg := ⟨"HFE_STATUS", 0x20030, 0x100, 192, 2, 0x20,
  [HFE_STATUS.HSUP, HFE_STATUS.TEST, HFE_STATUS.BLANK, HFE_STATUS.LOW_RATE, HFE_STATUS.ABOVE_SHORT, HFE_STATUS.CROSSING, HFE_STATUS.BELOW_OPEN, HFE_STATUS.FAULT, HFE_STATUS.PARTNER]⟩

/- `HFE_FAULT` (R125). -/
def HFE_FAULT.SEEN : Fld := ⟨0x20034, 0x100, 192, 2, 0x20, 1, 9, .w1c, 0x0, false⟩
def HFE_FAULT.reg : Reg := ⟨"HFE_FAULT", 0x20034, 0x100, 192, 2, 0x20,
  [HFE_FAULT.SEEN]⟩

/- `HFE_TEST` (R125). -/
def HFE_TEST.GEN : Fld := ⟨0x20038, 0x100, 192, 2, 0x20, 16, 16, .ro, 0x0, false⟩
def HFE_TEST.VALID : Fld := ⟨0x20038, 0x100, 192, 2, 0x20, 15, 1, .ro, 0x0, false⟩
def HFE_TEST.RESULT : Fld := ⟨0x20038, 0x100, 192, 2, 0x20, 8, 4, .ro, 0x0, false⟩
def HFE_TEST.PARTNER : Fld := ⟨0x20038, 0x100, 192, 2, 0x20, 0, 8, .ro, 0xFF, false⟩
def HFE_TEST.reg : Reg := ⟨"HFE_TEST", 0x20038, 0x100, 192, 2, 0x20,
  [HFE_TEST.GEN, HFE_TEST.VALID, HFE_TEST.RESULT, HFE_TEST.PARTNER]⟩

/- `HFE_COUNT` (R125). -/
def HFE_COUNT.TRANSIENT : Fld := ⟨0x2003C, 0x100, 192, 2, 0x20, 24, 8, .rc, 0x0, false⟩
def HFE_COUNT.ABANDON : Fld := ⟨0x2003C, 0x100, 192, 2, 0x20, 16, 8, .rc, 0x0, false⟩
def HFE_COUNT.LATE : Fld := ⟨0x2003C, 0x100, 192, 2, 0x20, 15, 1, .ro, 0x0, false⟩
def HFE_COUNT.reg : Reg := ⟨"HFE_COUNT", 0x2003C, 0x100, 192, 2, 0x20,
  [HFE_COUNT.TRANSIENT, HFE_COUNT.ABANDON, HFE_COUNT.LATE]⟩

/- `HFE_GLB_STATUS` (R125). -/
def HFE_GLB_STATUS.RATE : Fld := ⟨0x28000, 0x0, 1, 1, 0x0, 30, 2, .ro, 0x0, false⟩
def HFE_GLB_STATUS.SCHED : Fld := ⟨0x28000, 0x0, 1, 1, 0x0, 29, 1, .ro, 0x0, false⟩
def HFE_GLB_STATUS.PROOF_TEST : Fld := ⟨0x28000, 0x0, 1, 1, 0x0, 28, 1, .ro, 0x0, false⟩
def HFE_GLB_STATUS.N_FAULT : Fld := ⟨0x28000, 0x0, 1, 1, 0x0, 16, 8, .ro, 0x0, false⟩
def HFE_GLB_STATUS.N_LATE : Fld := ⟨0x28000, 0x0, 1, 1, 0x0, 8, 8, .ro, 0x0, false⟩
def HFE_GLB_STATUS.N_USED : Fld := ⟨0x28000, 0x0, 1, 1, 0x0, 0, 8, .ro, 0x0, false⟩
def HFE_GLB_STATUS.reg : Reg := ⟨"HFE_GLB_STATUS", 0x28000, 0x0, 1, 1, 0x0,
  [HFE_GLB_STATUS.RATE, HFE_GLB_STATUS.SCHED, HFE_GLB_STATUS.PROOF_TEST, HFE_GLB_STATUS.N_FAULT, HFE_GLB_STATUS.N_LATE, HFE_GLB_STATUS.N_USED]⟩

/- `HFE_TEST_CFG0` (R125). -/
def HFE_TEST_CFG0.T_HST : Fld := ⟨0x28004, 0x0, 1, 1, 0x0, 22, 10, .ro, 0x64, false⟩
def HFE_TEST_CFG0.T_OFF : Fld := ⟨0x28004, 0x0, 1, 1, 0x0, 16, 6, .ro, 0x19, false⟩
def HFE_TEST_CFG0.T_RST : Fld := ⟨0x28004, 0x0, 1, 1, 0x0, 8, 8, .ro, 0xC8, false⟩
def HFE_TEST_CFG0.reg : Reg := ⟨"HFE_TEST_CFG0", 0x28004, 0x0, 1, 1, 0x0,
  [HFE_TEST_CFG0.T_HST, HFE_TEST_CFG0.T_OFF, HFE_TEST_CFG0.T_RST]⟩

/- `HFE_TEST_CFG1` (R125). -/
def HFE_TEST_CFG1.DELTA_X : Fld := ⟨0x28008, 0x0, 1, 1, 0x0, 0, 16, .ro, 0x51F, false⟩
def HFE_TEST_CFG1.reg : Reg := ⟨"HFE_TEST_CFG1", 0x28008, 0x0, 1, 1, 0x0,
  [HFE_TEST_CFG1.DELTA_X]⟩

/- `HFE_TEST_POS` (R125). -/
def HFE_TEST_POS.ROUND : Fld := ⟨0x2800C, 0x0, 1, 1, 0x0, 16, 16, .ro, 0x0, false⟩
def HFE_TEST_POS.NEXT : Fld := ⟨0x2800C, 0x0, 1, 1, 0x0, 8, 8, .ro, 0x0, false⟩
def HFE_TEST_POS.CUR : Fld := ⟨0x2800C, 0x0, 1, 1, 0x0, 0, 8, .ro, 0xFF, false⟩
def HFE_TEST_POS.reg : Reg := ⟨"HFE_TEST_POS", 0x2800C, 0x0, 1, 1, 0x0,
  [HFE_TEST_POS.ROUND, HFE_TEST_POS.NEXT, HFE_TEST_POS.CUR]⟩

/- `HFE_BAND` (R125). -/
def HFE_BAND.F_HI : Fld := ⟨0x28010, 0x0, 1, 1, 0x0, 16, 16, .ro, 0x0, false⟩
def HFE_BAND.F_LO : Fld := ⟨0x28010, 0x0, 1, 1, 0x0, 0, 16, .ro, 0x0, false⟩
def HFE_BAND.reg : Reg := ⟨"HFE_BAND", 0x28010, 0x0, 1, 1, 0x0,
  [HFE_BAND.F_HI, HFE_BAND.F_LO]⟩

/- `HFE_DAMP_MAP` (R125). -/
def HFE_DAMP_MAP.MAP : Fld := ⟨0x28020, 0x4, 6, 1, 0x0, 0, 32, .ro, 0x0, false⟩
def HFE_DAMP_MAP.reg : Reg := ⟨"HFE_DAMP_MAP", 0x28020, 0x4, 6, 1, 0x0,
  [HFE_DAMP_MAP.MAP]⟩

/- `HFE_FAULT_MAP` (R125). -/
def HFE_FAULT_MAP.MAP : Fld := ⟨0x28040, 0x4, 6, 1, 0x0, 0, 32, .ro, 0x0, false⟩
def HFE_FAULT_MAP.reg : Reg := ⟨"HFE_FAULT_MAP", 0x28040, 0x4, 6, 1, 0x0,
  [HFE_FAULT_MAP.MAP]⟩

/- `HFE_CANC_MAP` (R125). -/
def HFE_CANC_MAP.MAP : Fld := ⟨0x28060, 0x4, 6, 1, 0x0, 0, 32, .ro, 0x0, false⟩
def HFE_CANC_MAP.reg : Reg := ⟨"HFE_CANC_MAP", 0x28060, 0x4, 6, 1, 0x0,
  [HFE_CANC_MAP.MAP]⟩

/- `HFE_REC_BASE` (R125). -/
def HFE_REC_BASE.BASE : Fld := ⟨0x28100, 0x0, 1, 1, 0x0, 21, 11, .rw, 0x0, false⟩
def HFE_REC_BASE.reg : Reg := ⟨"HFE_REC_BASE", 0x28100, 0x0, 1, 1, 0x0,
  [HFE_REC_BASE.BASE]⟩

/- `HFE_REC_LEN` (R125). -/
def HFE_REC_LEN.LEN : Fld := ⟨0x28104, 0x0, 1, 1, 0x0, 0, 8, .rw, 0x0, false⟩
def HFE_REC_LEN.reg : Reg := ⟨"HFE_REC_LEN", 0x28104, 0x0, 1, 1, 0x0,
  [HFE_REC_LEN.LEN]⟩

/- `HFE_REC_CTRL` (R125). -/
def HFE_REC_CTRL.POST : Fld := ⟨0x28108, 0x0, 1, 1, 0x0, 16, 12, .rw, 0x0, false⟩
def HFE_REC_CTRL.DECIM : Fld := ⟨0x28108, 0x0, 1, 1, 0x0, 8, 3, .rw, 0x0, false⟩
def HFE_REC_CTRL.ARM : Fld := ⟨0x28108, 0x0, 1, 1, 0x0, 1, 1, .w1s, 0x0, false⟩
def HFE_REC_CTRL.ENABLE : Fld := ⟨0x28108, 0x0, 1, 1, 0x0, 0, 1, .rw, 0x0, false⟩
def HFE_REC_CTRL.reg : Reg := ⟨"HFE_REC_CTRL", 0x28108, 0x0, 1, 1, 0x0,
  [HFE_REC_CTRL.POST, HFE_REC_CTRL.DECIM, HFE_REC_CTRL.ARM, HFE_REC_CTRL.ENABLE]⟩

/- `HFE_REC_STATUS` (R125). -/
def HFE_REC_STATUS.N_BLK : Fld := ⟨0x2810C, 0x0, 1, 1, 0x0, 16, 16, .ro, 0x0, false⟩
def HFE_REC_STATUS.FROZEN : Fld := ⟨0x2810C, 0x0, 1, 1, 0x0, 15, 1, .ro, 0x0, false⟩
def HFE_REC_STATUS.ARMED : Fld := ⟨0x2810C, 0x0, 1, 1, 0x0, 14, 1, .ro, 0x0, false⟩
def HFE_REC_STATUS.POST_RUN : Fld := ⟨0x2810C, 0x0, 1, 1, 0x0, 13, 1, .ro, 0x0, false⟩
def HFE_REC_STATUS.CFG_ERR : Fld := ⟨0x2810C, 0x0, 1, 1, 0x0, 12, 1, .ro, 0x0, false⟩
def HFE_REC_STATUS.reg : Reg := ⟨"HFE_REC_STATUS", 0x2810C, 0x0, 1, 1, 0x0,
  [HFE_REC_STATUS.N_BLK, HFE_REC_STATUS.FROZEN, HFE_REC_STATUS.ARMED, HFE_REC_STATUS.POST_RUN, HFE_REC_STATUS.CFG_ERR]⟩

/- `HFE_REC_SEQ_LO` (R125). -/
def HFE_REC_SEQ_LO.SEQ : Fld := ⟨0x28110, 0x0, 1, 1, 0x0, 0, 32, .ro, 0x0, false⟩
def HFE_REC_SEQ_LO.reg : Reg := ⟨"HFE_REC_SEQ_LO", 0x28110, 0x0, 1, 1, 0x0,
  [HFE_REC_SEQ_LO.SEQ]⟩

/- `HFE_REC_SEQ_HI` (R125). -/
def HFE_REC_SEQ_HI.SEQ : Fld := ⟨0x28114, 0x0, 1, 1, 0x0, 0, 32, .ro, 0x0, false⟩
def HFE_REC_SEQ_HI.reg : Reg := ⟨"HFE_REC_SEQ_HI", 0x28114, 0x0, 1, 1, 0x0,
  [HFE_REC_SEQ_HI.SEQ]⟩

/- `HFE_REC_LOST` (R125). -/
def HFE_REC_LOST.LOST : Fld := ⟨0x28118, 0x0, 1, 1, 0x0, 0, 32, .rc, 0x0, false⟩
def HFE_REC_LOST.reg : Reg := ⟨"HFE_REC_LOST", 0x28118, 0x0, 1, 1, 0x0,
  [HFE_REC_LOST.LOST]⟩

/- `HFE_RRC_CFG` (R125). -/
def HFE_RRC_CFG.USED : Fld := ⟨0x29000, 0x10, 8, 1, 0x0, 31, 1, .ro, 0x0, false⟩
def HFE_RRC_CFG.QUIET : Fld := ⟨0x29000, 0x10, 8, 1, 0x0, 16, 15, .ro, 0x0, false⟩
def HFE_RRC_CFG.SCALE : Fld := ⟨0x29000, 0x10, 8, 1, 0x0, 0, 16, .ro, 0x0, false⟩
def HFE_RRC_CFG.reg : Reg := ⟨"HFE_RRC_CFG", 0x29000, 0x10, 8, 1, 0x0,
  [HFE_RRC_CFG.USED, HFE_RRC_CFG.QUIET, HFE_RRC_CFG.SCALE]⟩

/- `HFE_RRC_SAMPLE` (R125). -/
def HFE_RRC_SAMPLE.TICK : Fld := ⟨0x29004, 0x10, 8, 1, 0x0, 24, 8, .ro, 0x0, false⟩
def HFE_RRC_SAMPLE.CODE : Fld := ⟨0x29004, 0x10, 8, 1, 0x0, 0, 16, .ro, 0x0, false⟩
def HFE_RRC_SAMPLE.reg : Reg := ⟨"HFE_RRC_SAMPLE", 0x29004, 0x10, 8, 1, 0x0,
  [HFE_RRC_SAMPLE.TICK, HFE_RRC_SAMPLE.CODE]⟩

/- `HFE_RRC_STATUS` (R125). -/
def HFE_RRC_STATUS.FAILED : Fld := ⟨0x29008, 0x10, 8, 1, 0x0, 31, 1, .ro, 0x0, false⟩
def HFE_RRC_STATUS.CLIP : Fld := ⟨0x29008, 0x10, 8, 1, 0x0, 30, 1, .w1c, 0x0, false⟩
def HFE_RRC_STATUS.ABSENT : Fld := ⟨0x29008, 0x10, 8, 1, 0x0, 29, 1, .ro, 0x1, false⟩
def HFE_RRC_STATUS.reg : Reg := ⟨"HFE_RRC_STATUS", 0x29008, 0x10, 8, 1, 0x0,
  [HFE_RRC_STATUS.FAILED, HFE_RRC_STATUS.CLIP, HFE_RRC_STATUS.ABSENT]⟩

/- `HFE_CHF_CFG0` (R156). -/
def HFE_CHF_CFG0.L_AB : Fld := ⟨0x20080, 0x100, 96, 1, 0x0, 16, 16, .ro, 0x0, false⟩
def HFE_CHF_CFG0.FILT_TAPS : Fld := ⟨0x20080, 0x100, 96, 1, 0x0, 8, 5, .ro, 0x7, false⟩
def HFE_CHF_CFG0.MAG_SKEW : Fld := ⟨0x20080, 0x100, 96, 1, 0x0, 4, 4, .ro, 0x2, false⟩
def HFE_CHF_CFG0.N_ROCK : Fld := ⟨0x20080, 0x100, 96, 1, 0x0, 0, 4, .ro, 0x2, false⟩
def HFE_CHF_CFG0.reg : Reg := ⟨"HFE_CHF_CFG0", 0x20080, 0x100, 96, 1, 0x0,
  [HFE_CHF_CFG0.L_AB, HFE_CHF_CFG0.FILT_TAPS, HFE_CHF_CFG0.MAG_SKEW, HFE_CHF_CFG0.N_ROCK]⟩

/- `HFE_CHF_CFG1` (R156). -/
def HFE_CHF_CFG1.T_DISC : Fld := ⟨0x20084, 0x100, 96, 1, 0x0, 17, 15, .ro, 0xFA, false⟩
def HFE_CHF_CFG1.HYST : Fld := ⟨0x20084, 0x100, 96, 1, 0x0, 0, 16, .ro, 0x28F, false⟩
def HFE_CHF_CFG1.reg : Reg := ⟨"HFE_CHF_CFG1", 0x20084, 0x100, 96, 1, 0x0,
  [HFE_CHF_CFG1.T_DISC, HFE_CHF_CFG1.HYST]⟩

/- `HFE_CHF_CFG2` (R156). -/
def HFE_CHF_CFG2.T_QUIET : Fld := ⟨0x20088, 0x100, 96, 1, 0x0, 16, 16, .ro, 0x3E8, false⟩
def HFE_CHF_CFG2.T_STAND : Fld := ⟨0x20088, 0x100, 96, 1, 0x0, 0, 16, .ro, 0xC8, false⟩
def HFE_CHF_CFG2.reg : Reg := ⟨"HFE_CHF_CFG2", 0x20088, 0x100, 96, 1, 0x0,
  [HFE_CHF_CFG2.T_QUIET, HFE_CHF_CFG2.T_STAND]⟩

/- `HFE_CHF_CFG3` (R156). -/
def HFE_CHF_CFG3.V_MAX : Fld := ⟨0x2008C, 0x100, 96, 1, 0x0, 16, 16, .ro, 0x11F8, false⟩
def HFE_CHF_CFG3.LEN_MAX : Fld := ⟨0x2008C, 0x100, 96, 1, 0x0, 0, 16, .ro, 0x190, false⟩
def HFE_CHF_CFG3.reg : Reg := ⟨"HFE_CHF_CFG3", 0x2008C, 0x100, 96, 1, 0x0,
  [HFE_CHF_CFG3.V_MAX, HFE_CHF_CFG3.LEN_MAX]⟩

/- `HFE_CHF_CFG4` (R156). -/
def HFE_CHF_CFG4.A_REV : Fld := ⟨0x20098, 0x100, 96, 1, 0x0, 16, 8, .ro, 0x32, false⟩
def HFE_CHF_CFG4.TAU_D : Fld := ⟨0x20098, 0x100, 96, 1, 0x0, 0, 10, .ro, 0x3C, false⟩
def HFE_CHF_CFG4.reg : Reg := ⟨"HFE_CHF_CFG4", 0x20098, 0x100, 96, 1, 0x0,
  [HFE_CHF_CFG4.A_REV, HFE_CHF_CFG4.TAU_D]⟩

/- `HFE_CHF_NOM_A` (R156). -/
def HFE_CHF_NOM_A.DRIFT_LIM : Fld := ⟨0x20090, 0x100, 96, 1, 0x0, 16, 16, .ro, 0xA3D, false⟩
def HFE_CHF_NOM_A.FREE_NOM : Fld := ⟨0x20090, 0x100, 96, 1, 0x0, 0, 16, .ro, 0x0, false⟩
def HFE_CHF_NOM_A.reg : Reg := ⟨"HFE_CHF_NOM_A", 0x20090, 0x100, 96, 1, 0x0,
  [HFE_CHF_NOM_A.DRIFT_LIM, HFE_CHF_NOM_A.FREE_NOM]⟩

/- `HFE_CHF_NOM_B` (R156). -/
def HFE_CHF_NOM_B.DRIFT_LIM : Fld := ⟨0x20094, 0x100, 96, 1, 0x0, 16, 16, .ro, 0xA3D, false⟩
def HFE_CHF_NOM_B.FREE_NOM : Fld := ⟨0x20094, 0x100, 96, 1, 0x0, 0, 16, .ro, 0x0, false⟩
def HFE_CHF_NOM_B.reg : Reg := ⟨"HFE_CHF_NOM_B", 0x20094, 0x100, 96, 1, 0x0,
  [HFE_CHF_NOM_B.DRIFT_LIM, HFE_CHF_NOM_B.FREE_NOM]⟩

/- `HFE_CHF_STATE` (R156). -/
def HFE_CHF_STATE.HSTATE : Fld := ⟨0x200A0, 0x100, 96, 1, 0x0, 30, 2, .ro, 0x1, false⟩
def HFE_CHF_STATE.CAUSE : Fld := ⟨0x200A0, 0x100, 96, 1, 0x0, 16, 8, .ro, 0x8, false⟩
def HFE_CHF_STATE.SYS_B : Fld := ⟨0x200A0, 0x100, 96, 1, 0x0, 14, 2, .ro, 0x0, false⟩
def HFE_CHF_STATE.SYS_A : Fld := ⟨0x200A0, 0x100, 96, 1, 0x0, 12, 2, .ro, 0x0, false⟩
def HFE_CHF_STATE.STANDING : Fld := ⟨0x200A0, 0x100, 96, 1, 0x0, 11, 1, .ro, 0x0, false⟩
def HFE_CHF_STATE.ROCKING : Fld := ⟨0x200A0, 0x100, 96, 1, 0x0, 10, 1, .ro, 0x0, false⟩
def HFE_CHF_STATE.DRIFT_WARN : Fld := ⟨0x200A0, 0x100, 96, 1, 0x0, 9, 1, .ro, 0x0, false⟩
def HFE_CHF_STATE.WAIT_00 : Fld := ⟨0x200A0, 0x100, 96, 1, 0x0, 8, 1, .ro, 0x0, false⟩
def HFE_CHF_STATE.PATTERN : Fld := ⟨0x200A0, 0x100, 96, 1, 0x0, 6, 2, .ro, 0x0, false⟩
def HFE_CHF_STATE.ENTRY : Fld := ⟨0x200A0, 0x100, 96, 1, 0x0, 4, 2, .ro, 0x0, false⟩
def HFE_CHF_STATE.PASSAGE : Fld := ⟨0x200A0, 0x100, 96, 1, 0x0, 3, 1, .ro, 0x0, false⟩
def HFE_CHF_STATE.reg : Reg := ⟨"HFE_CHF_STATE", 0x200A0, 0x100, 96, 1, 0x0,
  [HFE_CHF_STATE.HSTATE, HFE_CHF_STATE.CAUSE, HFE_CHF_STATE.SYS_B, HFE_CHF_STATE.SYS_A, HFE_CHF_STATE.STANDING, HFE_CHF_STATE.ROCKING, HFE_CHF_STATE.DRIFT_WARN, HFE_CHF_STATE.WAIT_00, HFE_CHF_STATE.PATTERN, HFE_CHF_STATE.ENTRY, HFE_CHF_STATE.PASSAGE]⟩

/- `HFE_CHF_DISC` (R156). -/
def HFE_CHF_DISC.RUN : Fld := ⟨0x200A4, 0x100, 96, 1, 0x0, 31, 1, .ro, 0x0, false⟩
def HFE_CHF_DISC.E_NOW : Fld := ⟨0x200A4, 0x100, 96, 1, 0x0, 16, 15, .ro, 0x0, false⟩
def HFE_CHF_DISC.E_LAST : Fld := ⟨0x200A4, 0x100, 96, 1, 0x0, 0, 15, .ro, 0x0, false⟩
def HFE_CHF_DISC.reg : Reg := ⟨"HFE_CHF_DISC", 0x200A4, 0x100, 96, 1, 0x0,
  [HFE_CHF_DISC.RUN, HFE_CHF_DISC.E_NOW, HFE_CHF_DISC.E_LAST]⟩

/- `HFE_CHF_CNT0` (R156). -/
def HFE_CHF_CNT0.NEAR_MISS : Fld := ⟨0x200A8, 0x100, 96, 1, 0x0, 16, 16, .rc, 0x0, false⟩
def HFE_CHF_CNT0.RETREAT : Fld := ⟨0x200A8, 0x100, 96, 1, 0x0, 0, 16, .rc, 0x0, false⟩
def HFE_CHF_CNT0.reg : Reg := ⟨"HFE_CHF_CNT0", 0x200A8, 0x100, 96, 1, 0x0,
  [HFE_CHF_CNT0.NEAR_MISS, HFE_CHF_CNT0.RETREAT]⟩

/- `HFE_CHF_CNT1` (R156). -/
def HFE_CHF_CNT1.MAGNET : Fld := ⟨0x200AC, 0x100, 96, 1, 0x0, 16, 16, .rc, 0x0, false⟩
def HFE_CHF_CNT1.EXCUSED : Fld := ⟨0x200AC, 0x100, 96, 1, 0x0, 0, 16, .rc, 0x0, false⟩
def HFE_CHF_CNT1.reg : Reg := ⟨"HFE_CHF_CNT1", 0x200AC, 0x100, 96, 1, 0x0,
  [HFE_CHF_CNT1.MAGNET, HFE_CHF_CNT1.EXCUSED]⟩

/- `HFE_CHF_SEQ` (R156). -/
def HFE_CHF_SEQ.KIND : Fld := ⟨0x200B0, 0x100, 96, 1, 0x0, 24, 8, .ro, 0x0, false⟩
def HFE_CHF_SEQ.SEQ : Fld := ⟨0x200B0, 0x100, 96, 1, 0x0, 0, 24, .ro, 0x0, false⟩
def HFE_CHF_SEQ.reg : Reg := ⟨"HFE_CHF_SEQ", 0x200B0, 0x100, 96, 1, 0x0,
  [HFE_CHF_SEQ.KIND, HFE_CHF_SEQ.SEQ]⟩

/- `HFE_CHF_DRIFT_A` (R156). -/
def HFE_CHF_DRIFT_A.DRIFT : Fld := ⟨0x200B4, 0x100, 96, 1, 0x0, 16, 16, .ro, 0x0, false⟩
def HFE_CHF_DRIFT_A.EST : Fld := ⟨0x200B4, 0x100, 96, 1, 0x0, 0, 16, .ro, 0x0, false⟩
def HFE_CHF_DRIFT_A.reg : Reg := ⟨"HFE_CHF_DRIFT_A", 0x200B4, 0x100, 96, 1, 0x0,
  [HFE_CHF_DRIFT_A.DRIFT, HFE_CHF_DRIFT_A.EST]⟩

/- `HFE_CHF_DRIFT_B` (R156). -/
def HFE_CHF_DRIFT_B.DRIFT : Fld := ⟨0x200B8, 0x100, 96, 1, 0x0, 16, 16, .ro, 0x0, false⟩
def HFE_CHF_DRIFT_B.EST : Fld := ⟨0x200B8, 0x100, 96, 1, 0x0, 0, 16, .ro, 0x0, false⟩
def HFE_CHF_DRIFT_B.reg : Reg := ⟨"HFE_CHF_DRIFT_B", 0x200B8, 0x100, 96, 1, 0x0,
  [HFE_CHF_DRIFT_B.DRIFT, HFE_CHF_DRIFT_B.EST]⟩

/- `HFE_CHF_LAST` (R156). -/
def HFE_CHF_LAST.SPEED : Fld := ⟨0x200BC, 0x100, 96, 1, 0x0, 16, 16, .ro, 0x0, false⟩
def HFE_CHF_LAST.CONF : Fld := ⟨0x200BC, 0x100, 96, 1, 0x0, 8, 8, .ro, 0x0, false⟩
def HFE_CHF_LAST.DIR : Fld := ⟨0x200BC, 0x100, 96, 1, 0x0, 0, 2, .ro, 0x0, false⟩
def HFE_CHF_LAST.reg : Reg := ⟨"HFE_CHF_LAST", 0x200BC, 0x100, 96, 1, 0x0,
  [HFE_CHF_LAST.SPEED, HFE_CHF_LAST.CONF, HFE_CHF_LAST.DIR]⟩

/- `HFE_CHF_CAUSE` (R156). -/
def HFE_CHF_CAUSE.N_DIST : Fld := ⟨0x200C0, 0x100, 96, 1, 0x0, 16, 16, .rc, 0x0, false⟩
def HFE_CHF_CAUSE.LAST : Fld := ⟨0x200C0, 0x100, 96, 1, 0x0, 0, 8, .ro, 0x8, false⟩
def HFE_CHF_CAUSE.reg : Reg := ⟨"HFE_CHF_CAUSE", 0x200C0, 0x100, 96, 1, 0x0,
  [HFE_CHF_CAUSE.N_DIST, HFE_CHF_CAUSE.LAST]⟩

/- `HFE_CHF_OK_MAP` (R156). -/
def HFE_CHF_OK_MAP.MAP : Fld := ⟨0x2A010, 0x4, 3, 1, 0x0, 0, 32, .ro, 0x0, false⟩
def HFE_CHF_OK_MAP.reg : Reg := ⟨"HFE_CHF_OK_MAP", 0x2A010, 0x4, 3, 1, 0x0,
  [HFE_CHF_OK_MAP.MAP]⟩

/- `HFE_CHF_DIST_MAP` (R156). -/
def HFE_CHF_DIST_MAP.MAP : Fld := ⟨0x2A020, 0x4, 3, 1, 0x0, 0, 32, .ro, 0x0, false⟩
def HFE_CHF_DIST_MAP.reg : Reg := ⟨"HFE_CHF_DIST_MAP", 0x2A020, 0x4, 3, 1, 0x0,
  [HFE_CHF_DIST_MAP.MAP]⟩

/- `HFE_CHF_FAIL_MAP` (R156). -/
def HFE_CHF_FAIL_MAP.MAP : Fld := ⟨0x2A030, 0x4, 3, 1, 0x0, 0, 32, .ro, 0x0, false⟩
def HFE_CHF_FAIL_MAP.reg : Reg := ⟨"HFE_CHF_FAIL_MAP", 0x2A030, 0x4, 3, 1, 0x0,
  [HFE_CHF_FAIL_MAP.MAP]⟩

/- `HFE_CHF_MAP_GEN` (R156). -/
def HFE_CHF_MAP_GEN.GEN : Fld := ⟨0x2A040, 0x0, 1, 1, 0x0, 16, 16, .ro, 0x0, false⟩
def HFE_CHF_MAP_GEN.TICK : Fld := ⟨0x2A040, 0x0, 1, 1, 0x0, 0, 8, .ro, 0x0, false⟩
def HFE_CHF_MAP_GEN.reg : Reg := ⟨"HFE_CHF_MAP_GEN", 0x2A040, 0x0, 1, 1, 0x0,
  [HFE_CHF_MAP_GEN.GEN, HFE_CHF_MAP_GEN.TICK]⟩

/- `HFE_CHF_POST` (R156). -/
def HFE_CHF_POST.LOST : Fld := ⟨0x2A044, 0x0, 1, 1, 0x0, 16, 16, .rc, 0x0, false⟩
def HFE_CHF_POST.PENDING : Fld := ⟨0x2A044, 0x0, 1, 1, 0x0, 8, 8, .ro, 0x0, false⟩
def HFE_CHF_POST.RING : Fld := ⟨0x2A044, 0x0, 1, 1, 0x0, 0, 3, .ro, 0x0, false⟩
def HFE_CHF_POST.reg : Reg := ⟨"HFE_CHF_POST", 0x2A044, 0x0, 1, 1, 0x0,
  [HFE_CHF_POST.LOST, HFE_CHF_POST.PENDING, HFE_CHF_POST.RING]⟩

/-- Every register of this file. -/
def regsHfe : List Reg :=
  [HFE_HEAD_CFG.reg, HFE_SC_MASK.reg, HFE_THR0.reg, HFE_THR1.reg, HFE_CANC.reg, HFE_SAMPLE.reg, HFE_STATUS.reg, HFE_FAULT.reg, HFE_TEST.reg, HFE_COUNT.reg, HFE_GLB_STATUS.reg, HFE_TEST_CFG0.reg, HFE_TEST_CFG1.reg, HFE_TEST_POS.reg, HFE_BAND.reg, HFE_DAMP_MAP.reg, HFE_FAULT_MAP.reg, HFE_CANC_MAP.reg, HFE_REC_BASE.reg, HFE_REC_LEN.reg] ++
  [HFE_REC_CTRL.reg, HFE_REC_STATUS.reg, HFE_REC_SEQ_LO.reg, HFE_REC_SEQ_HI.reg, HFE_REC_LOST.reg, HFE_RRC_CFG.reg, HFE_RRC_SAMPLE.reg, HFE_RRC_STATUS.reg, HFE_CHF_CFG0.reg, HFE_CHF_CFG1.reg, HFE_CHF_CFG2.reg, HFE_CHF_CFG3.reg, HFE_CHF_CFG4.reg, HFE_CHF_NOM_A.reg, HFE_CHF_NOM_B.reg, HFE_CHF_STATE.reg, HFE_CHF_DISC.reg, HFE_CHF_CNT0.reg, HFE_CHF_CNT1.reg, HFE_CHF_SEQ.reg] ++
  [HFE_CHF_DRIFT_A.reg, HFE_CHF_DRIFT_B.reg, HFE_CHF_LAST.reg, HFE_CHF_CAUSE.reg, HFE_CHF_OK_MAP.reg, HFE_CHF_DIST_MAP.reg, HFE_CHF_FAIL_MAP.reg, HFE_CHF_MAP_GEN.reg, HFE_CHF_POST.reg]

end Sys2Proof.Machine
end

