-- ==== Sys2Proof/Machine/RegsLks.lean ====
section
/-!
DEFINITION. The registers of LKS: the Scarab pair (R216).

Per field: base, stride, count, inner count, inner stride, lowest bit, width, access, reset value, kept across a warm reset.
-/
namespace Sys2Proof.Machine

/- `LKS_STATUS` (R216). -/
def LKS_STATUS.GEN : Fld := ⟨0x70000, 0x0, 1, 1, 0x0, 16, 16, .ro, 0x0, false⟩
def LKS_STATUS.SPLIT_CAUSE : Fld := ⟨0x70000, 0x0, 1, 1, 0x0, 8, 4, .ro, 0x0, false⟩
def LKS_STATUS.HB_ARMED : Fld := ⟨0x70000, 0x0, 1, 1, 0x0, 7, 1, .ro, 0x0, false⟩
def LKS_STATUS.CMP_EN : Fld := ⟨0x70000, 0x0, 1, 1, 0x0, 6, 1, .ro, 0x0, false⟩
def LKS_STATUS.CORE1_RUN : Fld := ⟨0x70000, 0x0, 1, 1, 0x0, 5, 1, .ro, 0x0, false⟩
def LKS_STATUS.CORE0_RUN : Fld := ⟨0x70000, 0x0, 1, 1, 0x0, 4, 1, .ro, 0x0, false⟩
def LKS_STATUS.STATE : Fld := ⟨0x70000, 0x0, 1, 1, 0x0, 0, 3, .ro, 0x0, false⟩
def LKS_STATUS.reg : Reg := ⟨"LKS_STATUS", 0x70000, 0x0, 1, 1, 0x0,
  [LKS_STATUS.GEN, LKS_STATUS.SPLIT_CAUSE, LKS_STATUS.HB_ARMED, LKS_STATUS.CMP_EN, LKS_STATUS.CORE1_RUN, LKS_STATUS.CORE0_RUN, LKS_STATUS.STATE]⟩

/- `LKS_CTRL` (R216). -/
def LKS_CTRL.TAG : Fld := ⟨0x70004, 0x0, 1, 1, 0x0, 16, 16, .wo, 0x0, false⟩
def LKS_CTRL.TARGET : Fld := ⟨0x70004, 0x0, 1, 1, 0x0, 4, 3, .wo, 0x0, false⟩
def LKS_CTRL.REJOIN : Fld := ⟨0x70004, 0x0, 1, 1, 0x0, 1, 1, .wo, 0x0, false⟩
def LKS_CTRL.SPLIT : Fld := ⟨0x70004, 0x0, 1, 1, 0x0, 0, 1, .wo, 0x0, false⟩
def LKS_CTRL.reg : Reg := ⟨"LKS_CTRL", 0x70004, 0x0, 1, 1, 0x0,
  [LKS_CTRL.TAG, LKS_CTRL.TARGET, LKS_CTRL.REJOIN, LKS_CTRL.SPLIT]⟩

/- `LKS_RESULT` (R216). -/
def LKS_RESULT.GEN : Fld := ⟨0x70008, 0x0, 1, 1, 0x0, 16, 16, .ro, 0x0, false⟩
def LKS_RESULT.VALID : Fld := ⟨0x70008, 0x0, 1, 1, 0x0, 15, 1, .ro, 0x0, false⟩
def LKS_RESULT.OP : Fld := ⟨0x70008, 0x0, 1, 1, 0x0, 13, 2, .ro, 0x0, false⟩
def LKS_RESULT.REASON : Fld := ⟨0x70008, 0x0, 1, 1, 0x0, 4, 8, .ro, 0x0, false⟩
def LKS_RESULT.STATUS : Fld := ⟨0x70008, 0x0, 1, 1, 0x0, 0, 4, .ro, 0x0, false⟩
def LKS_RESULT.reg : Reg := ⟨"LKS_RESULT", 0x70008, 0x0, 1, 1, 0x0,
  [LKS_RESULT.GEN, LKS_RESULT.VALID, LKS_RESULT.OP, LKS_RESULT.REASON, LKS_RESULT.STATUS]⟩

/- `LKS_RESULT_TAG` (R216). -/
def LKS_RESULT_TAG.TAG : Fld := ⟨0x7000C, 0x0, 1, 1, 0x0, 0, 16, .ro, 0x0, false⟩
def LKS_RESULT_TAG.reg : Reg := ⟨"LKS_RESULT_TAG", 0x7000C, 0x0, 1, 1, 0x0,
  [LKS_RESULT_TAG.TAG]⟩

/- `LKS_FAULT0` (R216). -/
def LKS_FAULT0.VALID : Fld := ⟨0x70010, 0x0, 1, 1, 0x0, 31, 1, .rws, 0x0, true⟩
def LKS_FAULT0.KIND : Fld := ⟨0x70010, 0x0, 1, 1, 0x0, 28, 3, .rws, 0x0, true⟩
def LKS_FAULT0.PORT : Fld := ⟨0x70010, 0x0, 1, 1, 0x0, 25, 3, .rws, 0x0, true⟩
def LKS_FAULT0.HALF : Fld := ⟨0x70010, 0x0, 1, 1, 0x0, 23, 2, .rws, 0x0, true⟩
def LKS_FAULT0.INSTANCE : Fld := ⟨0x70010, 0x0, 1, 1, 0x0, 21, 2, .rws, 0x0, true⟩
def LKS_FAULT0.LANE_FIRST : Fld := ⟨0x70010, 0x0, 1, 1, 0x0, 8, 8, .rws, 0x0, true⟩
def LKS_FAULT0.N_LANES : Fld := ⟨0x70010, 0x0, 1, 1, 0x0, 0, 8, .rws, 0x0, true⟩
def LKS_FAULT0.reg : Reg := ⟨"LKS_FAULT0", 0x70010, 0x0, 1, 1, 0x0,
  [LKS_FAULT0.VALID, LKS_FAULT0.KIND, LKS_FAULT0.PORT, LKS_FAULT0.HALF, LKS_FAULT0.INSTANCE, LKS_FAULT0.LANE_FIRST, LKS_FAULT0.N_LANES]⟩

/- `LKS_FAULT1` (R216). -/
def LKS_FAULT1.PC : Fld := ⟨0x70014, 0x0, 1, 1, 0x0, 0, 32, .rws, 0x0, true⟩
def LKS_FAULT1.reg : Reg := ⟨"LKS_FAULT1", 0x70014, 0x0, 1, 1, 0x0,
  [LKS_FAULT1.PC]⟩

/- `LKS_FAULT2` (R216). -/
def LKS_FAULT2.NS : Fld := ⟨0x70018, 0x0, 1, 1, 0x0, 0, 32, .rws, 0x0, true⟩
def LKS_FAULT2.reg : Reg := ⟨"LKS_FAULT2", 0x70018, 0x0, 1, 1, 0x0,
  [LKS_FAULT2.NS]⟩

/- `LKS_FAULT3` (R216). -/
def LKS_FAULT3.SEC_LO : Fld := ⟨0x7001C, 0x0, 1, 1, 0x0, 0, 32, .rws, 0x0, true⟩
def LKS_FAULT3.reg : Reg := ⟨"LKS_FAULT3", 0x7001C, 0x0, 1, 1, 0x0,
  [LKS_FAULT3.SEC_LO]⟩

/- `LKS_FAULT4` (R216). -/
def LKS_FAULT4.SEC_HI : Fld := ⟨0x70020, 0x0, 1, 1, 0x0, 0, 16, .rws, 0x0, true⟩
def LKS_FAULT4.reg : Reg := ⟨"LKS_FAULT4", 0x70020, 0x0, 1, 1, 0x0,
  [LKS_FAULT4.SEC_HI]⟩

/- `LKS_FAULT_CNT` (R216). -/
def LKS_FAULT_CNT.N_LOCKSTEP : Fld := ⟨0x70024, 0x0, 1, 1, 0x0, 16, 16, .rws, 0x0, true⟩
def LKS_FAULT_CNT.N_COMPARATOR : Fld := ⟨0x70024, 0x0, 1, 1, 0x0, 0, 16, .rws, 0x0, true⟩
def LKS_FAULT_CNT.reg : Reg := ⟨"LKS_FAULT_CNT", 0x70024, 0x0, 1, 1, 0x0,
  [LKS_FAULT_CNT.N_LOCKSTEP, LKS_FAULT_CNT.N_COMPARATOR]⟩

/- `LKS_WEEVIL` (R216). -/
def LKS_WEEVIL.GEN : Fld := ⟨0x70028, 0x0, 1, 1, 0x0, 16, 16, .ro, 0x0, false⟩
def LKS_WEEVIL.VALID : Fld := ⟨0x70028, 0x0, 1, 1, 0x0, 15, 1, .ro, 0x0, false⟩
def LKS_WEEVIL.PASS : Fld := ⟨0x70028, 0x0, 1, 1, 0x0, 14, 1, .ro, 0x0, false⟩
def LKS_WEEVIL.CONTEXT : Fld := ⟨0x70028, 0x0, 1, 1, 0x0, 12, 2, .ro, 0x0, false⟩
def LKS_WEEVIL.N_DONE : Fld := ⟨0x70028, 0x0, 1, 1, 0x0, 0, 12, .ro, 0x0, false⟩
def LKS_WEEVIL.reg : Reg := ⟨"LKS_WEEVIL", 0x70028, 0x0, 1, 1, 0x0,
  [LKS_WEEVIL.GEN, LKS_WEEVIL.VALID, LKS_WEEVIL.PASS, LKS_WEEVIL.CONTEXT, LKS_WEEVIL.N_DONE]⟩

/- `LKS_WEEVIL_FAIL` (R216). -/
def LKS_WEEVIL_FAIL.SET : Fld := ⟨0x7002C, 0x0, 1, 1, 0x0, 28, 4, .ro, 0x0, false⟩
def LKS_WEEVIL_FAIL.INDEX : Fld := ⟨0x7002C, 0x0, 1, 1, 0x0, 0, 16, .ro, 0xFFFF, false⟩
def LKS_WEEVIL_FAIL.reg : Reg := ⟨"LKS_WEEVIL_FAIL", 0x7002C, 0x0, 1, 1, 0x0,
  [LKS_WEEVIL_FAIL.SET, LKS_WEEVIL_FAIL.INDEX]⟩

/- `LKS_HB` (R216). -/
def LKS_HB.ARMED : Fld := ⟨0x70030, 0x0, 1, 1, 0x0, 31, 1, .ro, 0x0, false⟩
def LKS_HB.LOSS_X : Fld := ⟨0x70030, 0x0, 1, 1, 0x0, 30, 1, .ro, 0x0, false⟩
def LKS_HB.LOSS_Y : Fld := ⟨0x70030, 0x0, 1, 1, 0x0, 29, 1, .ro, 0x0, false⟩
def LKS_HB.reg : Reg := ⟨"LKS_HB", 0x70030, 0x0, 1, 1, 0x0,
  [LKS_HB.ARMED, LKS_HB.LOSS_X, LKS_HB.LOSS_Y]⟩

/- `LKS_DBG` (R216). -/
def LKS_DBG.SEEN : Fld := ⟨0x70034, 0x0, 1, 1, 0x0, 8, 1, .w1c, 0x0, false⟩
def LKS_DBG.HALT1 : Fld := ⟨0x70034, 0x0, 1, 1, 0x0, 1, 1, .ro, 0x0, false⟩
def LKS_DBG.HALT0 : Fld := ⟨0x70034, 0x0, 1, 1, 0x0, 0, 1, .ro, 0x0, false⟩
def LKS_DBG.reg : Reg := ⟨"LKS_DBG", 0x70034, 0x0, 1, 1, 0x0,
  [LKS_DBG.SEEN, LKS_DBG.HALT1, LKS_DBG.HALT0]⟩

/- `LKS_CMD_TIME` (R216). -/
def LKS_CMD_TIME.N_LATE : Fld := ⟨0x70038, 0x0, 1, 1, 0x0, 24, 8, .rc, 0x0, false⟩
def LKS_CMD_TIME.MAX : Fld := ⟨0x70038, 0x0, 1, 1, 0x0, 12, 12, .rc, 0x0, false⟩
def LKS_CMD_TIME.LAST : Fld := ⟨0x70038, 0x0, 1, 1, 0x0, 0, 12, .ro, 0x0, false⟩
def LKS_CMD_TIME.reg : Reg := ⟨"LKS_CMD_TIME", 0x70038, 0x0, 1, 1, 0x0,
  [LKS_CMD_TIME.N_LATE, LKS_CMD_TIME.MAX, LKS_CMD_TIME.LAST]⟩

/-- Every register of this file. -/
def regsLks : List Reg :=
  [LKS_STATUS.reg, LKS_CTRL.reg, LKS_RESULT.reg, LKS_RESULT_TAG.reg, LKS_FAULT0.reg, LKS_FAULT1.reg, LKS_FAULT2.reg, LKS_FAULT3.reg, LKS_FAULT4.reg, LKS_FAULT_CNT.reg, LKS_WEEVIL.reg, LKS_WEEVIL_FAIL.reg, LKS_HB.reg, LKS_DBG.reg, LKS_CMD_TIME.reg]

end Sys2Proof.Machine
end

