-- ==== Sys2Proof/Machine/RegsMtr.lean ====
section
/-!
DEFINITION. The registers of MTR and CAN: metering and pack controllers (R354, R355).

Per field: base, stride, count, inner count, inner stride, lowest bit, width, access, reset value, kept across a warm reset.
-/
namespace Sys2Proof.Machine

/- `MTR_GLB_STATUS` (R354). -/
def MTR_GLB_STATUS.N_USED : Fld := ⟨0xB0000, 0x0, 1, 1, 0x0, 26, 6, .ro, 0x0, false⟩
def MTR_GLB_STATUS.N_UNMETERED : Fld := ⟨0xB0000, 0x0, 1, 1, 0x0, 20, 6, .ro, 0x0, false⟩
def MTR_GLB_STATUS.INTEGRATING : Fld := ⟨0xB0000, 0x0, 1, 1, 0x0, 19, 1, .ro, 0x0, false⟩
def MTR_GLB_STATUS.SPARE_FAIL : Fld := ⟨0xB0000, 0x0, 1, 1, 0x0, 18, 1, .ro, 0x0, false⟩
def MTR_GLB_STATUS.UNK_LOST : Fld := ⟨0xB0000, 0x0, 1, 1, 0x0, 8, 8, .rc, 0x0, false⟩
def MTR_GLB_STATUS.N_UNKNOWN : Fld := ⟨0xB0000, 0x0, 1, 1, 0x0, 0, 8, .ro, 0x0, false⟩
def MTR_GLB_STATUS.reg : Reg := ⟨"MTR_GLB_STATUS", 0xB0000, 0x0, 1, 1, 0x0,
  [MTR_GLB_STATUS.N_USED, MTR_GLB_STATUS.N_UNMETERED, MTR_GLB_STATUS.INTEGRATING, MTR_GLB_STATUS.SPARE_FAIL, MTR_GLB_STATUS.UNK_LOST, MTR_GLB_STATUS.N_UNKNOWN]⟩

/- `MTR_LEDGER_CFG` (R354). -/
def MTR_LEDGER_CFG.T_LEDGER : Fld := ⟨0xB0004, 0x0, 1, 1, 0x0, 20, 12, .ro, 0x3C, false⟩
def MTR_LEDGER_CFG.RING : Fld := ⟨0xB0004, 0x0, 1, 1, 0x0, 16, 4, .ro, 0x0, false⟩
def MTR_LEDGER_CFG.reg : Reg := ⟨"MTR_LEDGER_CFG", 0xB0004, 0x0, 1, 1, 0x0,
  [MTR_LEDGER_CFG.T_LEDGER, MTR_LEDGER_CFG.RING]⟩

/- `MTR_LEDGER_STATUS` (R354). -/
def MTR_LEDGER_STATUS.FLASH_FAIL : Fld := ⟨0xB0008, 0x0, 1, 1, 0x0, 31, 1, .ro, 0x0, false⟩
def MTR_LEDGER_STATUS.OLDEST : Fld := ⟨0xB0008, 0x0, 1, 1, 0x0, 16, 15, .ro, 0x0, false⟩
def MTR_LEDGER_STATUS.WRITE_PTR : Fld := ⟨0xB0008, 0x0, 1, 1, 0x0, 0, 16, .ro, 0x0, false⟩
def MTR_LEDGER_STATUS.reg : Reg := ⟨"MTR_LEDGER_STATUS", 0xB0008, 0x0, 1, 1, 0x0,
  [MTR_LEDGER_STATUS.FLASH_FAIL, MTR_LEDGER_STATUS.OLDEST, MTR_LEDGER_STATUS.WRITE_PTR]⟩

/- `MTR_STR_CFG` (R354). -/
def MTR_STR_CFG.USED : Fld := ⟨0xB1000, 0x40, 32, 1, 0x0, 31, 1, .ro, 0x0, false⟩
def MTR_STR_CFG.I_SIGN : Fld := ⟨0xB1000, 0x40, 32, 1, 0x0, 30, 1, .ro, 0x0, false⟩
def MTR_STR_CFG.CAL_TAG : Fld := ⟨0xB1000, 0x40, 32, 1, 0x0, 0, 16, .ro, 0x0, false⟩
def MTR_STR_CFG.reg : Reg := ⟨"MTR_STR_CFG", 0xB1000, 0x40, 32, 1, 0x0,
  [MTR_STR_CFG.USED, MTR_STR_CFG.I_SIGN, MTR_STR_CFG.CAL_TAG]⟩

/- `MTR_STR_SCALE` (R354). -/
def MTR_STR_SCALE.ISCALE : Fld := ⟨0xB1004, 0x40, 32, 1, 0x0, 16, 16, .ro, 0x0, false⟩
def MTR_STR_SCALE.VSCALE : Fld := ⟨0xB1004, 0x40, 32, 1, 0x0, 0, 16, .ro, 0x0, false⟩
def MTR_STR_SCALE.reg : Reg := ⟨"MTR_STR_SCALE", 0xB1004, 0x40, 32, 1, 0x0,
  [MTR_STR_SCALE.ISCALE, MTR_STR_SCALE.VSCALE]⟩

/- `MTR_STR_V` (R354). -/
def MTR_STR_V.GEN : Fld := ⟨0xB1008, 0x40, 32, 1, 0x0, 24, 8, .ro, 0x0, false⟩
def MTR_STR_V.CODE : Fld := ⟨0xB1008, 0x40, 32, 1, 0x0, 0, 24, .ro, 0x0, false⟩
def MTR_STR_V.reg : Reg := ⟨"MTR_STR_V", 0xB1008, 0x40, 32, 1, 0x0,
  [MTR_STR_V.GEN, MTR_STR_V.CODE]⟩

/- `MTR_STR_I` (R354). -/
def MTR_STR_I.GEN : Fld := ⟨0xB100C, 0x40, 32, 1, 0x0, 24, 8, .ro, 0x0, false⟩
def MTR_STR_I.CODE : Fld := ⟨0xB100C, 0x40, 32, 1, 0x0, 0, 24, .ro, 0x0, false⟩
def MTR_STR_I.reg : Reg := ⟨"MTR_STR_I", 0xB100C, 0x40, 32, 1, 0x0,
  [MTR_STR_I.GEN, MTR_STR_I.CODE]⟩

/- `MTR_STR_EDIS_LO` (R354). -/
def MTR_STR_EDIS_LO.E : Fld := ⟨0xB1010, 0x40, 32, 1, 0x0, 0, 32, .ro, 0x0, true⟩
def MTR_STR_EDIS_LO.reg : Reg := ⟨"MTR_STR_EDIS_LO", 0xB1010, 0x40, 32, 1, 0x0,
  [MTR_STR_EDIS_LO.E]⟩

/- `MTR_STR_EDIS_HI` (R354). -/
def MTR_STR_EDIS_HI.E : Fld := ⟨0xB1014, 0x40, 32, 1, 0x0, 0, 32, .ro, 0x0, true⟩
def MTR_STR_EDIS_HI.reg : Reg := ⟨"MTR_STR_EDIS_HI", 0xB1014, 0x40, 32, 1, 0x0,
  [MTR_STR_EDIS_HI.E]⟩

/- `MTR_STR_ECHG_LO` (R354). -/
def MTR_STR_ECHG_LO.E : Fld := ⟨0xB1018, 0x40, 32, 1, 0x0, 0, 32, .ro, 0x0, true⟩
def MTR_STR_ECHG_LO.reg : Reg := ⟨"MTR_STR_ECHG_LO", 0xB1018, 0x40, 32, 1, 0x0,
  [MTR_STR_ECHG_LO.E]⟩

/- `MTR_STR_ECHG_HI` (R354). -/
def MTR_STR_ECHG_HI.E : Fld := ⟨0xB101C, 0x40, 32, 1, 0x0, 0, 32, .ro, 0x0, true⟩
def MTR_STR_ECHG_HI.reg : Reg := ⟨"MTR_STR_ECHG_HI", 0xB101C, 0x40, 32, 1, 0x0,
  [MTR_STR_ECHG_HI.E]⟩

/- `MTR_STR_SEQ` (R354). -/
def MTR_STR_SEQ.NEXT : Fld := ⟨0xB1020, 0x40, 32, 1, 0x0, 0, 32, .ro, 0x0, true⟩
def MTR_STR_SEQ.reg : Reg := ⟨"MTR_STR_SEQ", 0xB1020, 0x40, 32, 1, 0x0,
  [MTR_STR_SEQ.NEXT]⟩

/- `MTR_STR_STATUS` (R354). -/
def MTR_STR_STATUS.UNMETERED : Fld := ⟨0xB1024, 0x40, 32, 1, 0x0, 31, 1, .ro, 0x0, false⟩
def MTR_STR_STATUS.LEDGER_FULL : Fld := ⟨0xB1024, 0x40, 32, 1, 0x0, 30, 1, .ro, 0x0, false⟩
def MTR_STR_STATUS.OVERRANGE : Fld := ⟨0xB1024, 0x40, 32, 1, 0x0, 29, 1, .ro, 0x0, false⟩
def MTR_STR_STATUS.FLAGS : Fld := ⟨0xB1024, 0x40, 32, 1, 0x0, 0, 16, .ro, 0x0, false⟩
def MTR_STR_STATUS.reg : Reg := ⟨"MTR_STR_STATUS", 0xB1024, 0x40, 32, 1, 0x0,
  [MTR_STR_STATUS.UNMETERED, MTR_STR_STATUS.LEDGER_FULL, MTR_STR_STATUS.OVERRANGE, MTR_STR_STATUS.FLAGS]⟩

/- `MTR_PACK_STATUS` (R354). -/
def MTR_PACK_STATUS.SILENT : Fld := ⟨0xB1028, 0x40, 32, 1, 0x0, 31, 1, .ro, 0x1, false⟩
def MTR_PACK_STATUS.SLOW : Fld := ⟨0xB1028, 0x40, 32, 1, 0x0, 30, 1, .ro, 0x0, false⟩
def MTR_PACK_STATUS.MALFORMED : Fld := ⟨0xB1028, 0x40, 32, 1, 0x0, 29, 1, .ro, 0x0, false⟩
def MTR_PACK_STATUS.CTRL : Fld := ⟨0xB1028, 0x40, 32, 1, 0x0, 26, 3, .ro, 0x0, false⟩
def MTR_PACK_STATUS.N_DISCARD : Fld := ⟨0xB1028, 0x40, 32, 1, 0x0, 8, 8, .rc, 0x0, false⟩
def MTR_PACK_STATUS.N_DISAGREE : Fld := ⟨0xB1028, 0x40, 32, 1, 0x0, 0, 8, .rc, 0x0, false⟩
def MTR_PACK_STATUS.reg : Reg := ⟨"MTR_PACK_STATUS", 0xB1028, 0x40, 32, 1, 0x0,
  [MTR_PACK_STATUS.SILENT, MTR_PACK_STATUS.SLOW, MTR_PACK_STATUS.MALFORMED, MTR_PACK_STATUS.CTRL, MTR_PACK_STATUS.N_DISCARD, MTR_PACK_STATUS.N_DISAGREE]⟩

/- `MTR_PACK_VI` (R354). -/
def MTR_PACK_VI.PACK_I : Fld := ⟨0xB102C, 0x40, 32, 1, 0x0, 16, 16, .ro, 0x0, false⟩
def MTR_PACK_VI.PACK_V : Fld := ⟨0xB102C, 0x40, 32, 1, 0x0, 0, 16, .ro, 0x0, false⟩
def MTR_PACK_VI.reg : Reg := ⟨"MTR_PACK_VI", 0xB102C, 0x40, 32, 1, 0x0,
  [MTR_PACK_VI.PACK_I, MTR_PACK_VI.PACK_V]⟩

/- `MTR_PACK_ID` (R354). -/
def MTR_PACK_ID.PACK_ID : Fld := ⟨0xB1030, 0x40, 32, 1, 0x0, 0, 32, .ro, 0xFFFFFFFF, false⟩
def MTR_PACK_ID.reg : Reg := ⟨"MTR_PACK_ID", 0xB1030, 0x40, 32, 1, 0x0,
  [MTR_PACK_ID.PACK_ID]⟩

/- `MTR_UNKNOWN` (R354). -/
def MTR_UNKNOWN.VALID : Fld := ⟨0xB2000, 0x10, 16, 1, 0x0, 31, 1, .ro, 0x0, false⟩
def MTR_UNKNOWN.EXT : Fld := ⟨0xB2000, 0x10, 16, 1, 0x0, 30, 1, .ro, 0x0, false⟩
def MTR_UNKNOWN.CTRL : Fld := ⟨0xB2000, 0x10, 16, 1, 0x0, 27, 3, .ro, 0x0, false⟩
def MTR_UNKNOWN_ID.ID : Fld := ⟨0xB2004, 0x10, 16, 1, 0x0, 0, 29, .ro, 0x0, false⟩
def MTR_UNKNOWN_COUNT.COUNT : Fld := ⟨0xB2008, 0x10, 16, 1, 0x0, 0, 32, .ro, 0x0, false⟩
def MTR_UNKNOWN_SEC.SEC : Fld := ⟨0xB200C, 0x10, 16, 1, 0x0, 0, 32, .ro, 0x0, false⟩
def MTR_UNKNOWN_ID.reg : Reg := ⟨"MTR_UNKNOWN_ID", 0xB2004, 0x10, 16, 1, 0x0, [MTR_UNKNOWN_ID.ID]⟩
def MTR_UNKNOWN_COUNT.reg : Reg := ⟨"MTR_UNKNOWN_COUNT", 0xB2008, 0x10, 16, 1, 0x0, [MTR_UNKNOWN_COUNT.COUNT]⟩
def MTR_UNKNOWN_SEC.reg : Reg := ⟨"MTR_UNKNOWN_SEC", 0xB200C, 0x10, 16, 1, 0x0, [MTR_UNKNOWN_SEC.SEC]⟩
def MTR_UNKNOWN.reg : Reg := ⟨"MTR_UNKNOWN", 0xB2000, 0x10, 16, 1, 0x0,
  [MTR_UNKNOWN.VALID, MTR_UNKNOWN.EXT, MTR_UNKNOWN.CTRL]⟩

/- `CAN_STATUS` (R355). -/
def CAN_STATUS.STATE : Fld := ⟨0xC0000, 0x100, 8, 1, 0x0, 30, 2, .ro, 0x3, false⟩
def CAN_STATUS.TEC : Fld := ⟨0xC0000, 0x100, 8, 1, 0x0, 16, 8, .ro, 0x0, false⟩
def CAN_STATUS.REC : Fld := ⟨0xC0000, 0x100, 8, 1, 0x0, 8, 8, .ro, 0x0, false⟩
def CAN_STATUS.N_BUSOFF : Fld := ⟨0xC0000, 0x100, 8, 1, 0x0, 0, 8, .rc, 0x0, false⟩
def CAN_STATUS.reg : Reg := ⟨"CAN_STATUS", 0xC0000, 0x100, 8, 1, 0x0,
  [CAN_STATUS.STATE, CAN_STATUS.TEC, CAN_STATUS.REC, CAN_STATUS.N_BUSOFF]⟩

/- `CAN_QSTAT` (R355). -/
def CAN_QSTAT.Q3 : Fld := ⟨0xC0004, 0x100, 8, 1, 0x0, 27, 5, .ro, 0x0, false⟩
def CAN_QSTAT.Q2 : Fld := ⟨0xC0004, 0x100, 8, 1, 0x0, 22, 5, .ro, 0x0, false⟩
def CAN_QSTAT.Q1 : Fld := ⟨0xC0004, 0x100, 8, 1, 0x0, 17, 5, .ro, 0x0, false⟩
def CAN_QSTAT.Q0 : Fld := ⟨0xC0004, 0x100, 8, 1, 0x0, 12, 5, .ro, 0x0, false⟩
def CAN_QSTAT.N_REMOTE : Fld := ⟨0xC0004, 0x100, 8, 1, 0x0, 0, 8, .rc, 0x0, false⟩
def CAN_QSTAT.reg : Reg := ⟨"CAN_QSTAT", 0xC0004, 0x100, 8, 1, 0x0,
  [CAN_QSTAT.Q3, CAN_QSTAT.Q2, CAN_QSTAT.Q1, CAN_QSTAT.Q0, CAN_QSTAT.N_REMOTE]⟩

/- `CAN_TX_BUF` (R355). -/
def CAN_TX_BUF.EXT : Fld := ⟨0xC0040, 0x100, 8, 1, 0x0, 31, 1, .rw, 0x0, false⟩
def CAN_TX_BUF.FD : Fld := ⟨0xC0040, 0x100, 8, 1, 0x0, 30, 1, .rw, 0x0, false⟩
def CAN_TX_BUF.BRS : Fld := ⟨0xC0040, 0x100, 8, 1, 0x0, 29, 1, .rw, 0x0, false⟩
def CAN_TX_BUF.ID : Fld := ⟨0xC0040, 0x100, 8, 1, 0x0, 0, 29, .rw, 0x0, false⟩
def CAN_TX_BUF.reg : Reg := ⟨"CAN_TX_BUF", 0xC0040, 0x100, 8, 1, 0x0,
  [CAN_TX_BUF.EXT, CAN_TX_BUF.FD, CAN_TX_BUF.BRS, CAN_TX_BUF.ID]⟩

/- `CAN_TX_DATA` (R355). -/
def CAN_TX_DATA.DATA : Fld := ⟨0xC0044, 0x100, 128, 16, 0x4, 0, 32, .rw, 0x0, false⟩
def CAN_TX_DATA.reg : Reg := ⟨"CAN_TX_DATA", 0xC0044, 0x100, 128, 16, 0x4,
  [CAN_TX_DATA.DATA]⟩

/- `CAN_TX_POST` (R355). -/
def CAN_TX_POST.TAG : Fld := ⟨0xC0010, 0x100, 8, 1, 0x0, 16, 16, .wo, 0x0, false⟩
def CAN_TX_POST.QUEUE : Fld := ⟨0xC0010, 0x100, 8, 1, 0x0, 14, 2, .wo, 0x0, false⟩
def CAN_TX_POST.LEN : Fld := ⟨0xC0010, 0x100, 8, 1, 0x0, 7, 7, .wo, 0x0, false⟩
def CAN_TX_POST.reg : Reg := ⟨"CAN_TX_POST", 0xC0010, 0x100, 8, 1, 0x0,
  [CAN_TX_POST.TAG, CAN_TX_POST.QUEUE, CAN_TX_POST.LEN]⟩

/- `CAN_TX_DEADLINE` (R355). -/
def CAN_TX_DEADLINE.DEADLINE : Fld := ⟨0xC0020, 0x100, 8, 1, 0x0, 0, 14, .rw, 0x64, false⟩
def CAN_TX_DEADLINE.reg : Reg := ⟨"CAN_TX_DEADLINE", 0xC0020, 0x100, 8, 1, 0x0,
  [CAN_TX_DEADLINE.DEADLINE]⟩

/- `CAN_TX_ABORT` (R355). -/
def CAN_TX_ABORT.TAG : Fld := ⟨0xC0014, 0x100, 8, 1, 0x0, 16, 16, .wo, 0x0, false⟩
def CAN_TX_ABORT.GO : Fld := ⟨0xC0014, 0x100, 8, 1, 0x0, 0, 1, .wo, 0x0, false⟩
def CAN_TX_ABORT.reg : Reg := ⟨"CAN_TX_ABORT", 0xC0014, 0x100, 8, 1, 0x0,
  [CAN_TX_ABORT.TAG, CAN_TX_ABORT.GO]⟩

/- `CAN_TX_DONE` (R355). -/
def CAN_TX_DONE.TAG : Fld := ⟨0xC0018, 0x100, 8, 1, 0x0, 16, 16, .rc, 0x0, false⟩
def CAN_TX_DONE.OUTCOME : Fld := ⟨0xC0018, 0x100, 8, 1, 0x0, 13, 3, .rc, 0x0, false⟩
def CAN_TX_DONE.ALREADY_DONE : Fld := ⟨0xC0018, 0x100, 8, 1, 0x0, 12, 1, .rc, 0x0, false⟩
def CAN_TX_DONE.REASON : Fld := ⟨0xC0018, 0x100, 8, 1, 0x0, 10, 2, .rc, 0x0, false⟩
def CAN_TX_DONE.DELAY : Fld := ⟨0xC0018, 0x100, 8, 1, 0x0, 0, 10, .rc, 0x0, false⟩
def CAN_TX_DONE.reg : Reg := ⟨"CAN_TX_DONE", 0xC0018, 0x100, 8, 1, 0x0,
  [CAN_TX_DONE.TAG, CAN_TX_DONE.OUTCOME, CAN_TX_DONE.ALREADY_DONE, CAN_TX_DONE.REASON, CAN_TX_DONE.DELAY]⟩

/- `CAN_TX_FIFO_STAT` (R355). -/
def CAN_TX_FIFO_STAT.EMPTY : Fld := ⟨0xC001C, 0x100, 8, 1, 0x0, 31, 1, .ro, 0x1, false⟩
def CAN_TX_FIFO_STAT.LEVEL : Fld := ⟨0xC001C, 0x100, 8, 1, 0x0, 24, 7, .ro, 0x0, false⟩
def CAN_TX_FIFO_STAT.OVERFLOW : Fld := ⟨0xC001C, 0x100, 8, 1, 0x0, 8, 8, .rc, 0x0, false⟩
def CAN_TX_FIFO_STAT.UNDERFLOW : Fld := ⟨0xC001C, 0x100, 8, 1, 0x0, 0, 8, .rc, 0x0, false⟩
def CAN_TX_FIFO_STAT.reg : Reg := ⟨"CAN_TX_FIFO_STAT", 0xC001C, 0x100, 8, 1, 0x0,
  [CAN_TX_FIFO_STAT.EMPTY, CAN_TX_FIFO_STAT.LEVEL, CAN_TX_FIFO_STAT.OVERFLOW, CAN_TX_FIFO_STAT.UNDERFLOW]⟩

/-- Every register of this file. -/
def regsMtr : List Reg :=
  [MTR_GLB_STATUS.reg, MTR_LEDGER_CFG.reg, MTR_LEDGER_STATUS.reg, MTR_STR_CFG.reg, MTR_STR_SCALE.reg, MTR_STR_V.reg, MTR_STR_I.reg, MTR_STR_EDIS_LO.reg, MTR_STR_EDIS_HI.reg, MTR_STR_ECHG_LO.reg, MTR_STR_ECHG_HI.reg, MTR_STR_SEQ.reg, MTR_STR_STATUS.reg, MTR_PACK_STATUS.reg, MTR_PACK_VI.reg, MTR_PACK_ID.reg, MTR_UNKNOWN.reg, MTR_UNKNOWN_ID.reg, MTR_UNKNOWN_COUNT.reg, MTR_UNKNOWN_SEC.reg, CAN_STATUS.reg, CAN_QSTAT.reg, CAN_TX_BUF.reg] ++
  [CAN_TX_DATA.reg, CAN_TX_POST.reg, CAN_TX_DEADLINE.reg, CAN_TX_ABORT.reg, CAN_TX_DONE.reg, CAN_TX_FIFO_STAT.reg]

end Sys2Proof.Machine
end

