-- ==== Sys2Proof/Machine/RegsNbl.lean ====
section
/-!
DEFINITION. The registers of NBL: Taelaul links (R255).

Per field: base, stride, count, inner count, inner stride, lowest bit, width, access, reset value, kept across a warm reset.
-/
namespace Sys2Proof.Machine

/- `NBL_GLB_STATUS` (R255). -/
def NBL_GLB_STATUS.OWN_ID : Fld := ⟨0x50000, 0x0, 1, 1, 0x0, 24, 8, .ro, 0x0, false⟩
def NBL_GLB_STATUS.USED : Fld := ⟨0x50000, 0x0, 1, 1, 0x0, 20, 4, .ro, 0x0, false⟩
def NBL_GLB_STATUS.UP : Fld := ⟨0x50000, 0x0, 1, 1, 0x0, 16, 4, .ro, 0x0, false⟩
def NBL_GLB_STATUS.LOST : Fld := ⟨0x50000, 0x0, 1, 1, 0x0, 12, 4, .ro, 0x0, false⟩
def NBL_GLB_STATUS.ESTAB : Fld := ⟨0x50000, 0x0, 1, 1, 0x0, 8, 4, .ro, 0x0, false⟩
def NBL_GLB_STATUS.LOOP_FAIL : Fld := ⟨0x50000, 0x0, 1, 1, 0x0, 4, 4, .ro, 0x0, false⟩
def NBL_GLB_STATUS.reg : Reg := ⟨"NBL_GLB_STATUS", 0x50000, 0x0, 1, 1, 0x0,
  [NBL_GLB_STATUS.OWN_ID, NBL_GLB_STATUS.USED, NBL_GLB_STATUS.UP, NBL_GLB_STATUS.LOST, NBL_GLB_STATUS.ESTAB, NBL_GLB_STATUS.LOOP_FAIL]⟩

/- `NBL_CFG` (R255). -/
def NBL_CFG.USED : Fld := ⟨0x51000, 0x100, 4, 1, 0x0, 31, 1, .ro, 0x0, false⟩
def NBL_CFG.FAR_PORT : Fld := ⟨0x51000, 0x100, 4, 1, 0x0, 28, 2, .ro, 0x0, false⟩
def NBL_CFG.N_REP_TX : Fld := ⟨0x51000, 0x100, 4, 1, 0x0, 24, 4, .ro, 0x0, false⟩
def NBL_CFG.N_REP_RX : Fld := ⟨0x51000, 0x100, 4, 1, 0x0, 20, 4, .ro, 0x0, false⟩
def NBL_CFG.N_HS : Fld := ⟨0x51000, 0x100, 4, 1, 0x0, 15, 5, .ro, 0x0, false⟩
def NBL_CFG.FAR_ID : Fld := ⟨0x51000, 0x100, 4, 1, 0x0, 0, 8, .ro, 0x0, false⟩
def NBL_CFG.reg : Reg := ⟨"NBL_CFG", 0x51000, 0x100, 4, 1, 0x0,
  [NBL_CFG.USED, NBL_CFG.FAR_PORT, NBL_CFG.N_REP_TX, NBL_CFG.N_REP_RX, NBL_CFG.N_HS, NBL_CFG.FAR_ID]⟩

/- `NBL_CONTRACT` (R255). -/
def NBL_CONTRACT.CONTRACT : Fld := ⟨0x51004, 0x100, 4, 1, 0x0, 0, 32, .ro, 0x0, false⟩
def NBL_CONTRACT.reg : Reg := ⟨"NBL_CONTRACT", 0x51004, 0x100, 4, 1, 0x0,
  [NBL_CONTRACT.CONTRACT]⟩

/- `NBL_STATE` (R255). -/
def NBL_STATE.GEN : Fld := ⟨0x51008, 0x100, 4, 1, 0x0, 16, 16, .ro, 0x0, false⟩
def NBL_STATE.STATE : Fld := ⟨0x51008, 0x100, 4, 1, 0x0, 14, 2, .ro, 0x0, false⟩
def NBL_STATE.CONF_TX : Fld := ⟨0x51008, 0x100, 4, 1, 0x0, 13, 1, .ro, 0x0, false⟩
def NBL_STATE.CONF_RX : Fld := ⟨0x51008, 0x100, 4, 1, 0x0, 12, 1, .ro, 0x0, false⟩
def NBL_STATE.LOOP_FAIL : Fld := ⟨0x51008, 0x100, 4, 1, 0x0, 11, 1, .ro, 0x0, false⟩
def NBL_STATE.FOREIGN : Fld := ⟨0x51008, 0x100, 4, 1, 0x0, 10, 1, .ro, 0x0, false⟩
def NBL_STATE.RUN : Fld := ⟨0x51008, 0x100, 4, 1, 0x0, 8, 2, .ro, 0x0, false⟩
def NBL_STATE.ESTAB : Fld := ⟨0x51008, 0x100, 4, 1, 0x0, 6, 2, .ro, 0x0, false⟩
def NBL_STATE.LEFT_SEEN : Fld := ⟨0x51008, 0x100, 4, 1, 0x0, 5, 1, .w1c, 0x0, false⟩
def NBL_STATE.LEFT_UP : Fld := ⟨0x51008, 0x100, 4, 1, 0x0, 0, 4, .ro, 0x0, false⟩
def NBL_STATE.reg : Reg := ⟨"NBL_STATE", 0x51008, 0x100, 4, 1, 0x0,
  [NBL_STATE.GEN, NBL_STATE.STATE, NBL_STATE.CONF_TX, NBL_STATE.CONF_RX, NBL_STATE.LOOP_FAIL, NBL_STATE.FOREIGN, NBL_STATE.RUN, NBL_STATE.ESTAB, NBL_STATE.LEFT_SEEN, NBL_STATE.LEFT_UP]⟩

/- `NBL_SEQ` (R255). -/
def NBL_SEQ.RX_LAST : Fld := ⟨0x5100C, 0x100, 4, 1, 0x0, 16, 16, .ro, 0x0, false⟩
def NBL_SEQ.TX : Fld := ⟨0x5100C, 0x100, 4, 1, 0x0, 0, 16, .ro, 0x0, false⟩
def NBL_SEQ.reg : Reg := ⟨"NBL_SEQ", 0x5100C, 0x100, 4, 1, 0x0,
  [NBL_SEQ.RX_LAST, NBL_SEQ.TX]⟩

/- `NBL_ERR0` (R255). -/
def NBL_ERR0.BAD_CHECK : Fld := ⟨0x51010, 0x100, 4, 1, 0x0, 16, 16, .rc, 0x0, false⟩
def NBL_ERR0.MISSING : Fld := ⟨0x51010, 0x100, 4, 1, 0x0, 0, 16, .rc, 0x0, false⟩
def NBL_ERR0.reg : Reg := ⟨"NBL_ERR0", 0x51010, 0x100, 4, 1, 0x0,
  [NBL_ERR0.BAD_CHECK, NBL_ERR0.MISSING]⟩

/- `NBL_ERR1` (R255). -/
def NBL_ERR1.CODING : Fld := ⟨0x51014, 0x100, 4, 1, 0x0, 16, 16, .rc, 0x0, false⟩
def NBL_ERR1.LENGTH : Fld := ⟨0x51014, 0x100, 4, 1, 0x0, 0, 16, .rc, 0x0, false⟩
def NBL_ERR1.reg : Reg := ⟨"NBL_ERR1", 0x51014, 0x100, 4, 1, 0x0,
  [NBL_ERR1.CODING, NBL_ERR1.LENGTH]⟩

/- `NBL_ERR2` (R255). -/
def NBL_ERR2.MALFORMED : Fld := ⟨0x51018, 0x100, 4, 1, 0x0, 24, 8, .rc, 0x0, false⟩
def NBL_ERR2.WRONG_SOURCE : Fld := ⟨0x51018, 0x100, 4, 1, 0x0, 16, 8, .rc, 0x0, false⟩
def NBL_ERR2.REPEAT : Fld := ⟨0x51018, 0x100, 4, 1, 0x0, 8, 8, .rc, 0x0, false⟩
def NBL_ERR2.SEQUENCE : Fld := ⟨0x51018, 0x100, 4, 1, 0x0, 0, 8, .rc, 0x0, false⟩
def NBL_ERR2.reg : Reg := ⟨"NBL_ERR2", 0x51018, 0x100, 4, 1, 0x0,
  [NBL_ERR2.MALFORMED, NBL_ERR2.WRONG_SOURCE, NBL_ERR2.REPEAT, NBL_ERR2.SEQUENCE]⟩

/- `NBL_ERR3` (R255). -/
def NBL_ERR3.EARLY : Fld := ⟨0x5101C, 0x100, 4, 1, 0x0, 24, 8, .rc, 0x0, false⟩
def NBL_ERR3.NOT_FOLDED : Fld := ⟨0x5101C, 0x100, 4, 1, 0x0, 16, 8, .rc, 0x0, false⟩
def NBL_ERR3.SKIPPED : Fld := ⟨0x5101C, 0x100, 4, 1, 0x0, 0, 16, .rc, 0x0, false⟩
def NBL_ERR3.reg : Reg := ⟨"NBL_ERR3", 0x5101C, 0x100, 4, 1, 0x0,
  [NBL_ERR3.EARLY, NBL_ERR3.NOT_FOLDED, NBL_ERR3.SKIPPED]⟩

/- `NBL_RX_OK` (R255). -/
def NBL_RX_OK.COUNT : Fld := ⟨0x51020, 0x100, 4, 1, 0x0, 0, 32, .ro, 0x0, false⟩
def NBL_RX_OK.reg : Reg := ⟨"NBL_RX_OK", 0x51020, 0x100, 4, 1, 0x0,
  [NBL_RX_OK.COUNT]⟩

/- `NBL_TX_CNT` (R255). -/
def NBL_TX_CNT.COUNT : Fld := ⟨0x51024, 0x100, 4, 1, 0x0, 0, 32, .ro, 0x0, false⟩
def NBL_TX_CNT.reg : Reg := ⟨"NBL_TX_CNT", 0x51024, 0x100, 4, 1, 0x0,
  [NBL_TX_CNT.COUNT]⟩

/- `NBL_LAST_REJ` (R255). -/
def NBL_LAST_REJ.REASON : Fld := ⟨0x51028, 0x100, 4, 1, 0x0, 28, 4, .ro, 0x0, false⟩
def NBL_LAST_REJ.SPORT : Fld := ⟨0x51028, 0x100, 4, 1, 0x0, 26, 2, .ro, 0x0, false⟩
def NBL_LAST_REJ.SRC_ID : Fld := ⟨0x51028, 0x100, 4, 1, 0x0, 16, 8, .ro, 0x0, false⟩
def NBL_LAST_REJ.CNT : Fld := ⟨0x51028, 0x100, 4, 1, 0x0, 0, 16, .ro, 0x0, false⟩
def NBL_LAST_REJ.reg : Reg := ⟨"NBL_LAST_REJ", 0x51028, 0x100, 4, 1, 0x0,
  [NBL_LAST_REJ.REASON, NBL_LAST_REJ.SPORT, NBL_LAST_REJ.SRC_ID, NBL_LAST_REJ.CNT]⟩

/- `NBL_UPDOWN` (R255). -/
def NBL_UPDOWN.N_LOST : Fld := ⟨0x5102C, 0x100, 4, 1, 0x0, 16, 16, .rc, 0x0, false⟩
def NBL_UPDOWN.N_UP : Fld := ⟨0x5102C, 0x100, 4, 1, 0x0, 0, 16, .rc, 0x0, false⟩
def NBL_UPDOWN.reg : Reg := ⟨"NBL_UPDOWN", 0x5102C, 0x100, 4, 1, 0x0,
  [NBL_UPDOWN.N_LOST, NBL_UPDOWN.N_UP]⟩

/-- Every register of this file. -/
def regsNbl : List Reg :=
  [NBL_GLB_STATUS.reg, NBL_CFG.reg, NBL_CONTRACT.reg, NBL_STATE.reg, NBL_SEQ.reg, NBL_ERR0.reg, NBL_ERR1.reg, NBL_ERR2.reg, NBL_ERR3.reg, NBL_RX_OK.reg, NBL_TX_CNT.reg, NBL_LAST_REJ.reg, NBL_UPDOWN.reg]

end Sys2Proof.Machine
end

