-- ==== Sys2Proof/Machine/RegsPwm.lean ====
section
/-!
DEFINITION. The registers of PWM and PMA: bridges and power measurement (R326).

Per field: base, stride, count, inner count, inner stride, lowest bit, width, access, reset value, kept across a warm reset.
-/
namespace Sys2Proof.Machine

/- `PWM_GLB_STATUS` (R326). -/
def PWM_GLB_STATUS.N_LEG : Fld := ⟨0x90000, 0x0, 1, 1, 0x0, 26, 6, .ro, 0x0, false⟩
def PWM_GLB_STATUS.N_BR : Fld := ⟨0x90000, 0x0, 1, 1, 0x0, 22, 4, .ro, 0x0, false⟩
def PWM_GLB_STATUS.MODE_OFF : Fld := ⟨0x90000, 0x0, 1, 1, 0x0, 21, 1, .ro, 0x1, false⟩
def PWM_GLB_STATUS.MDLL_A : Fld := ⟨0x90000, 0x0, 1, 1, 0x0, 20, 1, .ro, 0x1, false⟩
def PWM_GLB_STATUS.TRIPPED : Fld := ⟨0x90000, 0x0, 1, 1, 0x0, 0, 12, .ro, 0x0, false⟩
def PWM_GLB_STATUS.reg : Reg := ⟨"PWM_GLB_STATUS", 0x90000, 0x0, 1, 1, 0x0,
  [PWM_GLB_STATUS.N_LEG, PWM_GLB_STATUS.N_BR, PWM_GLB_STATUS.MODE_OFF, PWM_GLB_STATUS.MDLL_A, PWM_GLB_STATUS.TRIPPED]⟩

/- `PWM_UPD` (R326). -/
def PWM_UPD.T_UPD : Fld := ⟨0x90004, 0x0, 1, 1, 0x0, 0, 6, .ro, 0x20, false⟩
def PWM_UPD.reg : Reg := ⟨"PWM_UPD", 0x90004, 0x0, 1, 1, 0x0,
  [PWM_UPD.T_UPD]⟩

/- `PWM_GEN_CFG0` (R326). -/
def PWM_GEN_CFG0.SPAN : Fld := ⟨0x90100, 0x10, 12, 1, 0x0, 20, 8, .ro, 0x0, false⟩
def PWM_GEN_CFG0.DITHER_EN : Fld := ⟨0x90100, 0x10, 12, 1, 0x0, 18, 1, .ro, 0x0, false⟩
def PWM_GEN_CFG0.MODE : Fld := ⟨0x90100, 0x10, 12, 1, 0x0, 16, 2, .ro, 0x0, false⟩
def PWM_GEN_CFG0.F_CAR : Fld := ⟨0x90100, 0x10, 12, 1, 0x0, 0, 16, .ro, 0x0, false⟩
def PWM_GEN_CFG0.reg : Reg := ⟨"PWM_GEN_CFG0", 0x90100, 0x10, 12, 1, 0x0,
  [PWM_GEN_CFG0.SPAN, PWM_GEN_CFG0.DITHER_EN, PWM_GEN_CFG0.MODE, PWM_GEN_CFG0.F_CAR]⟩

/- `PWM_GEN_CFG1` (R326). -/
def PWM_GEN_CFG1.GUARD : Fld := ⟨0x90104, 0x10, 12, 1, 0x0, 24, 8, .ro, 0x14, false⟩
def PWM_GEN_CFG1.HOLD : Fld := ⟨0x90104, 0x10, 12, 1, 0x0, 16, 6, .ro, 0x7, false⟩
def PWM_GEN_CFG1.SEED : Fld := ⟨0x90104, 0x10, 12, 1, 0x0, 0, 16, .ro, 0x0, false⟩
def PWM_GEN_CFG1.reg : Reg := ⟨"PWM_GEN_CFG1", 0x90104, 0x10, 12, 1, 0x0,
  [PWM_GEN_CFG1.GUARD, PWM_GEN_CFG1.HOLD, PWM_GEN_CFG1.SEED]⟩

/- `PWM_GEN_STATUS` (R326). -/
def PWM_GEN_STATUS.INDEX : Fld := ⟨0x90108, 0x10, 12, 1, 0x0, 24, 8, .ro, 0x0, false⟩
def PWM_GEN_STATUS.N_ALLOWED : Fld := ⟨0x90108, 0x10, 12, 1, 0x0, 15, 9, .ro, 0x0, false⟩
def PWM_GEN_STATUS.reg : Reg := ⟨"PWM_GEN_STATUS", 0x90108, 0x10, 12, 1, 0x0,
  [PWM_GEN_STATUS.INDEX, PWM_GEN_STATUS.N_ALLOWED]⟩

/- `PWM_GEN_PERIOD` (R326). -/
def PWM_GEN_PERIOD.PERIOD : Fld := ⟨0x9010C, 0x10, 12, 1, 0x0, 0, 22, .ro, 0x0, false⟩
def PWM_GEN_PERIOD.reg : Reg := ⟨"PWM_GEN_PERIOD", 0x9010C, 0x10, 12, 1, 0x0,
  [PWM_GEN_PERIOD.PERIOD]⟩

/- `PWM_BR_CFG0` (R326). -/
def PWM_BR_CFG0.USED : Fld := ⟨0x90200, 0x10, 12, 1, 0x0, 31, 1, .ro, 0x0, false⟩
def PWM_BR_CFG0.OWNER : Fld := ⟨0x90200, 0x10, 12, 1, 0x0, 30, 1, .ro, 0x0, false⟩
def PWM_BR_CFG0.UPD : Fld := ⟨0x90200, 0x10, 12, 1, 0x0, 29, 1, .ro, 0x0, false⟩
def PWM_BR_CFG0.GEN : Fld := ⟨0x90200, 0x10, 12, 1, 0x0, 24, 4, .ro, 0x0, false⟩
def PWM_BR_CFG0.PHASE : Fld := ⟨0x90200, 0x10, 12, 1, 0x0, 16, 8, .ro, 0x0, false⟩
def PWM_BR_CFG0.DSAT_FILT : Fld := ⟨0x90200, 0x10, 12, 1, 0x0, 8, 8, .ro, 0x50, false⟩
def PWM_BR_CFG0.OC_N : Fld := ⟨0x90200, 0x10, 12, 1, 0x0, 0, 8, .ro, 0x0, false⟩
def PWM_BR_CFG0.reg : Reg := ⟨"PWM_BR_CFG0", 0x90200, 0x10, 12, 1, 0x0,
  [PWM_BR_CFG0.USED, PWM_BR_CFG0.OWNER, PWM_BR_CFG0.UPD, PWM_BR_CFG0.GEN, PWM_BR_CFG0.PHASE, PWM_BR_CFG0.DSAT_FILT, PWM_BR_CFG0.OC_N]⟩

/- `PWM_BR_CFG1` (R326). -/
def PWM_BR_CFG1.DT : Fld := ⟨0x90204, 0x10, 12, 1, 0x0, 16, 16, .ro, 0x500, false⟩
def PWM_BR_CFG1.PULSE_MIN : Fld := ⟨0x90204, 0x10, 12, 1, 0x0, 0, 15, .ro, 0x0, false⟩
def PWM_BR_CFG1.reg : Reg := ⟨"PWM_BR_CFG1", 0x90204, 0x10, 12, 1, 0x0,
  [PWM_BR_CFG1.DT, PWM_BR_CFG1.PULSE_MIN]⟩

/- `PWM_BR_CTRL` (R326). -/
def PWM_BR_CTRL.LOAD : Fld := ⟨0x90208, 0x10, 12, 1, 0x0, 2, 1, .wo, 0x0, false⟩
def PWM_BR_CTRL.CLR_TRIP : Fld := ⟨0x90208, 0x10, 12, 1, 0x0, 1, 1, .wo, 0x0, false⟩
def PWM_BR_CTRL.ENABLE : Fld := ⟨0x90208, 0x10, 12, 1, 0x0, 0, 1, .rw, 0x0, false⟩
def PWM_BR_CTRL.reg : Reg := ⟨"PWM_BR_CTRL", 0x90208, 0x10, 12, 1, 0x0,
  [PWM_BR_CTRL.LOAD, PWM_BR_CTRL.CLR_TRIP, PWM_BR_CTRL.ENABLE]⟩

/- `PWM_BR_STATUS` (R326). -/
def PWM_BR_STATUS.ENABLED : Fld := ⟨0x9020C, 0x10, 12, 1, 0x0, 31, 1, .ro, 0x0, false⟩
def PWM_BR_STATUS.GATES : Fld := ⟨0x9020C, 0x10, 12, 1, 0x0, 30, 1, .ro, 0x0, false⟩
def PWM_BR_STATUS.CH_FAIL : Fld := ⟨0x9020C, 0x10, 12, 1, 0x0, 29, 1, .ro, 0x0, false⟩
def PWM_BR_STATUS.TRIP : Fld := ⟨0x9020C, 0x10, 12, 1, 0x0, 24, 4, .ro, 0x0, false⟩
def PWM_BR_STATUS.TRIP_LEG : Fld := ⟨0x9020C, 0x10, 12, 1, 0x0, 16, 6, .ro, 0x3F, false⟩
def PWM_BR_STATUS.LATE : Fld := ⟨0x9020C, 0x10, 12, 1, 0x0, 8, 8, .rc, 0x0, false⟩
def PWM_BR_STATUS.N_TRIP : Fld := ⟨0x9020C, 0x10, 12, 1, 0x0, 0, 8, .rc, 0x0, false⟩
def PWM_BR_STATUS.reg : Reg := ⟨"PWM_BR_STATUS", 0x9020C, 0x10, 12, 1, 0x0,
  [PWM_BR_STATUS.ENABLED, PWM_BR_STATUS.GATES, PWM_BR_STATUS.CH_FAIL, PWM_BR_STATUS.TRIP, PWM_BR_STATUS.TRIP_LEG, PWM_BR_STATUS.LATE, PWM_BR_STATUS.N_TRIP]⟩

/- `PWM_LEG_CFG` (R326). -/
def PWM_LEG_CFG.USED : Fld := ⟨0x91000, 0x10, 36, 1, 0x0, 31, 1, .ro, 0x0, false⟩
def PWM_LEG_CFG.BRIDGE : Fld := ⟨0x91000, 0x10, 36, 1, 0x0, 24, 4, .ro, 0x0, false⟩
def PWM_LEG_CFG.PHASE : Fld := ⟨0x91000, 0x10, 36, 1, 0x0, 16, 2, .ro, 0x0, false⟩
def PWM_LEG_CFG.CHANNEL : Fld := ⟨0x91000, 0x10, 36, 1, 0x0, 8, 6, .ro, 0x3F, false⟩
def PWM_LEG_CFG.reg : Reg := ⟨"PWM_LEG_CFG", 0x91000, 0x10, 36, 1, 0x0,
  [PWM_LEG_CFG.USED, PWM_LEG_CFG.BRIDGE, PWM_LEG_CFG.PHASE, PWM_LEG_CFG.CHANNEL]⟩

/- `PWM_LEG_DUTY` (R326). -/
def PWM_LEG_DUTY.D : Fld := ⟨0x91004, 0x10, 36, 1, 0x0, 0, 24, .rw, 0x0, false⟩
def PWM_LEG_DUTY.reg : Reg := ⟨"PWM_LEG_DUTY", 0x91004, 0x10, 36, 1, 0x0,
  [PWM_LEG_DUTY.D]⟩

/- `PWM_LEG_STATE` (R326). -/
def PWM_LEG_STATE.H : Fld := ⟨0x91008, 0x10, 36, 1, 0x0, 31, 1, .ro, 0x0, false⟩
def PWM_LEG_STATE.L : Fld := ⟨0x91008, 0x10, 36, 1, 0x0, 30, 1, .ro, 0x0, false⟩
def PWM_LEG_STATE.S : Fld := ⟨0x91008, 0x10, 36, 1, 0x0, 29, 1, .ro, 0x0, false⟩
def PWM_LEG_STATE.FORCED : Fld := ⟨0x91008, 0x10, 36, 1, 0x0, 28, 1, .ro, 0x0, false⟩
def PWM_LEG_STATE.DSAT : Fld := ⟨0x91008, 0x10, 36, 1, 0x0, 27, 1, .ro, 0x0, false⟩
def PWM_LEG_STATE.OC_RUN : Fld := ⟨0x91008, 0x10, 36, 1, 0x0, 16, 8, .ro, 0x0, false⟩
def PWM_LEG_STATE.N_FORCE : Fld := ⟨0x91008, 0x10, 36, 1, 0x0, 0, 16, .rc, 0x0, false⟩
def PWM_LEG_STATE.reg : Reg := ⟨"PWM_LEG_STATE", 0x91008, 0x10, 36, 1, 0x0,
  [PWM_LEG_STATE.H, PWM_LEG_STATE.L, PWM_LEG_STATE.S, PWM_LEG_STATE.FORCED, PWM_LEG_STATE.DSAT, PWM_LEG_STATE.OC_RUN, PWM_LEG_STATE.N_FORCE]⟩

/- `PMA_GLB_STATUS` (R326). -/
def PMA_GLB_STATUS.N_USED : Fld := ⟨0xA0000, 0x0, 1, 1, 0x0, 24, 8, .ro, 0x0, false⟩
def PMA_GLB_STATUS.N_FAIL : Fld := ⟨0xA0000, 0x0, 1, 1, 0x0, 16, 8, .ro, 0x0, false⟩
def PMA_GLB_STATUS.RUN : Fld := ⟨0xA0000, 0x0, 1, 1, 0x0, 15, 1, .ro, 0x0, false⟩
def PMA_GLB_STATUS.OVERRUN : Fld := ⟨0xA0000, 0x0, 1, 1, 0x0, 0, 8, .rc, 0x0, false⟩
def PMA_GLB_STATUS.reg : Reg := ⟨"PMA_GLB_STATUS", 0xA0000, 0x0, 1, 1, 0x0,
  [PMA_GLB_STATUS.N_USED, PMA_GLB_STATUS.N_FAIL, PMA_GLB_STATUS.RUN, PMA_GLB_STATUS.OVERRUN]⟩

/- `PMA_GRP_CFG` (R326). -/
def PMA_GRP_CFG.TRIG : Fld := ⟨0xA0010, 0x4, 6, 1, 0x0, 30, 2, .ro, 0x3, false⟩
def PMA_GRP_CFG.GEN : Fld := ⟨0xA0010, 0x4, 6, 1, 0x0, 24, 4, .ro, 0x0, false⟩
def PMA_GRP_CFG.BURST : Fld := ⟨0xA0010, 0x4, 6, 1, 0x0, 20, 3, .ro, 0x0, false⟩
def PMA_GRP_CFG.OFFSET : Fld := ⟨0xA0010, 0x4, 6, 1, 0x0, 0, 16, .ro, 0x0, false⟩
def PMA_GRP_CFG.reg : Reg := ⟨"PMA_GRP_CFG", 0xA0010, 0x4, 6, 1, 0x0,
  [PMA_GRP_CFG.TRIG, PMA_GRP_CFG.GEN, PMA_GRP_CFG.BURST, PMA_GRP_CFG.OFFSET]⟩

/- `PMA_CH_CFG` (R326). -/
def PMA_CH_CFG.USED : Fld := ⟨0xA1000, 0x20, 48, 1, 0x0, 31, 1, .ro, 0x0, false⟩
def PMA_CH_CFG.FUNC : Fld := ⟨0xA1000, 0x20, 48, 1, 0x0, 24, 4, .ro, 0x0, false⟩
def PMA_CH_CFG.PHASE : Fld := ⟨0xA1000, 0x20, 48, 1, 0x0, 20, 2, .ro, 0x0, false⟩
def PMA_CH_CFG.BR_MASK : Fld := ⟨0xA1000, 0x20, 48, 1, 0x0, 0, 12, .ro, 0x0, false⟩
def PMA_CH_CFG.reg : Reg := ⟨"PMA_CH_CFG", 0xA1000, 0x20, 48, 1, 0x0,
  [PMA_CH_CFG.USED, PMA_CH_CFG.FUNC, PMA_CH_CFG.PHASE, PMA_CH_CFG.BR_MASK]⟩

/- `PMA_CH_CAL` (R326). -/
def PMA_CH_CAL.GAIN : Fld := ⟨0xA1004, 0x20, 48, 1, 0x0, 16, 16, .ro, 0x8000, false⟩
def PMA_CH_CAL.OFFSET : Fld := ⟨0xA1004, 0x20, 48, 1, 0x0, 0, 16, .ro, 0x0, false⟩
def PMA_CH_CAL.reg : Reg := ⟨"PMA_CH_CAL", 0xA1004, 0x20, 48, 1, 0x0,
  [PMA_CH_CAL.GAIN, PMA_CH_CAL.OFFSET]⟩

/- `PMA_CH_TRIM` (R326). -/
def PMA_CH_TRIM.GAIN : Fld := ⟨0xA1008, 0x20, 48, 1, 0x0, 16, 16, .ro, 0x8000, false⟩
def PMA_CH_TRIM.OFFSET : Fld := ⟨0xA1008, 0x20, 48, 1, 0x0, 0, 16, .ro, 0x0, false⟩
def PMA_CH_TRIM.reg : Reg := ⟨"PMA_CH_TRIM", 0xA1008, 0x20, 48, 1, 0x0,
  [PMA_CH_TRIM.GAIN, PMA_CH_TRIM.OFFSET]⟩

/- `PMA_CH_WIN0` (R326). -/
def PMA_CH_WIN0.HI : Fld := ⟨0xA100C, 0x20, 48, 1, 0x0, 16, 16, .ro, 0x7FFF, false⟩
def PMA_CH_WIN0.LO : Fld := ⟨0xA100C, 0x20, 48, 1, 0x0, 0, 16, .ro, 0x8001, false⟩
def PMA_CH_WIN0.reg : Reg := ⟨"PMA_CH_WIN0", 0xA100C, 0x20, 48, 1, 0x0,
  [PMA_CH_WIN0.HI, PMA_CH_WIN0.LO]⟩

/- `PMA_CH_WIN1` (R326). -/
def PMA_CH_WIN1.ACTION : Fld := ⟨0xA1010, 0x20, 48, 1, 0x0, 30, 2, .ro, 0x0, false⟩
def PMA_CH_WIN1.HYS : Fld := ⟨0xA1010, 0x20, 48, 1, 0x0, 16, 10, .ro, 0x0, false⟩
def PMA_CH_WIN1.OC_FILT : Fld := ⟨0xA1010, 0x20, 48, 1, 0x0, 8, 6, .ro, 0x0, false⟩
def PMA_CH_WIN1.LEG : Fld := ⟨0xA1010, 0x20, 48, 1, 0x0, 0, 6, .ro, 0x3F, false⟩
def PMA_CH_WIN1.reg : Reg := ⟨"PMA_CH_WIN1", 0xA1010, 0x20, 48, 1, 0x0,
  [PMA_CH_WIN1.ACTION, PMA_CH_WIN1.HYS, PMA_CH_WIN1.OC_FILT, PMA_CH_WIN1.LEG]⟩

/- `PMA_CH_SAMPLE` (R326). -/
def PMA_CH_SAMPLE.GEN : Fld := ⟨0xA1014, 0x20, 48, 1, 0x0, 16, 16, .ro, 0x0, false⟩
def PMA_CH_SAMPLE.CODE : Fld := ⟨0xA1014, 0x20, 48, 1, 0x0, 0, 16, .ro, 0x0, false⟩
def PMA_CH_SAMPLE.reg : Reg := ⟨"PMA_CH_SAMPLE", 0xA1014, 0x20, 48, 1, 0x0,
  [PMA_CH_SAMPLE.GEN, PMA_CH_SAMPLE.CODE]⟩

/- `PMA_CH_STATUS` (R326). -/
def PMA_CH_STATUS.FAILED : Fld := ⟨0xA1018, 0x20, 48, 1, 0x0, 31, 1, .ro, 0x0, false⟩
def PMA_CH_STATUS.ABOVE : Fld := ⟨0xA1018, 0x20, 48, 1, 0x0, 30, 1, .ro, 0x0, false⟩
def PMA_CH_STATUS.BELOW : Fld := ⟨0xA1018, 0x20, 48, 1, 0x0, 29, 1, .ro, 0x0, false⟩
def PMA_CH_STATUS.HI_SEEN : Fld := ⟨0xA1018, 0x20, 48, 1, 0x0, 28, 1, .w1c, 0x0, false⟩
def PMA_CH_STATUS.LO_SEEN : Fld := ⟨0xA1018, 0x20, 48, 1, 0x0, 27, 1, .w1c, 0x0, false⟩
def PMA_CH_STATUS.N_HI : Fld := ⟨0xA1018, 0x20, 48, 1, 0x0, 8, 8, .rc, 0x0, false⟩
def PMA_CH_STATUS.N_LO : Fld := ⟨0xA1018, 0x20, 48, 1, 0x0, 0, 8, .rc, 0x0, false⟩
def PMA_CH_STATUS.reg : Reg := ⟨"PMA_CH_STATUS", 0xA1018, 0x20, 48, 1, 0x0,
  [PMA_CH_STATUS.FAILED, PMA_CH_STATUS.ABOVE, PMA_CH_STATUS.BELOW, PMA_CH_STATUS.HI_SEEN, PMA_CH_STATUS.LO_SEEN, PMA_CH_STATUS.N_HI, PMA_CH_STATUS.N_LO]⟩

/-- Every register of this file. -/
def regsPwm : List Reg :=
  [PWM_GLB_STATUS.reg, PWM_UPD.reg, PWM_GEN_CFG0.reg, PWM_GEN_CFG1.reg, PWM_GEN_STATUS.reg, PWM_GEN_PERIOD.reg, PWM_BR_CFG0.reg, PWM_BR_CFG1.reg, PWM_BR_CTRL.reg, PWM_BR_STATUS.reg, PWM_LEG_CFG.reg, PWM_LEG_DUTY.reg, PWM_LEG_STATE.reg, PMA_GLB_STATUS.reg, PMA_GRP_CFG.reg, PMA_CH_CFG.reg, PMA_CH_CAL.reg, PMA_CH_TRIM.reg, PMA_CH_WIN0.reg, PMA_CH_WIN1.reg] ++
  [PMA_CH_SAMPLE.reg, PMA_CH_STATUS.reg]

end Sys2Proof.Machine
end

