-- ==== Sys2Proof/Machine/RegsSnp.lean ====
section
/-!
DEFINITION. The registers of SNP: snapshot unit (R445).

Per field: base, stride, count, inner count, inner stride, lowest bit, width, access, reset value, kept across a warm reset.
-/
namespace Sys2Proof.Machine

/- `SNP_STATUS` (R445). -/
def SNP_STATUS.GEN : Fld := ⟨0xF0000, 0x0, 1, 1, 0x0, 16, 16, .ro, 0x0, true⟩
def SNP_STATUS.VALID : Fld := ⟨0xF0000, 0x0, 1, 1, 0x0, 15, 1, .ro, 0x0, true⟩
def SNP_STATUS.LOCKED : Fld := ⟨0xF0000, 0x0, 1, 1, 0x0, 14, 1, .ro, 0x0, true⟩
def SNP_STATUS.ARMED : Fld := ⟨0xF0000, 0x0, 1, 1, 0x0, 13, 1, .ro, 0x0, false⟩
def SNP_STATUS.SOURCE : Fld := ⟨0xF0000, 0x0, 1, 1, 0x0, 4, 4, .ro, 0x0, true⟩
def SNP_STATUS.reg : Reg := ⟨"SNP_STATUS", 0xF0000, 0x0, 1, 1, 0x0,
  [SNP_STATUS.GEN, SNP_STATUS.VALID, SNP_STATUS.LOCKED, SNP_STATUS.ARMED, SNP_STATUS.SOURCE]⟩

/- `SNP_CTRL` (R445). -/
def SNP_CTRL.DISARM : Fld := ⟨0xF0004, 0x0, 1, 1, 0x0, 3, 1, .wo, 0x0, false⟩
def SNP_CTRL.ARM : Fld := ⟨0xF0004, 0x0, 1, 1, 0x0, 2, 1, .wo, 0x0, false⟩
def SNP_CTRL.UNLOCK : Fld := ⟨0xF0004, 0x0, 1, 1, 0x0, 1, 1, .wo, 0x0, false⟩
def SNP_CTRL.TRIGGER : Fld := ⟨0xF0004, 0x0, 1, 1, 0x0, 0, 1, .wo, 0x0, false⟩
def SNP_CTRL.reg : Reg := ⟨"SNP_CTRL", 0xF0004, 0x0, 1, 1, 0x0,
  [SNP_CTRL.DISARM, SNP_CTRL.ARM, SNP_CTRL.UNLOCK, SNP_CTRL.TRIGGER]⟩

/- `SNP_CFG` (R445). -/
def SNP_CFG.AUTO_LOCK : Fld := ⟨0xF0008, 0x0, 1, 1, 0x0, 5, 1, .ro, 0x0, true⟩
def SNP_CFG.EN_JUMP : Fld := ⟨0xF0008, 0x0, 1, 1, 0x0, 4, 1, .ro, 0x0, true⟩
def SNP_CFG.EN_LINK : Fld := ⟨0xF0008, 0x0, 1, 1, 0x0, 3, 1, .ro, 0x0, true⟩
def SNP_CFG.EN_SECTION : Fld := ⟨0xF0008, 0x0, 1, 1, 0x0, 2, 1, .ro, 0x0, true⟩
def SNP_CFG.EN_BRIDGE : Fld := ⟨0xF0008, 0x0, 1, 1, 0x0, 1, 1, .ro, 0x0, true⟩
def SNP_CFG.EN_LEAVEN : Fld := ⟨0xF0008, 0x0, 1, 1, 0x0, 0, 1, .ro, 0x0, true⟩
def SNP_CFG.reg : Reg := ⟨"SNP_CFG", 0xF0008, 0x0, 1, 1, 0x0,
  [SNP_CFG.AUTO_LOCK, SNP_CFG.EN_JUMP, SNP_CFG.EN_LINK, SNP_CFG.EN_SECTION, SNP_CFG.EN_BRIDGE, SNP_CFG.EN_LEAVEN]⟩

/- `SNP_TMATCH0` (R445). -/
def SNP_TMATCH0.NS : Fld := ⟨0xF0010, 0x0, 1, 1, 0x0, 0, 32, .rw, 0x0, true⟩
def SNP_TMATCH0.reg : Reg := ⟨"SNP_TMATCH0", 0xF0010, 0x0, 1, 1, 0x0,
  [SNP_TMATCH0.NS]⟩

/- `SNP_TMATCH1` (R445). -/
def SNP_TMATCH1.SEC_LO : Fld := ⟨0xF0014, 0x0, 1, 1, 0x0, 0, 32, .rw, 0x0, true⟩
def SNP_TMATCH1.reg : Reg := ⟨"SNP_TMATCH1", 0xF0014, 0x0, 1, 1, 0x0,
  [SNP_TMATCH1.SEC_LO]⟩

/- `SNP_TMATCH2` (R445). -/
def SNP_TMATCH2.SEC_HI : Fld := ⟨0xF0018, 0x0, 1, 1, 0x0, 0, 16, .rw, 0x0, true⟩
def SNP_TMATCH2.reg : Reg := ⟨"SNP_TMATCH2", 0xF0018, 0x0, 1, 1, 0x0,
  [SNP_TMATCH2.SEC_HI]⟩

/- `SNP_MISSED` (R445). -/
def SNP_MISSED.COUNT : Fld := ⟨0xF001C, 0x0, 1, 1, 0x0, 16, 16, .ro, 0x0, true⟩
def SNP_MISSED.FIRST_SRC : Fld := ⟨0xF001C, 0x0, 1, 1, 0x0, 12, 4, .ro, 0x0, true⟩
def SNP_MISSED.reg : Reg := ⟨"SNP_MISSED", 0xF001C, 0x0, 1, 1, 0x0,
  [SNP_MISSED.COUNT, SNP_MISSED.FIRST_SRC]⟩

/- `SNP_MISSED_T0` (R445). -/
def SNP_MISSED_T0.NS : Fld := ⟨0xF0020, 0x0, 1, 1, 0x0, 0, 32, .ro, 0x0, true⟩
def SNP_MISSED_T0.reg : Reg := ⟨"SNP_MISSED_T0", 0xF0020, 0x0, 1, 1, 0x0,
  [SNP_MISSED_T0.NS]⟩

/- `SNP_MISSED_T1` (R445). -/
def SNP_MISSED_T1.SEC_LO : Fld := ⟨0xF0024, 0x0, 1, 1, 0x0, 0, 32, .ro, 0x0, true⟩
def SNP_MISSED_T1.reg : Reg := ⟨"SNP_MISSED_T1", 0xF0024, 0x0, 1, 1, 0x0,
  [SNP_MISSED_T1.SEC_LO]⟩

/- `SNP_MISSED_T2` (R445). -/
def SNP_MISSED_T2.SEC_HI : Fld := ⟨0xF0028, 0x0, 1, 1, 0x0, 0, 16, .ro, 0x0, true⟩
def SNP_MISSED_T2.reg : Reg := ⟨"SNP_MISSED_T2", 0xF0028, 0x0, 1, 1, 0x0,
  [SNP_MISSED_T2.SEC_HI]⟩

/- `SNP_DATA` (R445). -/
def SNP_DATA.DATA : Fld := ⟨0xF1000, 0x4, 2048, 1, 0x0, 0, 32, .ro, 0x0, true⟩
def SNP_DATA.reg : Reg := ⟨"SNP_DATA", 0xF1000, 0x4, 2048, 1, 0x0,
  [SNP_DATA.DATA]⟩

/-- Every register of this file. -/
def regsSnp : List Reg :=
  [SNP_STATUS.reg, SNP_CTRL.reg, SNP_CFG.reg, SNP_TMATCH0.reg, SNP_TMATCH1.reg, SNP_TMATCH2.reg, SNP_MISSED.reg, SNP_MISSED_T0.reg, SNP_MISSED_T1.reg, SNP_MISSED_T2.reg, SNP_DATA.reg]

end Sys2Proof.Machine
end

