-- ==== Sys2Proof/Machine/RegsSop.lean ====
section
/-!
DEFINITION. The registers of SOP: safety outputs (R235).

Per field: base, stride, count, inner count, inner stride, lowest bit, width, access, reset value, kept across a warm reset.
-/
namespace Sys2Proof.Machine

/- `SOP_GLB_STATUS` (R235). -/
def SOP_GLB_STATUS.N_USED : Fld := ⟨0x40000, 0x0, 1, 1, 0x0, 24, 8, .ro, 0x0, false⟩
def SOP_GLB_STATUS.N_ON : Fld := ⟨0x40000, 0x0, 1, 1, 0x0, 16, 8, .ro, 0x0, false⟩
def SOP_GLB_STATUS.N_LOCKED : Fld := ⟨0x40000, 0x0, 1, 1, 0x0, 8, 8, .ro, 0x0, false⟩
def SOP_GLB_STATUS.UNLOCK_RES : Fld := ⟨0x40000, 0x0, 1, 1, 0x0, 0, 4, .ro, 0x0, false⟩
def SOP_GLB_STATUS.reg : Reg := ⟨"SOP_GLB_STATUS", 0x40000, 0x0, 1, 1, 0x0,
  [SOP_GLB_STATUS.N_USED, SOP_GLB_STATUS.N_ON, SOP_GLB_STATUS.N_LOCKED, SOP_GLB_STATUS.UNLOCK_RES]⟩

/- `SOP_CMD` (R235). -/
def SOP_CMD.CMD : Fld := ⟨0x40010, 0x4, 3, 1, 0x0, 0, 32, .rw, 0x0, false⟩
def SOP_CMD.reg : Reg := ⟨"SOP_CMD", 0x40010, 0x4, 3, 1, 0x0,
  [SOP_CMD.CMD]⟩

/- `SOP_COMMIT` (R235). -/
def SOP_COMMIT.GEN : Fld := ⟨0x40020, 0x0, 1, 1, 0x0, 16, 16, .wo, 0x0, false⟩
def SOP_COMMIT.GO : Fld := ⟨0x40020, 0x0, 1, 1, 0x0, 0, 1, .wo, 0x0, false⟩
def SOP_COMMIT.reg : Reg := ⟨"SOP_COMMIT", 0x40020, 0x0, 1, 1, 0x0,
  [SOP_COMMIT.GEN, SOP_COMMIT.GO]⟩

/- `SOP_COMMIT_STATUS` (R235). -/
def SOP_COMMIT_STATUS.GEN : Fld := ⟨0x40024, 0x0, 1, 1, 0x0, 16, 16, .ro, 0x0, false⟩
def SOP_COMMIT_STATUS.VALID : Fld := ⟨0x40024, 0x0, 1, 1, 0x0, 15, 1, .ro, 0x0, false⟩
def SOP_COMMIT_STATUS.RESULT : Fld := ⟨0x40024, 0x0, 1, 1, 0x0, 8, 4, .ro, 0x0, false⟩
def SOP_COMMIT_STATUS.MASKED : Fld := ⟨0x40024, 0x0, 1, 1, 0x0, 0, 8, .rc, 0x0, false⟩
def SOP_COMMIT_STATUS.reg : Reg := ⟨"SOP_COMMIT_STATUS", 0x40024, 0x0, 1, 1, 0x0,
  [SOP_COMMIT_STATUS.GEN, SOP_COMMIT_STATUS.VALID, SOP_COMMIT_STATUS.RESULT, SOP_COMMIT_STATUS.MASKED]⟩

/- `SOP_REL` (R235). -/
def SOP_REL.REL : Fld := ⟨0x40030, 0x4, 3, 1, 0x0, 0, 32, .wo, 0x0, false⟩
def SOP_REL.reg : Reg := ⟨"SOP_REL", 0x40030, 0x4, 3, 1, 0x0,
  [SOP_REL.REL]⟩

/- `SOP_UNLOCK` (R235). -/
def SOP_UNLOCK.GO : Fld := ⟨0x40040, 0x0, 1, 1, 0x0, 7, 1, .wo, 0x0, false⟩
def SOP_UNLOCK.CHANNEL : Fld := ⟨0x40040, 0x0, 1, 1, 0x0, 0, 7, .wo, 0x0, false⟩
def SOP_UNLOCK.reg : Reg := ⟨"SOP_UNLOCK", 0x40040, 0x0, 1, 1, 0x0,
  [SOP_UNLOCK.GO, SOP_UNLOCK.CHANNEL]⟩

/- `SOP_TEST_CFG` (R235). -/
def SOP_TEST_CFG.T_OTEST : Fld := ⟨0x40050, 0x0, 1, 1, 0x0, 22, 10, .ro, 0x32, false⟩
def SOP_TEST_CFG.T_PULSE : Fld := ⟨0x40050, 0x0, 1, 1, 0x0, 16, 6, .ro, 0x28, false⟩
def SOP_TEST_CFG.T_STEP : Fld := ⟨0x40050, 0x0, 1, 1, 0x0, 8, 8, .ro, 0xA, false⟩
def SOP_TEST_CFG.T_RB : Fld := ⟨0x40050, 0x0, 1, 1, 0x0, 4, 4, .ro, 0x5, false⟩
def SOP_TEST_CFG.reg : Reg := ⟨"SOP_TEST_CFG", 0x40050, 0x0, 1, 1, 0x0,
  [SOP_TEST_CFG.T_OTEST, SOP_TEST_CFG.T_PULSE, SOP_TEST_CFG.T_STEP, SOP_TEST_CFG.T_RB]⟩

/- `SOP_ON_MAP` (R235). -/
def SOP_ON_MAP.MAP : Fld := ⟨0x40060, 0x4, 3, 1, 0x0, 0, 32, .ro, 0x0, false⟩
def SOP_ON_MAP.reg : Reg := ⟨"SOP_ON_MAP", 0x40060, 0x4, 3, 1, 0x0,
  [SOP_ON_MAP.MAP]⟩

/- `SOP_LATCH_MAP` (R235). -/
def SOP_LATCH_MAP.MAP : Fld := ⟨0x40070, 0x4, 3, 1, 0x0, 0, 32, .ro, 0x0, false⟩
def SOP_LATCH_MAP.reg : Reg := ⟨"SOP_LATCH_MAP", 0x40070, 0x4, 3, 1, 0x0,
  [SOP_LATCH_MAP.MAP]⟩

/- `SOP_LOCK_MAP` (R235). -/
def SOP_LOCK_MAP.MAP : Fld := ⟨0x40080, 0x4, 3, 1, 0x0, 0, 32, .ro, 0x0, false⟩
def SOP_LOCK_MAP.reg : Reg := ⟨"SOP_LOCK_MAP", 0x40080, 0x4, 3, 1, 0x0,
  [SOP_LOCK_MAP.MAP]⟩

/- `SOP_SAFE` (R235). -/
def SOP_SAFE.ASSERTED : Fld := ⟨0x40090, 0x0, 1, 1, 0x0, 31, 1, .ro, 0x1, false⟩
def SOP_SAFE.NOT_JOINED : Fld := ⟨0x40090, 0x0, 1, 1, 0x0, 30, 1, .ro, 0x1, false⟩
def SOP_SAFE.NOT_SERVICE : Fld := ⟨0x40090, 0x0, 1, 1, 0x0, 29, 1, .ro, 0x1, false⟩
def SOP_SAFE.MDLL_A : Fld := ⟨0x40090, 0x0, 1, 1, 0x0, 28, 1, .ro, 0x1, false⟩
def SOP_SAFE.LOCKED : Fld := ⟨0x40090, 0x0, 1, 1, 0x0, 27, 1, .ro, 0x0, false⟩
def SOP_SAFE.reg : Reg := ⟨"SOP_SAFE", 0x40090, 0x0, 1, 1, 0x0,
  [SOP_SAFE.ASSERTED, SOP_SAFE.NOT_JOINED, SOP_SAFE.NOT_SERVICE, SOP_SAFE.MDLL_A, SOP_SAFE.LOCKED]⟩

/- `SOP_CH_CFG` (R235). -/
def SOP_CH_CFG.USED : Fld := ⟨0x41000, 0x10, 72, 1, 0x0, 31, 1, .ro, 0x0, false⟩
def SOP_CH_CFG.GENERAL : Fld := ⟨0x41000, 0x10, 72, 1, 0x0, 30, 1, .ro, 0x0, false⟩
def SOP_CH_CFG.SECTION : Fld := ⟨0x41000, 0x10, 72, 1, 0x0, 24, 6, .ro, 0x0, false⟩
def SOP_CH_CFG.SLOT : Fld := ⟨0x41000, 0x10, 72, 1, 0x0, 0, 16, .ro, 0x0, false⟩
def SOP_CH_CFG.reg : Reg := ⟨"SOP_CH_CFG", 0x41000, 0x10, 72, 1, 0x0,
  [SOP_CH_CFG.USED, SOP_CH_CFG.GENERAL, SOP_CH_CFG.SECTION, SOP_CH_CFG.SLOT]⟩

/- `SOP_CH_STATE` (R235). -/
def SOP_CH_STATE.COND : Fld := ⟨0x41004, 0x10, 72, 1, 0x0, 29, 3, .ro, 0x0, false⟩
def SOP_CH_STATE.CMD : Fld := ⟨0x41004, 0x10, 72, 1, 0x0, 28, 1, .ro, 0x0, false⟩
def SOP_CH_STATE.LATCH : Fld := ⟨0x41004, 0x10, 72, 1, 0x0, 27, 1, .ro, 0x1, false⟩
def SOP_CH_STATE.SOH : Fld := ⟨0x41004, 0x10, 72, 1, 0x0, 26, 1, .ro, 0x0, false⟩
def SOP_CH_STATE.SOL : Fld := ⟨0x41004, 0x10, 72, 1, 0x0, 25, 1, .ro, 0x0, false⟩
def SOP_CH_STATE.SOM : Fld := ⟨0x41004, 0x10, 72, 1, 0x0, 24, 1, .ro, 0x0, false⟩
def SOP_CH_STATE.SOV : Fld := ⟨0x41004, 0x10, 72, 1, 0x0, 23, 1, .ro, 0x0, false⟩
def SOP_CH_STATE.TEST_LATE : Fld := ⟨0x41004, 0x10, 72, 1, 0x0, 22, 1, .ro, 0x0, false⟩
def SOP_CH_STATE.NEXT_L : Fld := ⟨0x41004, 0x10, 72, 1, 0x0, 21, 1, .ro, 0x0, false⟩
def SOP_CH_STATE.FAULT : Fld := ⟨0x41004, 0x10, 72, 1, 0x0, 16, 4, .ro, 0x0, false⟩
def SOP_CH_STATE.reg : Reg := ⟨"SOP_CH_STATE", 0x41004, 0x10, 72, 1, 0x0,
  [SOP_CH_STATE.COND, SOP_CH_STATE.CMD, SOP_CH_STATE.LATCH, SOP_CH_STATE.SOH, SOP_CH_STATE.SOL, SOP_CH_STATE.SOM, SOP_CH_STATE.SOV, SOP_CH_STATE.TEST_LATE, SOP_CH_STATE.NEXT_L, SOP_CH_STATE.FAULT]⟩

/- `SOP_CH_TEST` (R235). -/
def SOP_CH_TEST.GEN : Fld := ⟨0x41008, 0x10, 72, 1, 0x0, 16, 16, .ro, 0x0, false⟩
def SOP_CH_TEST.VALID : Fld := ⟨0x41008, 0x10, 72, 1, 0x0, 15, 1, .ro, 0x0, false⟩
def SOP_CH_TEST.KIND : Fld := ⟨0x41008, 0x10, 72, 1, 0x0, 12, 3, .ro, 0x0, false⟩
def SOP_CH_TEST.RESULT : Fld := ⟨0x41008, 0x10, 72, 1, 0x0, 8, 4, .ro, 0x0, false⟩
def SOP_CH_TEST.reg : Reg := ⟨"SOP_CH_TEST", 0x41008, 0x10, 72, 1, 0x0,
  [SOP_CH_TEST.GEN, SOP_CH_TEST.VALID, SOP_CH_TEST.KIND, SOP_CH_TEST.RESULT]⟩

/- `SOP_CH_CNT` (R235). -/
def SOP_CH_CNT.PULSES : Fld := ⟨0x4100C, 0x10, 72, 1, 0x0, 16, 16, .ro, 0x0, false⟩
def SOP_CH_CNT.ABANDON : Fld := ⟨0x4100C, 0x10, 72, 1, 0x0, 8, 8, .rc, 0x0, false⟩
def SOP_CH_CNT.INTERRUPT : Fld := ⟨0x4100C, 0x10, 72, 1, 0x0, 0, 8, .rc, 0x0, false⟩
def SOP_CH_CNT.reg : Reg := ⟨"SOP_CH_CNT", 0x4100C, 0x10, 72, 1, 0x0,
  [SOP_CH_CNT.PULSES, SOP_CH_CNT.ABANDON, SOP_CH_CNT.INTERRUPT]⟩

/-- Every register of this file. -/
def regsSop : List Reg :=
  [SOP_GLB_STATUS.reg, SOP_CMD.reg, SOP_COMMIT.reg, SOP_COMMIT_STATUS.reg, SOP_REL.reg, SOP_UNLOCK.reg, SOP_TEST_CFG.reg, SOP_ON_MAP.reg, SOP_LATCH_MAP.reg, SOP_LOCK_MAP.reg, SOP_SAFE.reg, SOP_CH_CFG.reg, SOP_CH_STATE.reg, SOP_CH_TEST.reg, SOP_CH_CNT.reg]

end Sys2Proof.Machine
end

