-- ==== Sys2Proof/Machine/RegsSys.lean ====
section
/-!
DEFINITION. The registers of SYS: identity, modes, causes, Proof, host (R75, R444).

Per field: base, stride, count, inner count, inner stride, lowest bit, width, access, reset value, kept across a warm reset.
-/
namespace Sys2Proof.Machine

/- `SYS_ID` (R75). -/
def SYS_ID.PART : Fld := ⟨0x0, 0x0, 1, 1, 0x0, 16, 16, .ro, 0xD96, false⟩
def SYS_ID.STEP_LETTER : Fld := ⟨0x0, 0x0, 1, 1, 0x0, 8, 8, .ro, 0xA, false⟩
def SYS_ID.STEP_NUMBER : Fld := ⟨0x0, 0x0, 1, 1, 0x0, 0, 8, .ro, 0x1, false⟩
def SYS_ID.reg : Reg := ⟨"SYS_ID", 0x0, 0x0, 1, 1, 0x0,
  [SYS_ID.PART, SYS_ID.STEP_LETTER, SYS_ID.STEP_NUMBER]⟩

/- `SYS_MODE` (R75). -/
def SYS_MODE.GEN : Fld := ⟨0x4, 0x0, 1, 1, 0x0, 16, 16, .ro, 0x0, false⟩
def SYS_MODE.WAKE : Fld := ⟨0x4, 0x0, 1, 1, 0x0, 8, 3, .ro, 0x0, false⟩
def SYS_MODE.PROOF_RUN : Fld := ⟨0x4, 0x0, 1, 1, 0x0, 6, 1, .ro, 0x0, false⟩
def SYS_MODE.PREV : Fld := ⟨0x4, 0x0, 1, 1, 0x0, 3, 3, .ro, 0x0, false⟩
def SYS_MODE.CUR : Fld := ⟨0x4, 0x0, 1, 1, 0x0, 0, 3, .ro, 0x0, false⟩
def SYS_MODE.reg : Reg := ⟨"SYS_MODE", 0x4, 0x0, 1, 1, 0x0,
  [SYS_MODE.GEN, SYS_MODE.WAKE, SYS_MODE.PROOF_RUN, SYS_MODE.PREV, SYS_MODE.CUR]⟩

/- `SYS_MODE_CTRL` (R75). -/
def SYS_MODE_CTRL.TAG : Fld := ⟨0x8, 0x0, 1, 1, 0x0, 16, 16, .wo, 0x0, false⟩
def SYS_MODE_CTRL.GO : Fld := ⟨0x8, 0x0, 1, 1, 0x0, 3, 1, .wo, 0x0, false⟩
def SYS_MODE_CTRL.REQ : Fld := ⟨0x8, 0x0, 1, 1, 0x0, 0, 3, .wo, 0x0, false⟩
def SYS_MODE_CTRL.reg : Reg := ⟨"SYS_MODE_CTRL", 0x8, 0x0, 1, 1, 0x0,
  [SYS_MODE_CTRL.TAG, SYS_MODE_CTRL.GO, SYS_MODE_CTRL.REQ]⟩

/- `SYS_MODE_STATUS` (R75). -/
def SYS_MODE_STATUS.GEN : Fld := ⟨0xC, 0x0, 1, 1, 0x0, 16, 16, .ro, 0x0, false⟩
def SYS_MODE_STATUS.VALID : Fld := ⟨0xC, 0x0, 1, 1, 0x0, 15, 1, .ro, 0x0, false⟩
def SYS_MODE_STATUS.REASON : Fld := ⟨0xC, 0x0, 1, 1, 0x0, 8, 7, .ro, 0x0, false⟩
def SYS_MODE_STATUS.RESULT : Fld := ⟨0xC, 0x0, 1, 1, 0x0, 0, 4, .ro, 0x0, false⟩
def SYS_MODE_STATUS.reg : Reg := ⟨"SYS_MODE_STATUS", 0xC, 0x0, 1, 1, 0x0,
  [SYS_MODE_STATUS.GEN, SYS_MODE_STATUS.VALID, SYS_MODE_STATUS.REASON, SYS_MODE_STATUS.RESULT]⟩

/- `SYS_MODE_TAG` (R75). -/
def SYS_MODE_TAG.TAG : Fld := ⟨0x14, 0x0, 1, 1, 0x0, 0, 16, .ro, 0x0, false⟩
def SYS_MODE_TAG.reg : Reg := ⟨"SYS_MODE_TAG", 0x14, 0x0, 1, 1, 0x0,
  [SYS_MODE_TAG.TAG]⟩

/- `SYS_BOOT` (R75). -/
def SYS_BOOT.LSEL_USED : Fld := ⟨0x10, 0x0, 1, 1, 0x0, 4, 2, .ro, 0x0, false⟩
def SYS_BOOT.CMD_SEL : Fld := ⟨0x10, 0x0, 1, 1, 0x0, 3, 1, .ro, 0x0, false⟩
def SYS_BOOT.LSEL_PIN : Fld := ⟨0x10, 0x0, 1, 1, 0x0, 0, 2, .ro, 0x0, false⟩
def SYS_BOOT.reg : Reg := ⟨"SYS_BOOT", 0x10, 0x0, 1, 1, 0x0,
  [SYS_BOOT.LSEL_USED, SYS_BOOT.CMD_SEL, SYS_BOOT.LSEL_PIN]⟩

/- `SYS_CAUSE_HOLD0` (R75). -/
def SYS_CAUSE_HOLD0.VALID : Fld := ⟨0x20, 0x0, 1, 1, 0x0, 31, 1, .rws, 0x0, true⟩
def SYS_CAUSE_HOLD0.MODE : Fld := ⟨0x20, 0x0, 1, 1, 0x0, 24, 3, .rws, 0x0, true⟩
def SYS_CAUSE_HOLD0.INDEX : Fld := ⟨0x20, 0x0, 1, 1, 0x0, 16, 8, .rws, 0x0, true⟩
def SYS_CAUSE_HOLD0.BLOCK : Fld := ⟨0x20, 0x0, 1, 1, 0x0, 8, 8, .rws, 0x0, true⟩
def SYS_CAUSE_HOLD0.CODE : Fld := ⟨0x20, 0x0, 1, 1, 0x0, 0, 8, .rws, 0x0, true⟩
def SYS_CAUSE_HOLD0.reg : Reg := ⟨"SYS_CAUSE_HOLD0", 0x20, 0x0, 1, 1, 0x0,
  [SYS_CAUSE_HOLD0.VALID, SYS_CAUSE_HOLD0.MODE, SYS_CAUSE_HOLD0.INDEX, SYS_CAUSE_HOLD0.BLOCK, SYS_CAUSE_HOLD0.CODE]⟩

/- `SYS_CAUSE_LAST0` (R75). -/
def SYS_CAUSE_LAST0.VALID : Fld := ⟨0x30, 0x0, 1, 1, 0x0, 31, 1, .rws, 0x0, true⟩
def SYS_CAUSE_LAST0.MODE : Fld := ⟨0x30, 0x0, 1, 1, 0x0, 24, 3, .rws, 0x0, true⟩
def SYS_CAUSE_LAST0.INDEX : Fld := ⟨0x30, 0x0, 1, 1, 0x0, 16, 8, .rws, 0x0, true⟩
def SYS_CAUSE_LAST0.BLOCK : Fld := ⟨0x30, 0x0, 1, 1, 0x0, 8, 8, .rws, 0x0, true⟩
def SYS_CAUSE_LAST0.CODE : Fld := ⟨0x30, 0x0, 1, 1, 0x0, 0, 8, .rws, 0x0, true⟩
def SYS_CAUSE_LAST0.reg : Reg := ⟨"SYS_CAUSE_LAST0", 0x30, 0x0, 1, 1, 0x0,
  [SYS_CAUSE_LAST0.VALID, SYS_CAUSE_LAST0.MODE, SYS_CAUSE_LAST0.INDEX, SYS_CAUSE_LAST0.BLOCK, SYS_CAUSE_LAST0.CODE]⟩

/- `SYS_CAUSE_HOLD1` (R75). -/
def SYS_CAUSE_HOLD1.NS : Fld := ⟨0x24, 0x0, 1, 1, 0x0, 0, 32, .rws, 0x0, true⟩
def SYS_CAUSE_HOLD1.reg : Reg := ⟨"SYS_CAUSE_HOLD1", 0x24, 0x0, 1, 1, 0x0,
  [SYS_CAUSE_HOLD1.NS]⟩

/- `SYS_CAUSE_HOLD2` (R75). -/
def SYS_CAUSE_HOLD2.SEC_LO : Fld := ⟨0x28, 0x0, 1, 1, 0x0, 0, 32, .rws, 0x0, true⟩
def SYS_CAUSE_HOLD2.reg : Reg := ⟨"SYS_CAUSE_HOLD2", 0x28, 0x0, 1, 1, 0x0,
  [SYS_CAUSE_HOLD2.SEC_LO]⟩

/- `SYS_CAUSE_HOLD3` (R75). -/
def SYS_CAUSE_HOLD3.SEC_HI : Fld := ⟨0x2C, 0x0, 1, 1, 0x0, 0, 16, .rws, 0x0, true⟩
def SYS_CAUSE_HOLD3.reg : Reg := ⟨"SYS_CAUSE_HOLD3", 0x2C, 0x0, 1, 1, 0x0,
  [SYS_CAUSE_HOLD3.SEC_HI]⟩

/- `SYS_CAUSE_LAST1` (R75). -/
def SYS_CAUSE_LAST1.NS : Fld := ⟨0x34, 0x0, 1, 1, 0x0, 0, 32, .rws, 0x0, true⟩
def SYS_CAUSE_LAST1.reg : Reg := ⟨"SYS_CAUSE_LAST1", 0x34, 0x0, 1, 1, 0x0,
  [SYS_CAUSE_LAST1.NS]⟩

/- `SYS_CAUSE_LAST2` (R75). -/
def SYS_CAUSE_LAST2.SEC_LO : Fld := ⟨0x38, 0x0, 1, 1, 0x0, 0, 32, .rws, 0x0, true⟩
def SYS_CAUSE_LAST2.reg : Reg := ⟨"SYS_CAUSE_LAST2", 0x38, 0x0, 1, 1, 0x0,
  [SYS_CAUSE_LAST2.SEC_LO]⟩

/- `SYS_CAUSE_LAST3` (R75). -/
def SYS_CAUSE_LAST3.SEC_HI : Fld := ⟨0x3C, 0x0, 1, 1, 0x0, 0, 16, .rws, 0x0, true⟩
def SYS_CAUSE_LAST3.reg : Reg := ⟨"SYS_CAUSE_LAST3", 0x3C, 0x0, 1, 1, 0x0,
  [SYS_CAUSE_LAST3.SEC_HI]⟩

/- `SYS_CAUSE_SET` (R75). -/
def SYS_CAUSE_SET.SET : Fld := ⟨0x40, 0x4, 2, 1, 0x0, 0, 32, .w1c, 0x0, false⟩
def SYS_CAUSE_SET.reg : Reg := ⟨"SYS_CAUSE_SET", 0x40, 0x4, 2, 1, 0x0,
  [SYS_CAUSE_SET.SET]⟩

/- `SYS_PROOF` (R75). -/
def SYS_PROOF.OVERDUE : Fld := ⟨0x48, 0x0, 1, 1, 0x0, 18, 1, .ro, 0x0, false⟩
def SYS_PROOF.DUE : Fld := ⟨0x48, 0x0, 1, 1, 0x0, 17, 1, .ro, 0x0, false⟩
def SYS_PROOF.FX_LATE : Fld := ⟨0x48, 0x0, 1, 1, 0x0, 16, 1, .ro, 0x0, false⟩
def SYS_PROOF.ITEM_PASS : Fld := ⟨0x48, 0x0, 1, 1, 0x0, 0, 12, .ro, 0x0, false⟩
def SYS_PROOF.reg : Reg := ⟨"SYS_PROOF", 0x48, 0x0, 1, 1, 0x0,
  [SYS_PROOF.OVERDUE, SYS_PROOF.DUE, SYS_PROOF.FX_LATE, SYS_PROOF.ITEM_PASS]⟩

/- `SYS_PROOF_TIMER` (R75). -/
def SYS_PROOF_TIMER.LIMIT : Fld := ⟨0x4C, 0x0, 1, 1, 0x0, 12, 12, .ro, 0x0, false⟩
def SYS_PROOF_TIMER.HOURS : Fld := ⟨0x4C, 0x0, 1, 1, 0x0, 0, 12, .rws, 0x0, true⟩
def SYS_PROOF_TIMER.reg : Reg := ⟨"SYS_PROOF_TIMER", 0x4C, 0x0, 1, 1, 0x0,
  [SYS_PROOF_TIMER.LIMIT, SYS_PROOF_TIMER.HOURS]⟩

/- `SYS_DORMANT_CFG` (R75). -/
def SYS_DORMANT_CFG.TIMER : Fld := ⟨0x50, 0x0, 1, 1, 0x0, 8, 24, .rw, 0x0, false⟩
def SYS_DORMANT_CFG.EN_PROOF : Fld := ⟨0x50, 0x0, 1, 1, 0x0, 5, 1, .rw, 0x1, false⟩
def SYS_DORMANT_CFG.EN_PCIE : Fld := ⟨0x50, 0x0, 1, 1, 0x0, 4, 1, .rw, 0x1, false⟩
def SYS_DORMANT_CFG.EN_SV : Fld := ⟨0x50, 0x0, 1, 1, 0x0, 3, 1, .rw, 0x1, false⟩
def SYS_DORMANT_CFG.EN_LINK : Fld := ⟨0x50, 0x0, 1, 1, 0x0, 2, 1, .rw, 0x1, false⟩
def SYS_DORMANT_CFG.EN_TIMER : Fld := ⟨0x50, 0x0, 1, 1, 0x0, 1, 1, .rw, 0x0, false⟩
def SYS_DORMANT_CFG.EN_DAMP : Fld := ⟨0x50, 0x0, 1, 1, 0x0, 0, 1, .rw, 0x1, false⟩
def SYS_DORMANT_CFG.reg : Reg := ⟨"SYS_DORMANT_CFG", 0x50, 0x0, 1, 1, 0x0,
  [SYS_DORMANT_CFG.TIMER, SYS_DORMANT_CFG.EN_PROOF, SYS_DORMANT_CFG.EN_PCIE, SYS_DORMANT_CFG.EN_SV, SYS_DORMANT_CFG.EN_LINK, SYS_DORMANT_CFG.EN_TIMER, SYS_DORMANT_CFG.EN_DAMP]⟩

/- `SYS_ACC_ERR0` (R444). -/
def SYS_ACC_ERR0.VALID : Fld := ⟨0x60, 0x0, 1, 1, 0x0, 31, 1, .w1c, 0x0, false⟩
def SYS_ACC_ERR0.REQ : Fld := ⟨0x60, 0x0, 1, 1, 0x0, 28, 3, .ro, 0x0, false⟩
def SYS_ACC_ERR0.TYPE : Fld := ⟨0x60, 0x0, 1, 1, 0x0, 24, 4, .ro, 0x0, false⟩
def SYS_ACC_ERR0.WRITE : Fld := ⟨0x60, 0x0, 1, 1, 0x0, 23, 1, .ro, 0x0, false⟩
def SYS_ACC_ERR0.RING : Fld := ⟨0x60, 0x0, 1, 1, 0x0, 16, 7, .ro, 0x0, false⟩
def SYS_ACC_ERR0.COUNT : Fld := ⟨0x60, 0x0, 1, 1, 0x0, 0, 16, .rc, 0x0, false⟩
def SYS_ACC_ERR0.reg : Reg := ⟨"SYS_ACC_ERR0", 0x60, 0x0, 1, 1, 0x0,
  [SYS_ACC_ERR0.VALID, SYS_ACC_ERR0.REQ, SYS_ACC_ERR0.TYPE, SYS_ACC_ERR0.WRITE, SYS_ACC_ERR0.RING, SYS_ACC_ERR0.COUNT]⟩

/- `SYS_ACC_ERR1` (R444). -/
def SYS_ACC_ERR1.ADDR : Fld := ⟨0x64, 0x0, 1, 1, 0x0, 0, 32, .ro, 0x0, false⟩
def SYS_ACC_ERR1.reg : Reg := ⟨"SYS_ACC_ERR1", 0x64, 0x0, 1, 1, 0x0,
  [SYS_ACC_ERR1.ADDR]⟩

/- `SYS_RESET_REQ` (R444). -/
def SYS_RESET_REQ.KEY : Fld := ⟨0x68, 0x0, 1, 1, 0x0, 16, 16, .wo, 0x0, false⟩
def SYS_RESET_REQ.GO : Fld := ⟨0x68, 0x0, 1, 1, 0x0, 0, 1, .wo, 0x0, false⟩
def SYS_RESET_REQ.reg : Reg := ⟨"SYS_RESET_REQ", 0x68, 0x0, 1, 1, 0x0,
  [SYS_RESET_REQ.KEY, SYS_RESET_REQ.GO]⟩

/- `SYS_IRQ_PEND` (R444). -/
def SYS_IRQ_PEND.VEC : Fld := ⟨0x70, 0x0, 1, 1, 0x0, 0, 32, .w1c, 0x0, false⟩
def SYS_IRQ_PEND.reg : Reg := ⟨"SYS_IRQ_PEND", 0x70, 0x0, 1, 1, 0x0,
  [SYS_IRQ_PEND.VEC]⟩

/- `SYS_IRQ_MASK` (R444). -/
def SYS_IRQ_MASK.VEC : Fld := ⟨0x74, 0x0, 1, 1, 0x0, 0, 32, .rw, 0xFFFFFFFF, false⟩
def SYS_IRQ_MASK.reg : Reg := ⟨"SYS_IRQ_MASK", 0x74, 0x0, 1, 1, 0x0,
  [SYS_IRQ_MASK.VEC]⟩

/- `SYS_HOST_CFG` (R444). -/
def SYS_HOST_CFG.LINK_UP : Fld := ⟨0x78, 0x0, 1, 1, 0x0, 31, 1, .ro, 0x0, false⟩
def SYS_HOST_CFG.SPEED : Fld := ⟨0x78, 0x0, 1, 1, 0x0, 29, 2, .ro, 0x0, false⟩
def SYS_HOST_CFG.WIDTH : Fld := ⟨0x78, 0x0, 1, 1, 0x0, 27, 2, .ro, 0x0, false⟩
def SYS_HOST_CFG.L1 : Fld := ⟨0x78, 0x0, 1, 1, 0x0, 26, 1, .ro, 0x0, false⟩
def SYS_HOST_CFG.DOM : Fld := ⟨0x78, 0x0, 1, 1, 0x0, 0, 4, .rw, 0xF, false⟩
def SYS_HOST_CFG.reg : Reg := ⟨"SYS_HOST_CFG", 0x78, 0x0, 1, 1, 0x0,
  [SYS_HOST_CFG.LINK_UP, SYS_HOST_CFG.SPEED, SYS_HOST_CFG.WIDTH, SYS_HOST_CFG.L1, SYS_HOST_CFG.DOM]⟩

/- `SYS_CMD_DOORBELL` (R444). -/
def SYS_CMD_DOORBELL.GO : Fld := ⟨0x80, 0x0, 1, 1, 0x0, 0, 1, .wo, 0x0, false⟩
def SYS_CMD_DOORBELL.reg : Reg := ⟨"SYS_CMD_DOORBELL", 0x80, 0x0, 1, 1, 0x0,
  [SYS_CMD_DOORBELL.GO]⟩

/- `SYS_CMD_STAT_PE` (R444). -/
def SYS_CMD_STAT_PE.GEN : Fld := ⟨0x84, 0x0, 1, 1, 0x0, 16, 16, .ro, 0x0, false⟩
def SYS_CMD_STAT_PE.VALID : Fld := ⟨0x84, 0x0, 1, 1, 0x0, 15, 1, .ro, 0x0, false⟩
def SYS_CMD_STAT_PE.PENDING : Fld := ⟨0x84, 0x0, 1, 1, 0x0, 14, 1, .ro, 0x0, false⟩
def SYS_CMD_STAT_PE.N_BUSY : Fld := ⟨0x84, 0x0, 1, 1, 0x0, 0, 8, .rc, 0x0, false⟩
def SYS_CMD_STAT_PE.reg : Reg := ⟨"SYS_CMD_STAT_PE", 0x84, 0x0, 1, 1, 0x0,
  [SYS_CMD_STAT_PE.GEN, SYS_CMD_STAT_PE.VALID, SYS_CMD_STAT_PE.PENDING, SYS_CMD_STAT_PE.N_BUSY]⟩

/- `SYS_CMD_STAT_SV` (R444). -/
def SYS_CMD_STAT_SV.GEN : Fld := ⟨0x88, 0x0, 1, 1, 0x0, 16, 16, .ro, 0x0, false⟩
def SYS_CMD_STAT_SV.VALID : Fld := ⟨0x88, 0x0, 1, 1, 0x0, 15, 1, .ro, 0x0, false⟩
def SYS_CMD_STAT_SV.PENDING : Fld := ⟨0x88, 0x0, 1, 1, 0x0, 14, 1, .ro, 0x0, false⟩
def SYS_CMD_STAT_SV.N_BUSY : Fld := ⟨0x88, 0x0, 1, 1, 0x0, 0, 8, .rc, 0x0, false⟩
def SYS_CMD_STAT_SV.reg : Reg := ⟨"SYS_CMD_STAT_SV", 0x88, 0x0, 1, 1, 0x0,
  [SYS_CMD_STAT_SV.GEN, SYS_CMD_STAT_SV.VALID, SYS_CMD_STAT_SV.PENDING, SYS_CMD_STAT_SV.N_BUSY]⟩

/-- Every register of this file. -/
def regsSys : List Reg :=
  [SYS_ID.reg, SYS_MODE.reg, SYS_MODE_CTRL.reg, SYS_MODE_STATUS.reg, SYS_MODE_TAG.reg, SYS_BOOT.reg, SYS_CAUSE_HOLD0.reg, SYS_CAUSE_LAST0.reg, SYS_CAUSE_HOLD1.reg, SYS_CAUSE_HOLD2.reg, SYS_CAUSE_HOLD3.reg, SYS_CAUSE_LAST1.reg, SYS_CAUSE_LAST2.reg, SYS_CAUSE_LAST3.reg, SYS_CAUSE_SET.reg, SYS_PROOF.reg, SYS_PROOF_TIMER.reg, SYS_DORMANT_CFG.reg, SYS_ACC_ERR0.reg, SYS_ACC_ERR1.reg] ++
  [SYS_RESET_REQ.reg, SYS_IRQ_PEND.reg, SYS_IRQ_MASK.reg, SYS_HOST_CFG.reg, SYS_CMD_DOORBELL.reg, SYS_CMD_STAT_PE.reg, SYS_CMD_STAT_SV.reg]

end Sys2Proof.Machine
end

