-- ==== Sys2Proof/Machine/Regs.lean ====
section
/-!
DEFINITION. The register map of the device: every register of every block (R13).
-/
namespace Sys2Proof.Machine

/-- Every register a requester can address. -/
def allRegs : List Reg :=
  regsSys ++ regsFab ++ regsHfe ++ regsCnt ++ regsLks ++ regsSop ++ regsNbl ++ regsChk ++ regsGfe ++ regsPwm ++ regsMtr ++ regsClk ++ regsEth ++ regsDma ++ regsSnp

end Sys2Proof.Machine
end

