-- ==== Sys2Proof/Machine/State.lean ====
section
/-!
DEFINITION. The state of the device as plain data, its faults and refusals, and the state after reset.

Every register field is a cell of `State.regs`, keyed by address and lowest bit; a cell not listed reads as the field's
reset value (R9 to R12). What the manual gives the machine beyond its registers stands in records.
-/
namespace Sys2Proof.Machine

/-- The modes of R42 and R43; `resetSeq` is the code 0b000, no mode yet. -/
inductive Mode where
  | resetSeq | dormant | proof | hold | commission | service | recovery | reserved
  deriving DecidableEq, Repr, Inhabited

/-- The code of R43. -/
def Mode.code : Mode → Nat
  | .resetSeq => 0 | .dormant => 1 | .proof => 2 | .hold => 3
  | .commission => 4 | .service => 5 | .recovery => 6 | .reserved => 7

/-- The mode with a given code. -/
def Mode.ofCode : Nat → Mode
  | 0 => .resetSeq | 1 => .dormant | 2 => .proof | 3 => .hold
  | 4 => .commission | 5 => .service | 6 => .recovery | _ => .reserved

/-- A cause of R75 with the block window and the index that its record holds. -/
structure Cause where
  code : Nat
  block : Nat
  index : Nat
  deriving DecidableEq, Repr, Inhabited

/-- A Hold cause that has been detected and has not yet changed the mode; `fresh` while the cycle boundary that detected it
lasts. -/
structure RaisedCause where
  cause : Cause
  fresh : Bool
  deriving DecidableEq, Repr, Inhabited

/-- How far the reset sequence of R49 has come. -/
inductive ResetPhase where
  | held      -- reset asserted: `PWR_OK` or `RST_N`
  | waiting   -- released; the 25 MHz oscillator is not qualified yet
  | done      -- Proof has been entered
  deriving DecidableEq, Repr, Inhabited

/-- The application cores' column of R42: in reset until item 12 releases them, running, or clock-stopped with their state
kept. -/
inductive AppCores where
  | inReset | running | stopped
  deriving DecidableEq, Repr, Inhabited

/-- The levels of the pins that a command changes: `crust` reads 1 for a closed switch (R85). -/
structure Pins where
  crust : Nat
  deriving DecidableEq, Repr, Inhabited

/-- A mode request that waits for the boundary that evaluates it (R45), with the command channel that asked, if one did. -/
structure ModeReq where
  target : Nat
  tag : Nat
  channel : Option Nat
  deriving DecidableEq, Repr, Inhabited

/-- The mode controller (R44 to R47, R61, R63). `autoSince` is the cycle since which a periodic Proof waits; `boundary` is true while one cycle boundary's clock period lasts, and
`lastCode` is the code recorded last in it (R75); `recoveryNeed` is how many boundaries make three whole cycles of Recovery;
`holdCause` says that a Hold cause has arisen in Hold since the last boundary (R46, R201). -/
structure ModeCtl where
  request : Option ModeReq
  deferredHold : Option ModeReq
  raised : List RaisedCause
  recoveryCycles : Nat
  recoveryNeed : Nat
  tRecPassed : Bool
  toRecovery : Bool
  autoSince : Option Nat
  wakeProof : Bool
  waking : Bool
  boundary : Bool
  lastCode : Option Nat
  holdCause : Bool
  deriving DecidableEq, Repr, Inhabited

/-- The Proof sequencer (R52 to R56): the items that have ended (bit i-1), the failures found, where it came from, and
whether it has ended and waits for the boundary that changes the mode; whether item 7 has not passed since the last cold
reset (R397); and for item 8 the tick it began at, and the ticks at which the A systems and then the B systems are connected
again (R104). -/
structure ProofRun where
  ended : Nat
  failures : List Cause
  fromMode : Mode
  finished : Bool
  dramCold : Bool
  refStart : Nat
  refA : Nat
  refB : Nat
  deriving DecidableEq, Repr, Inhabited

/-- How the sections begin at the first cycle of Recovery (R57, R58): after a reset; after a Proof from Hold or Commission;
or from the Firefly retention store, by the way the engine stopped. -/
inductive SaveKind where
  | none | restart | proof | dormant | gating | rejoin
  deriving DecidableEq, Repr, Inhabited

/-- A saved section: state, count and tallies (R58). -/
structure SavedSection where
  state : Nat
  count : Nat
  tallyIn : Nat
  tallyOut : Nat
  deriving DecidableEq, Repr, Inhabited

/-- The Firefly retention store and its crossing records: R58's flag per system, and R140's times per system. -/
structure Retention where
  kind : SaveKind
  sections : List (Nat × SavedSection)
  points : List (Nat × Nat × Nat)
  crossed : List Nat
  deriving DecidableEq, Repr, Inhabited

/-- A fabric slice beyond its register (R91, R93): its program store, its local memory from address 0 on, its 56-bit accumulator,
and the CRC-32C of program and constants recorded at load. -/
structure Slice where
  program : List Nat
  memory : List Nat
  acc : Nat
  crc : Nat
  deriving DecidableEq, Repr, Inhabited

/-- A flash operation that runs, the sectors of each slot written since its header sector was erased, and the cycle in which the
last operation completed; whether a slot check has bank A for its scans (else it waits for it); and whether a warm reset was one of
what asked for the abort, which no completion wins against (R87 to R89). -/
structure FlashOp where
  running : Bool
  op : Nat
  src : Nat
  dst : Nat
  len : Nat
  abortAsked : Bool
  abortCycle : Nat
  touched : List (Nat × Nat)
  doneCycle : Option Nat
  scanning : Bool
  abortLate : Bool
  deriving DecidableEq, Repr, Inhabited

/-- The clocks of R357 to R366 beyond their registers: for how many ticks MDLL-A has been gated, the mode in which that began,
whether it is, and whether CLK_A_LOSS has been raised for it; whether the RC oscillator has stopped, the 32.768 kHz crystal
runs, and waits for a cycle boundary to be taken again; whether a strobe is carried out, its tag, its tick, and whether MDLL-B relocks
for it; the fractional accumulator of the ticks stepped from RC, in 1/25 of an RC period (R359); the last RC period as measured
against the reference, the time since the last RC edge, and the part of the time base below a nanosecond, in femtoseconds (R366);
the shift register of the synthesizer's dither (R368); the tick at which MDLL-B was gated last; whether the crystal has failed since
it was taken (R358); whether the time base runs on through the reset that is asserted (R373). -/
structure Clocks where
  gateATicks : Nat
  gateAMode : Mode
  gatedA : Bool
  lossRaised : Bool
  rcStopped : Bool
  fxRuns : Bool
  fxReturn : Bool
  strobe : Bool
  strobeTag : Nat
  strobeTick : Nat
  relock : Bool
  rcAcc : Nat
  rcPeriod : Nat
  rcLag : Nat
  subNs : Nat
  tsLfsr : Nat
  gateBTick : Nat
  fxFailed : Bool
  timeRuns : Bool
  deriving DecidableEq, Repr, Inhabited

/-- What a scan is for (R258, R269): a requester's own; the known answer, a boot image, a slot's header, part `p` of a slot, the
Scarab image at a rejoin. -/
inductive ScanKind where
  | plain | kat | boot | header | part (p : Nat) | image
  deriving DecidableEq, Repr, Inhabited

/-- A range still to be scanned for the same requester. -/
structure ScanRange where
  kind : ScanKind
  addr : Nat
  len : Nat
  deriving DecidableEq, Repr, Inhabited

/-- A scan of the check unit (R261 to R268): bank S is 0, bank A is 1. `live` is how many bytes it has entered after its last
complete beat; its running value is `CHK_x_RUN`. `queue` is what its requester has still to scan. -/
structure Scan where
  running : Bool
  suspended : Bool
  kind : ScanKind
  addr : Nat
  len : Nat
  tag : Nat
  live : Nat
  wasSuspended : Bool
  resultRead : Bool
  queue : List ScanRange
  deriving DecidableEq, Repr, Inhabited

/-- One command channel (R430 to R436): 0 is PCIe, 1 the service port. `request` is the copied request while one is
pending, `taken` says that its executor has it, `response` the readable half of the buffer; what the Weevil run and the
image check of a REJOIN are to find; the place of the post in the order of posting, and its tick. -/
structure Channel where
  request : Option (List Nat)
  taken : Bool
  weevilFail : Option (Nat × Nat)
  image : ImageCheck
  posted : Nat
  postedTick : Nat
  response : List Nat
  deriving DecidableEq, Repr, Inhabited

/-- A write that the PCIe endpoint holds in Dormant (R436): of a register, with the bytes it writes; of the mailbox; or of a request
with its doorbell. -/
inductive HeldWrite where
  | reg (addr size value : Nat)
  | mailbox (offset : Nat) (bytes : List Nat)
  | post (bytes : List Nat)
  deriving DecidableEq, Repr, Inhabited

/-- A BAR2 access that waits (R426): the tick of its arrival, its device ranges, the bytes that it writes, and what it meets in the
memory. -/
structure BarWait where
  tick : Nat
  parts : List (Nat × Nat)
  write : Option (List Nat)
  found : MemFound
  deriving DecidableEq, Repr, Inhabited

/-- The host ports beyond their registers: LAST_ERR of the service port (R429), the writes held in Dormant, oldest first,
how many have been discarded (R436), and the accesses that wait for the DRAM, oldest first. -/
structure HostPort where
  svErr : Bool
  held : List HeldWrite
  lost : Nat
  waits : List BarWait
  deriving DecidableEq, Repr, Inhabited

/-- The PCIe endpoint beyond its registers (R423, R424, R427): the bytes of its MSI-X table in BAR4, and which errors its Advanced Error
Reporting has noted (bit 15 Completer Abort, bit 20 Unsupported Request). -/
structure Endpoint where
  msixTable : List Nat
  errors : Nat
  deriving DecidableEq, Repr, Inhabited

/-- The snapshot memory as bytes (empty: all zero), the armed time, the source of the latch of the cycle boundary under way
(R439 to R443), and whether a readout has begun that has not reached the last word (R70). -/
structure Snapshot where
  image : List Nat
  armedAt : Option Nat
  latchedNow : Option Nat
  reading : Bool
  deriving DecidableEq, Repr, Inhabited

/-- What a channel's test path is doing (R224 to R231). -/
inductive OutTestKind where
  | none
  | pulseH      -- OFF pulse on `SOH`
  | pulseL      -- OFF pulse on `SOL`
  | stepH       -- split-switch test: `SOH` on through the test path
  | gap         -- split-switch test: both gates off between the steps
  | stepL       -- split-switch test: `SOL` on through the test path
  | abandon     -- the 48 µs after an abandoned split-switch test
  | check       -- Proof item 10: a row-1 check with both gates off
  | itemH       -- Proof item 10: step H, `SOH` on through the test path
  | itemL       -- Proof item 10: step L, `SOL` on through the test path
  deriving DecidableEq, Repr, Inhabited

/-- The test logic of one safety output channel: the running test; the faults found under R219 (bit code-1); whether a
split-switch test has passed since the fault (R230); the cycle of the last completed test, and since when it is judged
(R225); the gate levels as they were last and the tick of their last change (R219); the tick at which the running part of a test
began; whether a term of R23 went false in a running pulse (R229); the ticks an abandon sequence still lasts; whether the
conditions of R26 held in the previous cycle, and whether a mapped head crossed in this one; whether a loaf loaded since the last
reset declared the channel unused (R217). -/
structure OutChannel where
  test : OutTestKind
  faults : Nat
  splitPassed : Bool
  lastTest : Nat
  lastH : Bool
  lastL : Bool
  gateTick : Nat
  testTick : Nat
  broken : Bool
  abandonTicks : Nat
  prevMet : Bool
  crossed : Bool
  barred : Bool
  deriving DecidableEq, Repr, Inhabited

/-- Where Proof item 10 stands: the channel under test, whether this is its repeat, the part that runs (the checks are 0, 2 and 4, step
H is 1 and step L is 3), and the lowest fault that the run has found, 0 without one (R231). -/
structure ItemTen where
  channel : Nat
  again : Bool
  part : Nat
  fault : Nat
  deriving DecidableEq, Repr, Inhabited

/-- The safety outputs as a whole: the commands of the last accepted commit (bit o), the deferred split-switch tests
(R225), the cycle after the one of the last test action, and where item 10 stands. -/
structure Outputs where
  item : Option ItemTen
  commands : Nat
  deferred : List Nat
  actionCycle : Nat
  commitDue : Bool
  deriving DecidableEq, Repr, Inhabited

/-- A split or rejoin request that waits for its boundary (R199, R202); for a rejoin, what its Weevil run and its image
check are to find. -/
structure PairReq where
  rejoin : Bool
  target : Nat
  tag : Nat
  channel : Option Nat
  weevilFail : Option (Nat × Nat)
  image : ImageCheck
  deriving DecidableEq, Repr, Inhabited

/-- How far an accepted rejoin has come (R203). -/
inductive RejoinStep where
  | idle | weevil | image | joined
  deriving DecidableEq, Repr, Inhabited

/-- The lockstep controller beyond its registers: the pending request, the rejoin under way, the mode at the split, and
whether since the split a LOAF_SELECT, a flash operation or a Crust change has barred a rejoin into Service (R202); the split whose
hand-over is under way (R200); and which cores are out of reset. -/
structure Pair where
  request : Option PairReq
  step : RejoinStep
  running : Option PairReq
  splitMode : Mode
  barred : Bool
  splitting : Option PairReq
  out0 : Bool
  out1 : Bool
  deriving DecidableEq, Repr, Inhabited

/-- A posted descriptor that has not completed (R408 to R418): its count and fields, why it was refused at posting (a reason
of R410) or with what reason it is to be aborted, whether its first beat has been served, the bytes moved, the outcome judged at
the first beat (delay, LATE reason), what its completion will report, and the outcome and reason with which its last beat has
ended it while the completion is still to be written (R418). -/
structure Desc where
  seq : Nat
  src : Nat
  dst : Nat
  len : Nat
  tag : Nat
  deadline : Nat
  ctrl : Nat
  refuse : Option Nat
  abort : Option Nat
  started : Bool
  done : Nat
  delay : Nat
  late : Option Nat
  resumed : Bool
  preempted : Bool
  corrected : Bool
  pauseTicks : Nat
  postedTick : Nat
  waited : Bool
  finished : Option (Nat × Nat)
  already : Bool
  deriving DecidableEq, Repr, Inhabited

/-- A DMA ring beyond its registers: the posted descriptors, oldest first; the ticks at which those were posted that could not be
fetched yet, and which of them are to be aborted; a STOP that waits for the descriptor in service, a FLUSH that waits for its completions to be written; the tick at
which the ring paused; how many descriptors have completed since START, and the tick of the last completion; the budget window in
which it moved bytes last, and how many (R414); and of a frame that paused on its way to an Ethernet port, the bytes read. -/
structure Ring where
  queue : List Desc
  unfetched : List (Nat × Bool)
  stopping : Bool
  flushing : Bool
  pausedTick : Nat
  doneCount : Nat
  doneTick : Nat
  window : Nat
  bytes : Nat
  held : List Nat
  deriving DecidableEq, Repr, Inhabited

/-- A TLB entry (R404): domain, first IOVA, page size 2 MiB or 4 KiB, first device address, permissions. -/
structure TlbEntry where
  dom : Nat
  iova : Nat
  big : Bool
  pa : Nat
  r : Bool
  w : Bool
  deriving DecidableEq, Repr, Inhabited

/-- An entry of the memory-error log (R401). -/
structure ErrEntry where
  mem : Nat
  kind : Nat
  req : Nat
  syms : Nat
  addr : Nat
  timeNs : Nat
  deriving DecidableEq, Repr, Inhabited

/-- A fault that a system carries (R115): its code, the set that its confirmed candidate marked, and the tests that the system has
passed in a row since. -/
structure FaultMark where
  code : Nat
  set : List Nat
  passes : Nat
  deriving DecidableEq, Repr, Inhabited

/-- A test result the front end has reached for a system: a candidate code of R111 (0 for a pass) with the marked set. -/
structure Candidate where
  code : Nat
  marked : List Nat
  deriving DecidableEq, Repr, Inhabited

/-- A correction that the canceller port has taken (R117): the raw sample's tick, whether it was clipped, and the cancelled
sample. -/
structure Cancelled where
  tick : Nat
  clipped : Bool
  size : Nat
  sample : Int
  deriving DecidableEq, Repr, Inhabited

/-- One of the 192 sensor systems beyond its registers (R105 to R118): runs of the comparator and of the open and
over-range watch; missed periods; the faults it carries (bit code), each with its set and the tests passed since, and the faults
raised since Proof item 8 began; the last four codes, and whether each was excluded from the change
test; the reference of a slot; the candidate under repeat; when the last test completed; the ticks after which and up to
which BLANK applies; the last raw full-rate samples and the corrections the port has taken; the runs of the canceller
check; the first low-rate crossing since Chafer stopped (R140); the recorder's running sum and the frames of its block. -/
structure SysRec where
  aboveRun : Nat
  openRun : Nat
  overRun : Nat
  missed : Nat
  faults : Nat
  marks : List FaultMark
  proofFaults : Nat
  recent : List Int
  recentExcl : List Bool
  ref : Option Int
  excl : Bool
  candidate : Option Candidate
  candidateRun : Nat
  lastTest : Nat
  blankFrom : Nat
  blankUntil : Nat
  raws : List (Nat × Int)
  corrections : List Cancelled
  clipRun : Nat
  absences : Nat
  goodRun : Nat
  qualified : Bool
  lowCross : Option Nat
  recSum : Int
  recN : Nat
  recCodes : List Int
  recBlank : Bool
  deriving DecidableEq, Repr, Inhabited

/-- The part of a test slot that runs (R108, R113). -/
inductive SlotPhase where
  | pulse     -- `HSUP` low
  | cut       -- a crossing on the other system ends the pulse at the next tick boundary
  | restart   -- pulse over, BLANK, the restart criterion not judged
  | guard     -- result decided; the 50-tick guard
  | blanked   -- abandoned; blanking still runs
  deriving DecidableEq, Repr, Inhabited

/-- A test slot: its system, the tick it began, its part, and the code and partner it will report. -/
structure Slot where
  q : Nat
  start : Nat
  phase : SlotPhase
  result : Nat
  partner : Nat
  deriving DecidableEq, Repr, Inhabited

/-- The supply-test scheduler (R110 to R113, R467): the running slot, the next position, the deferred systems and the
repeats owed, oldest first; the systems that have completed a slot since the last Proof began, and those whose turn in the order the
item 11 that runs has reached (bit q); the tick at which that item began; the tick of the last slot time. -/
structure TestSched where
  slot : Option Slot
  position : Nat
  deferred : List Nat
  owed : List Nat
  completed : Nat
  ordered : Nat
  itemTick : Nat
  slotTick : Option Nat
  deriving DecidableEq, Repr, Inhabited

/-- The waveform recorder beyond its registers (R120 to R124): the next SEQ; whether a block is under way, and its first
tick and time; the trigger's frame; the blocks still to be written before the freeze; the frames not recorded since the
last written block, and whether their number is unknown. -/
structure Recorder where
  seq : Nat
  started : Bool
  startNs : Nat
  startTick : Nat
  trigger : Option Nat
  postLeft : Nat
  gapFrames : Nat
  gapUnknown : Bool
  gap : Bool
  lostFrom : Option Nat
  deriving DecidableEq, Repr, Inhabited

/-- A phase of a passage (R131, R133): its pattern (bit 0 A, bit 1 B); its edges in sixteenths of a tick and in time;
its first tick; whether an edge borders an unsighted tick; whether any of its ticks was unsighted; whether it was
measured at the low rate. -/
structure Phase where
  pat : Nat
  startE : Nat
  startNs : Nat
  startTick : Nat
  startGap : Bool
  blank : Bool
  endE : Nat
  endNs : Nat
  endTick : Nat
  endGap : Bool
  lowRate : Bool
  deriving DecidableEq, Repr, Inhabited

/-- A passage that is open (R131): its phases, newest first, and what its record will say. -/
structure Passage where
  phases : List Phase
  openE : Nat
  openGap : Bool
  reversals : Nat
  lastZone : Nat
  standing : Bool
  excused : Bool
  nearMiss : Bool
  wake : Bool
  sinceChange : Nat
  deriving DecidableEq, Repr, Inhabited

/-- The quiescent estimate of a system (R143): the accumulator in 2^-24 code, the samples of its first mean, and whether
the drift stood beyond DRIFT_LIM. -/
structure Drift where
  acc : Int
  n : Nat
  sum : Int
  ready : Bool
  beyond : Bool
  deriving DecidableEq, Repr, Inhabited

/-- A Chafer record (R154). -/
structure ChRec where
  timeNs : Nat
  head : Nat
  kind : Nat
  speed : Nat
  dir : Nat
  conf : Nat
  flags : Nat
  seq : Nat
  hstate : Nat
  cause : Nat
  reversals : Nat
  dtOn : Nat
  dtOff : Nat
  dwell : Nat
  deriving DecidableEq, Repr, Inhabited

/-- One counting head in Chafer (R126 to R150): raw samples of A and B, newest first, with their BLANK flags, and whether
both are new; cancelled samples with their clip flags; the last filtered codes (scaled by 2^17); the raw and the cancelled
decisions; the procedure's pattern and flags; the open passage and whether it stands; the running discrepancy and whether
it was declared; the quiet ticks; the last tick with an open passage or a BLANK sample; the drift; the next record number; whether
cause 0x11 or 0x12 was decided since the head became FAILED; a restart under R140 that waits for its first decided tick,
with the ticks of the crossings it read; the record number that follows the HEAD_STATE record of the last RESTART (R159); the tick and time of the
latest raw samples; the ticks and times whose samples are there and which wait for their corrections, oldest first (R117); the
pattern of the tick before, 0 where it was unsighted; whether each system was FAULT at it; and what the tick under way has decided:
causes, records, near-misses, excused ticks, and the ended discrepancy. -/
structure Head where
  rawA : List (Int × Bool)
  rawB : List (Int × Bool)
  freshA : Bool
  freshB : Bool
  cancA : List (Option (Int × Bool))
  cancB : List (Option (Int × Bool))
  prevA : Option Int
  prevB : Option Int
  dampA : Bool
  dampB : Bool
  cdampA : Bool
  cdampB : Bool
  lastPat : Nat
  gap : Bool
  waiting : Bool
  passage : Option Passage
  standing : Bool
  disc : Option Nat
  declared : Bool
  quiet : Nat
  busyTick : Option Nat
  driftA : Drift
  driftB : Drift
  seq : Nat
  sticky : Bool
  restart : Option (Option Nat × Option Nat)
  restartSeq : Option Nat
  rawTick : Nat
  rawNs : Nat
  waits : List (Nat × Nat)
  discPat : Nat
  faultedA : Bool
  faultedB : Bool
  decided : List Nat
  recs : List ChRec
  nearMisses : Nat
  excusedTicks : Nat
  ended : Option Nat
  deriving DecidableEq, Repr, Inhabited

/-- Chafer as a whole: whether it runs; the last event time it issued (R134); the records held pending (R153); the records
posted since the last cycle boundary, oldest first. -/
structure Chafer where
  running : Bool
  lastEvent : Nat
  held : List ChRec
  posted : List ChRec
  rrcQuiet : List (Nat × Nat)
  deriving DecidableEq, Repr, Inhabited

/-- A section beyond its registers (R168 to R182): the run of boundaries with a count below 0; the exact sum of the changes
of this boundary; the time of the last accepted report before the loss that set LINK_HOLD, and the boundaries in Hold since, for
which the timer stood; the cycle of the reset's acceptance, later by each boundary in Hold, its kind (1 sweep, 2 confirmed, 0 once
it has ended), whether it is spoilt, and whether its CONFIRM was accepted; the conditions that held at the last boundary, each
with its point (128 for none), and the causes that wait for the next one; the boundary at which its reset completed. -/
structure Section where
  negRun : Nat
  delta : Int
  holdNs : Nat
  holdStood : Nat
  prepCycle : Nat
  prepKind : Nat
  spoilt : Bool
  confd : Bool
  held : List (Nat × Nat)
  causes : List Nat
  doneCycle : Option Nat
  deriving DecidableEq, Repr, Inhabited

/-- A remote counting point beyond its registers (R167, R181): whether a report has been taken; the entry into UP (or none,
after a gating) of which one was taken last; after a gating, the time before which no accepted report is compared. -/
structure Point where
  seen : Bool
  epoch : Option Nat
  afterNs : Option Nat
  deriving DecidableEq, Repr, Inhabited

/-- A reset request that waits for its boundary (R468), with the command channel and tag that asked. -/
structure ResetReq where
  op : Nat
  section_ : Nat
  token : Nat
  channel : Option Nat
  deriving DecidableEq, Repr, Inhabited

/-- The counting engine: the pending reset request, the token issued last (R172), and for each link the entry into UP that
the last boundary saw, if the link was UP then (R181); and how many wheel-event copies were dropped (R28). -/
structure Counting where
  request : Option ResetReq
  lastToken : Nat
  wasUp : Tab (Option Nat)
  dropped : Nat
  deriving DecidableEq, Repr, Inhabited

/-- A Taelaul link beyond its registers (R245 to R251): CNT and FOLD of the last accepted frame, none after DOWN; when the
last frame ended; whether ESTABLISHING still waits for its first accepted frame; frames failing with BAD_CHECK in a row;
when the last accepted frame ended, and when the one before the last exit from UP did; how often the link has entered UP; the reports and handshakes of the last accepted
frame; what the last read of `NBL_ERR0` returned (R437); and whether it has passed item 9 of the last Proof (R250). -/
structure Link where
  prev : Option (Nat × Bool)
  lastEnd : Option Nat
  first : Bool
  badRun : Nat
  lastAccept : Nat
  lossNs : Nat
  upCount : Nat
  reports : List Nat
  handshakes : List Nat
  err0 : Nat
  loopOk : Bool
  deriving DecidableEq, Repr, Inhabited


/-- A carrier generator beyond its registers (R308, R314): the shift register of its dither; how far its period has come, in
units of 78.125 ps; and how many periods have begun since its last hop. -/
structure Gen where
  lfsr : Nat
  pos : Nat
  periods : Nat
  deriving DecidableEq, Repr, Inhabited

/-- A bridge of the PWM unit beyond its registers (R308, R312): at which update points a LOAD takes effect, bit 0 the next one, bit 1
the one after it; whether the update point at which its carrier stands has been taken. -/
structure BridgePwm where
  load : Nat
  taken : Bool
  deriving DecidableEq, Repr, Inhabited

/-- The comparator thresholds of a power-measurement channel, in codes before correction (R317, R324): above `hi` and below `lo` is a
crossing, and the input is back inside between `loBack` and `hiBack`, which HYS sets. None are held before item 8 has ended. -/
structure Thresholds where
  held : Bool
  hi : Int
  lo : Int
  hiBack : Int
  loBack : Int
  deriving DecidableEq, Repr, Inhabited

/-- A word on an input stream of a slice: the code, and the time of its sampling (R325). -/
structure StreamWord where
  code : Int
  ns : Nat
  deriving DecidableEq, Repr, Inhabited

/-- A leg beyond its registers (R304, R309, R310, R317, R318): the duty in force; the state S; in units of 78.125 ps, for how long
S has stood, and how long ago the low side last went off; whether the gate of the state that stands has come on, and whether its
interval is not issued, for it would be shorter than PULSE_MIN; the state a
force gives it; whether it was forced in the carrier period under way; whether it has been unused since the last reset. -/
structure Leg where
  duty : Nat
  s : Bool
  age : Nat
  lowOff : Nat
  on : Bool
  dropped : Bool
  barred : Bool
  forceS : Bool
  forcedPeriod : Bool
  deriving DecidableEq, Repr, Inhabited

/-- What a control step has of one bridge (R275): the DC link in volts, the current, and the current reference its voltage
loop asks for before the limit of R288; currents in 2^-24 of the bridge's rating, in the stationary frame. -/
structure BridgeSample where
  dc : Nat
  iRe : Int
  iIm : Int
  refRe : Int
  refIm : Int
  deriving DecidableEq, Repr, Inhabited

/-- What a control step makes of its measurements (R275, R277): v_b and v_g, the largest phase and phase-to-phase voltage of the bus, all in
2^-24 pu; bus and grid frequency in 2^-24 of f_base; bus and grid phase in 2^-32 turn; p and q in watts and vars; and the
bridges, from bridge 0 on. -/
structure BusSample where
  vb : Nat
  vg : Nat
  vPhase : Nat
  vLine : Nat
  fBus : Int
  fGrid : Int
  phiBus : Nat
  phiGrid : Nat
  p : Int
  q : Int
  bridges : List BridgeSample
  deriving DecidableEq, Repr, Inhabited

/-- What Leaven does in BLACKSTART (R287, R289), and in no other state. -/
inductive BsPhase where
  | none | backoff | recheck | ramp | settle | join | joined
  deriving DecidableEq, Repr, Inhabited

/-- Leaven (R271 to R301). θ in 2^-32 turn; ω, ω_lp, P_e, Q_e, ξ and E in 2^-24 pu (R276); ω_sync in 2·10^-7 Hz, and the
set-points as ramped, the voltage shift and R_ff in 2·10^-7 pu: the steps that F_RAMP and the ramp rates make in one control
step are whole numbers of these. The references, limited current references and voltage-loop integrators per bridge (re, im); the copies that wait in its ring
(R298); reservations with expiry time and amplitude (R300); the pending command; trip causes found since the last control step; the phase of a black start with
its steps so far, and the drawn back-off in steps; the steps in the present state; runs of control steps for which a
condition has held: bus dead, bus live, grid live, grid lost, overvoltage, ω clamped, v_b below V_FRT_ENTER, v_b below the curve,
v_b within 5 %, contention, recovered, window; per bridge, the run and the total of current-limited steps, and the run with the
DC link outside its window; control steps since the last kick; bridges available (bit j); ticks of the automatic starts; whether
a start, or an entry to SYNCING, waits for the cores; steps since RIDETHROUGH ended; the last zero crossing; the calibrated codes of
the bus and grid-side phase voltages at the steps of the last nominal period, latest first (R277); what the latest step made of its
measurements. -/
structure Leaven where
  theta : Nat
  w : Int
  wlp : Int
  pe : Int
  qe : Int
  xi : Int
  e : Int
  wsync : Int
  pset : Int
  qset : Int
  vset : Int
  vshift : Int
  rff : Int
  vref : List (Int × Int)
  iref : List (Int × Int)
  vint : List (Int × Int)
  copies : List (List Nat)
  reservations : List (Nat × Int)
  command : Option Nat
  raised : List Nat
  phase : BsPhase
  phaseSteps : Nat
  backoff : Nat
  stateSteps : Nat
  deadRun : Nat
  liveRun : Nat
  gridRun : Nat
  gridLow : Nat
  overRun : Nat
  clampRun : Nat
  lowRun : Nat
  curveRun : Nat
  settleRun : Nat
  contendRun : Nat
  recRun : Nat
  winRun : Nat
  limRun : Tab Nat
  limTotal : Tab Nat
  dcOut : Tab Nat
  kick : Nat
  avail : Nat
  autoTicks : List Nat
  noAuto : Bool
  noAutoSync : Bool
  since : Nat
  zeroNs : Nat
  busWin : List (List (Option Int))
  gridWin : List (List (Option Int))
  sample : BusSample
  deriving DecidableEq, Repr, Inhabited

/-- The calibration of a string as the integrators hold it across a warm reset, and its CAL_TAG (R329, R331, R335). -/
structure StrCfg where
  used : Bool
  sign : Bool
  vscale : Nat
  iscale : Nat
  vgain : Nat
  igain : Nat
  voff : Int
  ioff : Int
  tag : Nat
  deriving DecidableEq, Repr, Inhabited

/-- The device's own trim of a metering channel, as item 8 measures it (R329): in 2^-24 how far its gain is from 1, and its offset in
codes. -/
structure MtrTrim where
  gain : Int
  off : Int
  deriving DecidableEq, Repr, Inhabited

/-- A metered string beyond its registers (R332 to R348): the device's trim of its two channels and the loaf's calibration; whether it is UNMETERED, and the FLAGS of the span under way,
as its record will show them; the accumulators in 2^-32 µWh; the latest calibrated codes; the CHECK of its last written record, with
the CAL_TAG and the close time of its last record, and how long the device had counted time by then; the energies at that close; nanoseconds of the span without and with integration, up to when they have been counted, and those
of the second in which the string was checked without a spare; the pack's last raw cumulative counters, and those at
the last close; whether the pack was silent then; when the last primary frame was accepted, and the run of intervals that were
not slow; the ALIVE value of each frame; runs of reports out of tolerance; when the last frame was discarded. -/
structure Str where
  trimV : MtrTrim
  trimI : MtrTrim
  cfg : StrCfg
  unmetered : Bool
  flags : Nat
  eDis : Nat
  eChg : Nat
  v : Int
  i : Int
  check : Nat
  calTag : Option Nat
  closeNs : Nat
  closeUp : Nat
  closeDis : Nat
  closeChg : Nat
  pauseNs : Nat
  ranNs : Nat
  seenNs : Nat
  gapNs : Nat
  packDis : Option Nat
  packChg : Option Nat
  prevDis : Option Nat
  prevChg : Option Nat
  silentBefore : Bool
  primaryNs : Option Nat
  goodRun : Nat
  alive : List (Nat × Nat)
  vRun : Nat
  iRun : Nat
  discardNs : Nat
  deriving DecidableEq, Repr, Inhabited

/-- The metering block (R331 to R340): whether integration runs; the record interval in seconds, as the last load set it; whether the first close after a cold
reset is still to come; milliseconds since the last close, and the ticks of a millisecond of an asserted warm reset; built records that wait for flash, oldest first, and how
often the first has been programmed; the next position in the log; PACK_ID changes written to the event log, newest
first (string, old, new); first and last frame times of the unknown sources. -/
structure Metering where
  integrating : Bool
  interval : Nat
  firstClose : Bool
  sinceMs : Nat
  heldTicks : Nat
  queue : List (Nat × List Nat)
  tries : Nat
  ptr : Nat
  events : List (Nat × Nat × Nat)
  unknownNs : List (Nat × Nat × Nat)
  deriving DecidableEq, Repr, Inhabited

/-- A posted CAN frame (R350): queue, tag, format and identifier word, data, the time of posting, its deadline, and whether
it has been aborted while on the bus. -/
structure CanFrame where
  queue : Nat
  tag : Nat
  idWord : Nat
  data : List Nat
  postedNs : Nat
  deadlineMs : Nat
  aborted : Bool
  deriving DecidableEq, Repr, Inhabited

/-- A CAN FD controller beyond its registers: when its last sent frame ended; its queued frames, oldest first, and its completion FIFO,
oldest first. -/
structure Can where
  lastNs : Nat
  frames : List CanFrame
  done : List Nat
  deriving DecidableEq, Repr, Inhabited


/-- An entry of a port's transmit timestamp queue (R378): identifier word without PRESENT, and the egress stamp. -/
structure TxStamp where
  word : Nat
  timeNs : Nat
  deriving DecidableEq, Repr, Inhabited

/-- A Pdelay exchange of a port (R382): sequenceId and egress stamp of the last own request; then its response's ingress
stamp, requestReceiptTimestamp and correction; and twice the link delay of the latest completed exchange, in 2^-16 ns. -/
structure PeerDelay where
  req : Option (Nat × Nat)
  resp : Option (Nat × Nat × Int)
  delay2 : Option Int
  deriving DecidableEq, Repr, Inhabited

/-- A Pdelay_Req whose answer has not left yet (R377): the ticks until it does, its sequenceId and requester, and the response's
correctionField. -/
structure PdelayWait where
  ticks : Nat
  seq : Nat
  requester : List Nat
  correction : Nat
  deriving DecidableEq, Repr, Inhabited

/-- A frame whose descriptor asked for a time stamp, on its way to the pins (R378, R408): messageType, sequenceId, TAG. -/
structure TxMark where
  ty : Nat
  seq : Nat
  tag : Nat
  deriving DecidableEq, Repr, Inhabited

/-- An Ethernet port beyond its registers: its transmit timestamp queue and the marked frames that have started transmission, both
oldest first; its Pdelay exchange; the latest time a timestamp point passed its pins (R374); and the Pdelay_Reqs still to be
answered. -/
structure EthPort where
  stamps : List TxStamp
  marks : List TxMark
  peer : PeerDelay
  lastPin : Nat
  answers : List PdelayWait
  deriving DecidableEq, Repr, Inhabited

/-- The Sync that waits for its measurement (R382): t2, its sequenceId, its correction, ASYM as it stood at its timestamp point
(R375), and t1 with the correction of its Follow_Up once that is known. -/
structure SyncWait where
  t2 : Nat
  seq : Nat
  corr : Int
  asym : Int
  t1 : Option (Nat × Int)
  deriving DecidableEq, Repr, Inhabited

/-- The time guard and the offset engine beyond their registers (R382 to R388): the sum of all steps of the time base; the
tick of the entry to HOLDOVER; W as it was kept at its end, in 1/50 ns; the holdover value in 2^-40; whether `CLK_TS_FREQ` has
been written since LOCKED; the tick of the last measurement, and whether the master has been taken for lost since; the tick of an accepted STEP_ARM that still arms; the
measurements that may form an acquisition, newest first; consecutive accepted measurements; the Sync that waits; Delay_Reqs
sent (sequenceId, t3), newest first; the latest t3, t4 and correction of an E2E exchange; and the two words that a read of
`ETH_SRV_OFFSET0` latched. -/
structure Eth where
  stepped : Nat
  hoTick : Nat
  kept50 : Nat
  holdover : Int
  written : Bool
  lastTick : Nat
  lost : Bool
  armTick : Option Nat
  acq : List Int
  nAccepted : Nat
  sync : Option SyncWait
  delayReqs : List (Nat × Nat)
  endToEnd : Option (Nat × Nat × Int)
  latched : Option (Nat × Nat)
  deriving DecidableEq, Repr, Inhabited

/-- What leaves the device, as the model's own history; newest first in `State.out`. -/
inductive Out where
  | msix (vector : Nat)                              -- an MSI-X message (R428)
  | linkFrame (link : Nat) (bytes : List Nat) (line : List Bool)  -- a Taelaul frame, and its levels on the line (R237)
  | canFrame (ctrl : Nat) (id : Nat) (bytes : List Nat)
  | ethFrame (port : Nat) (bytes : List Nat)
  | pdelay (port seq : Nat) (requester : List Nat) (correction receipt stamp : Nat)  -- Pdelay_Resp and its Follow_Up (R377)
  | portData (ring : Nat) (bytes : List Nat)            -- bytes an OUT ring hands to its port, or a COPY ring to the host
  | svBytes (bytes : List Nat)                       -- bytes the service port drives (R429)
  | readData (value : Nat)                           -- what a register read returned
  | memData (bytes : List Nat)                       -- what a memory read returned
  | coreIrq (block index : Nat)                        -- an interrupt line to the application cores
  | busError                                         -- a core's access answered with an error (R400)
  | unsupported                                      -- a read over PCIe completed with Unsupported Request (R425, R426)
  | completerAbort                                   -- a read over PCIe completed with Completer Abort (R426)
  deriving DecidableEq, Repr, Inhabited

/-- The state of the device. `ticks` counts tick boundaries since reset (R359), `boundaries` is the number of the cycle boundary
whose work was done last (R8); `tap` is the instruction in the test access port (R461). -/
structure State where
  regs : Tab Nat
  mem : Mem
  timeNs : Nat
  ticks : Nat
  boundaries : Nat
  phase : ResetPhase
  appCores : AppCores
  pins : Pins
  modes : ModeCtl
  proof : ProofRun
  kept : Retention
  flash : FlashOp
  slices : Tab Slice
  routes : List Route
  crossbar : Tab StreamWord
  clk : Clocks
  scans : Tab Scan
  channels : Tab Channel
  reqBuf : List Nat
  posts : Nat
  hostPort : HostPort
  endpoint : Endpoint
  tap : TapInstr
  snap : Snapshot
  chans : Tab OutChannel
  outputs : Outputs
  pair : Pair
  rings : Tab Ring
  tlb : List TlbEntry
  invPending : Bool
  errLog : List ErrEntry
  systems : Tab SysRec
  sched : TestSched
  recorder : Recorder
  heads : Tab Head
  chafer : Chafer
  sections : Tab Section
  points : Tab Point
  counting : Counting
  links : Tab Link
  gens : Tab Gen
  bridges : Tab BridgePwm
  legs : Tab Leg
  thresholds : Tab Thresholds
  leaven : Leaven
  strings : Tab Str
  meter : Metering
  cans : Tab Can
  ports : Tab EthPort
  eth : Eth
  out : List Out
  free : Nat
  pending : List Instr
  deriving DecidableEq, Repr, Inhabited

/-- Why the model stops. No command of the table ends in a fault: every access the manual describes has an answer. -/
inductive Fault where
  /-- Raised by `Machine.checked` for a command whose operands are outside what `WellFormed` admits.
  Safe: no such command exists on the device. -/
  | illFormed
  deriving DecidableEq, Repr

/-- Why the model refuses a command. -/
inductive Refusal where
  /-- Answered by the arms of `exec` for a command without a meaning, by its mnemonic. Safe: nothing can be proved of it. -/
  | notModelled (mnemonic : String)
  deriving DecidableEq, Repr

/-- The number of cycle boundaries since reset: one at every 50th tick boundary (R8). -/
def State.cycles (s : State) : Nat := s.ticks / 50

/-- The machine right after a cold reset, with reset still asserted: every register at its reset value. -/
def State.reset : State :=
  { (default : State) with phase := .held, proof := { (default : ProofRun) with dramCold := true }
                           clk := { (default : Clocks) with rcPeriod := 976562500 } }

end Sys2Proof.Machine
end

