-- ==== Sys2Proof/WellFormed.lean ====
section
/-!
DEFINITION. Which commands exist: the checks on operands that the types of `Syntax` do not make.
-/
namespace Sys2Proof

/-- The number of injections of each Weevil set, W1 to W7 (R194). -/
def weevilSize : Nat → Nat
  | 1 => 1032 | 2 => 516 | 3 => 516 | 4 => 113 | 5 => 1 | 6 => 145 | 7 => 2 | _ => 0

/-- A failing injection is one of a set. -/
def weevilOk : Option (Nat × Nat) → Bool
  | none => true
  | some (w, i) => decide (i < weevilSize w)

/-- An address lies in the DRAM, in the SRAM, in its safety region (R393). -/
def dramAddr (a : Word) : Bool := decide (0x80000000 ≤ a.toNat) && decide (a.toNat < 0x90000000)
def sramAddr (a : Word) : Bool := decide (0x20000000 ≤ a.toNat) && decide (a.toNat < 0x20800000)
def safetyAddr (a : Word) : Bool := decide (0x20000000 ≤ a.toNat) && decide (a.toNat < 0x20200000)

/-- A Proof result names what exists: an injection of a set, whole words of the DRAM. -/
def ItemResult.wf : ItemResult → Bool
  | .clocks _ => true
  | .sram _ => true
  | .crossCheck _ _ _ => true
  | .flash _ _ _ => true
  | .loaf _ _ _ _ => true
  | .weevil f => weevilOk f
  | .dram _ ws => ws.all (fun a => dramAddr a && decide (a.toNat % 32 = 0))
  | .references _ qs cs ps _ _ => qs.all (fun p => decide (p.2.length = 24)) && cs.all (fun p => decide (p.2.length = 24))
      && ps.all (fun p => decide (p.2.1.length = 12))
  | .loopback _ _ => true
  | .outputs => true
  | .lines => true
  | .results => true

/-- The data lengths of a CAN FD frame. -/
def dlcLengths : List Nat := [0, 1, 2, 3, 4, 5, 6, 7, 8, 12, 16, 20, 24, 32, 48, 64]

/-- The bytes of a service are bytes. -/
def Service.wf (v : Service) : Bool := v.data.all (fun b => decide (b < 256))

/-- An error that a DRAM scrub finds: 1 to 4 symbols corrected, or none (R395). -/
def dramErrorOk (e : ScrubError) : Bool :=
  dramAddr e.addr && (match e.syms with
    | some n => decide (1 ≤ n.val) && decide (n.val ≤ 4)
    | none => true)

/-- An error that an SRAM scrub finds: one bit corrected, or none (R398). -/
def sramErrorOk (e : ScrubError) : Bool :=
  sramAddr e.addr && (match e.syms with
    | some n => decide (n.val = 1)
    | none => true)

/-- The codes that have a command (R434). -/
def knownCode (c : Byte) : Bool := [0x01, 0x02, 0x03, 0x04, 0x05, 0x06, 0x07, 0x08, 0x5A].contains c.toNat

/-- The opcodes of the service port (R429). -/
def knownOpcode (c : Byte) : Bool := [0x05, 0x0B, 0x02, 0x0D, 0x12, 0x20, 0x21].contains c.toNat

/-- A memory access over PCIe: a read of at most 512 bytes, a write of at most 256 with as many bytes as it says (R423). -/
def hostAccessOk (len : Nat) : Option (List Byte) → Bool
  | none => decide (1 ≤ len) && decide (len ≤ 512)
  | some bs => decide (1 ≤ len) && decide (len ≤ 256) && decide (bs.length = len)

/-- An access lies inside the BAR or the configuration space that it names (R424). -/
def HostSpace.holds (n : Nat) : HostSpace → Bool
  | .window o => decide (o.toNat + n ≤ 0x10000000)
  | .mailbox o => decide (o.toNat + n ≤ 0x10000)
  | .config o => decide (o.toNat + n ≤ 0x1000)

/-- A debug access has a size. -/
def DebugRequest.wf : DebugRequest → Bool
  | .instruction _ => true
  | .halt _ => true
  | .resume _ => true
  | .read _ _ w => decide (w.bytes.val ≠ 0)
  | .write _ _ w _ => decide (w.bytes.val ≠ 0)

/-- The instances, and the lanes or bytes of an instance, of a comparator port (R186, R191, R194). -/
def portInstances (port : Nat) : Nat := if port = 0 then 2 else 1
def portLanes (port : Nat) : Nat :=
  match port with
  | 0 => 40 | 1 => 116 | 2 => 160 | 3 => 160 | 4 => 65 | 5 => 48 | _ => 256

/-- A fault names lanes that its port has. -/
def lanesOk (port inst lane lanes : Nat) : Bool :=
  decide (inst < portInstances port) && decide (1 ≤ lanes) && decide (lane < portLanes port) && decide (lane + lanes ≤ 256)
    && (decide (4 ≤ port) || decide (lane + lanes ≤ portLanes port))

/-- A lockstep fault: both halves differ on a compared port, or the parity of a delay register is wrong (R190, R191). -/
def lockstepOk (port half inst lane lanes : Nat) : Bool :=
  lanesOk port inst lane lanes && ((decide (port < 4) && decide (half = 3)) || decide (port = 4) || decide (port = 5))

/-- A comparator fault: one half alone differs, on a compared port or as the cross-check sees it (R190). -/
def comparatorOk (port half inst lane lanes : Nat) : Bool :=
  lanesOk port inst lane lanes && (decide (port < 4) || decide (port = 6)) && (decide (half = 1) || decide (half = 2))

/-- The command exists. -/
def Instr.wf : Instr → Bool
  | .proofItemComplete r => r.wf
  | .lockstep p h i l n _ => lockstepOk p.toNat h.toNat i.toNat l.toNat n.toNat
  | .comparator p h i l n _ => comparatorOk p.toNat h.toNat i.toNat l.toNat n.toNat
  | .rejoin _ _ _ f _ => weevilOk f
  | .pmaConversion _ _ codes => decide (codes.length = 8)
  | .packFrame _ _ kind _ data => dlcLengths.contains data.length && (decide (kind = .data) || data.isEmpty)
  | .descriptorComplete _ v => v.wf
  | .translationFault _ _ _ v => v.wf
  | .hostMemoryAccess place len write _ _ => hostAccessOk len write && place.holds len
  | .debugHalt r => r.wf
  | .dramScrub es => es.all dramErrorOk
  | .sramScrub es => es.all sramErrorOk
  | .unknownCmd _ _ code payload => !knownCode code && decide (payload.length ≤ 1020)
  | .svMemRead _ len _ => decide (1 ≤ len) && decide (len ≤ 256)
  | .svMemWrite _ w => decide (1 ≤ w.bytes.length) && decide (w.bytes.length ≤ 256)
  | .svPost bs => decide (bs.length ≤ 1024)
  | .svUnknownOpcode c => !knownOpcode c
  | .registerWrite _ _ size _ => decide (size.bytes.val ≠ 0)
  | .registerRead _ _ size => decide (size.bytes.val ≠ 0)
  | .sramUncorr a => safetyAddr a
  | _ => true

end Sys2Proof
end

