-- ==== Sys2Proof/Machine/Checked.lean ====
section
/-!
DEFINITION. What a meaning answers: the next state of a command that exists.
-/
namespace Sys2Proof.Machine

/-- The answer of a meaning. -/
abbrev Answer := Host.Outcome State Fault Refusal

/-- The next state of a command whose operands are well formed; else the fault `illFormed`. -/
def checked (c : Instr) (s : State) : Answer := if c.wf then .next s else .fault .illFormed

/-- A list of bytes as numbers. -/
def byteNats (bs : List Byte) : List Nat := bs.map BitVec.toNat

/-- A list of words as numbers. -/
def wordNats (ws : List Word) : List Nat := ws.map BitVec.toNat

end Sys2Proof.Machine
end

