-- ==== Sys2Proof/Machine/Crc.lean ====
section
/-!
DEFINITION. CRC-32C by R256, and the seal word by R81.
-/
namespace Sys2Proof.Machine

/-- One shift of the reflected register: R256's polynomial is 0x82F6_3B78. -/
def crcShift (r : Nat) : Nat := if r % 2 = 1 then (r / 2) ^^^ 0x82F63B78 else r / 2

/-- Eight shifts. -/
def crcShift8 (r : Nat) : Nat :=
  crcShift (crcShift (crcShift (crcShift (crcShift (crcShift (crcShift (crcShift r)))))))

/-- The running value after one byte (R256). -/
def crcByte (run b : Nat) : Nat := crcShift8 ((run ^^^ b % 256) % 256) ^^^ (run / 256)

/-- The running value after the bytes, from a given running value. -/
def crcRun : Nat → List Nat → Nat
  | run, [] => run
  | run, b :: bs => crcRun (crcByte run b) bs

/-- The check value of a running value: the final XOR. -/
def crcFinal (run : Nat) : Nat := run ^^^ 0xFFFFFFFF

/-- The check value of the bytes from the initial running value. -/
def crc32c (bs : List Nat) : Nat := crcFinal (crcRun 0xFFFFFFFF bs)

/-- The seal word of a safety part: the upper half XOR the lower half of the CRC from offset 2 to the end (R81). -/
def sealWord (safe : List Nat) : Nat :=
  let c := crc32c (safe.drop 2)
  (c / 65536) ^^^ (c % 65536)

end Sys2Proof.Machine
end

