-- ==== Sys2Proof/Config.lean ====
section
/-!
DEFINITION. What an implementation fixes and the manual leaves open: free values, none of which has a body.
A claim about the model holds whatever they are.
-/
namespace Sys2Proof.Config

/-- A fresh unknown value, one per use of the counter `State.free`. -/
opaque freeValue : Nat → Nat

/-- Whether an inexact quotient of Leaven's fixed-point arithmetic is rounded up (true) or down; the manual gives the
resolution of a quantity and no rounding rule. Applied to numerator and denominator. -/
opaque roundUp : Int → Nat → Bool

/-- sin and cos of an angle in units of 2^-24 turn, in units of 2^-24, as the fabric computes them. -/
opaque sinTurn : Int → Int
opaque cosTurn : Int → Int

/-- The value of `DMA_RING_CFG.PORT` that names the PCIe port, and that of each Ethernet port; the manual leaves the
coding of block ports to the loaf compiler. -/
opaque pciePort : BitVec 8
opaque ethPort : Nat → BitVec 8

/-- What Leaven's slices make of calibrated codes, each for the value of `GFE_BASE.V_BASE`: the manual gives neither the scale of a code
nor an estimator's arithmetic. The vector of the bus voltage from its three phases, in 2^-24 pu in the stationary frame; that of a
bridge's current from its three phases and the bridge's rating; the volts of a DC link. -/
opaque busVector : Nat → List (Option Int) → Int × Int
opaque currentVector : Nat → Nat → List (Option Int) → Int × Int
opaque linkVolts : Nat → Option Int → Nat

/-- From the phase voltages over a window, latest first, for V_BASE and whether f_base is 60 Hz: the magnitude of the positive-sequence
fundamental, the largest phase magnitude, the largest phase-to-phase voltage, all in 2^-24 pu; its frequency in 2^-24 of f_base; its phase
now in 2^-32 turn (R277, R287). -/
opaque seqMagnitude : Nat → Bool → List (List (Option Int)) → Nat
opaque phaseMagnitude : Nat → Bool → List (List (Option Int)) → Nat
opaque lineMagnitude : Nat → Bool → List (List (Option Int)) → Nat
opaque seqFrequency : Nat → Bool → List (List (Option Int)) → Int
opaque seqPhase : Nat → Bool → List (List (Option Int)) → Nat

/-- The Vendor ID of the PCIe endpoint, fused at manufacture. -/
opaque vendorId : BitVec 16

/-- The scratch region of SRAM that a core of the split pair may write (core 1 where the flag says so), as the Scarab image declares
it: whether it holds an address. -/
opaque scratch : Bool → Nat → Bool

/-- The entry that a table walk of the IOMMU reads at an address outside the regions in which R403 lets tables lie. -/
opaque strayEntry : Nat → BitVec 64

/-- Whether PHASE puts a bridge's carrier before its generator's; the manual gives an offset and no direction. -/
opaque phaseLeads : Bool

/-- Whether a calibration stage of the power measurement adds its offset before it applies its gain; the manual gives the two
and no order. -/
opaque offsetFirst : Bool

/-- The angle, in 2^-32 turn, at which the phase-a EMF crosses zero upward; the manual does not say which way θ counts from
phase a. -/
opaque phaseZero : Nat

/-- A field of a CAN frame in the big-endian byte order: data, bit offset, bit length; the manual does not say how such a
field's bits are numbered. -/
opaque bigEndianField : List Nat → Nat → Nat → Nat

/-- The copy of a received CAN frame in its ring: controller, format and identifier word, data; the manual gives no layout. -/
opaque packCopy : Nat → Nat → List Nat → List Nat

end Sys2Proof.Config
end

