-- ==== Sys2Proof/Machine/Ops.lean ====
section
/-!
DEFINITION. The named operations on the state: register fields, time, mode, interrupts, access errors, device memory.
-/
namespace Sys2Proof.Machine

/-! ### Register fields -/

/-- The value of entry `i` of a field: the cell if it is listed, else the field's reset value (R12). -/
def State.rd (s : State) (f : Fld) (i : Nat := 0) : Nat := (lookup s.regs (f.key i)).getD f.reset

/-- Entry `i` of field `f` set to the low bits of `v`. -/
def State.wr (s : State) (f : Fld) (v : Nat) (i : Nat := 0) : State :=
  { s with regs := insert s.regs (f.key i) (v % 2 ^ f.width) }

/-- A one-bit field as a truth value. -/
def State.flag (s : State) (f : Fld) (i : Nat := 0) : Bool := s.rd f i = 1

/-- A one-bit field set to a truth value. -/
def State.wrFlag (s : State) (f : Fld) (b : Bool) (i : Nat := 0) : State := s.wr f (b2n b) i

/-- The signed value of a field in two's complement. -/
def State.rdS (s : State) (f : Fld) (i : Nat := 0) : Int := toSigned f.width (s.rd f i)

/-- A signed value stored in a field in two's complement. -/
def State.wrS (s : State) (f : Fld) (v : Int) (i : Nat := 0) : State := s.wr f (ofSigned f.width v) i

/-- A field incremented, wrapping: every GEN field. -/
def State.inc (s : State) (f : Fld) (i : Nat := 0) : State := s.wr f (s.rd f i + 1) i

/-- A field increased by `n`, saturating at all ones: every counter of the manual that saturates. -/
def State.count (s : State) (f : Fld) (i : Nat := 0) (n : Nat := 1) : State := s.wr f (sat f.width (s.rd f i + n)) i

/-- A field returned to its reset value. -/
def State.clr (s : State) (f : Fld) (i : Nat := 0) : State := s.wr f f.reset i

/-- `g` applied where `b` holds. -/
def State.when (s : State) (b : Bool) (g : State → State) : State := if b then g s else s

/-- `g` applied to the state for each number below `n`, upward. -/
def State.upTo (s : State) (g : Nat → State → State) : Nat → State
  | 0 => s
  | n + 1 => g n (State.upTo s g n)

/-- `g` applied to the state for each entry of the list, in order. -/
def State.each {α : Type} (g : α → State → State) : List α → State → State
  | [], s => s
  | a :: as, s => State.each g as (g a s)

/-- How many numbers below `n` meet `p`. -/
def countUpTo (p : Nat → Bool) : Nat → Nat
  | 0 => 0
  | n + 1 => countUpTo p n + b2n (p n)

/-- Whether some number below `n` meets `p`. -/
def anyUpTo (p : Nat → Bool) : Nat → Bool
  | 0 => false
  | n + 1 => anyUpTo p n || p n

/-- Whether every number below `n` meets `p`. -/
def allUpTo (p : Nat → Bool) (n : Nat) : Bool := !anyUpTo (fun i => !p i) n

/-- The numbers below `n` that meet `p`, upward. -/
def filterUpTo (p : Nat → Bool) (n : Nat) : List Nat := (List.range n).filter p

/-! ### Free values, and what leaves the device -/

/-- A value the manual leaves open, of `w` bits. -/
def State.freeVal (s : State) (w : Nat) : Nat := Config.freeValue s.free % 2 ^ w

/-- The counter moves on, so that the next open value is another one. -/
def State.nextFree (s : State) : State := { s with free := s.free + 1 }

/-- Something leaves the device. -/
def State.emit (s : State) (o : Out) : State := { s with out := o :: s.out }

/-! ### Mode and time -/

/-- The current mode (R43). -/
def State.mode (s : State) : Mode := Mode.ofCode (s.rd SYS_MODE.CUR)

/-- Time counted in ticks of 20 µs, in nanoseconds: what every interval of the safety side is measured in (R22, R359). -/
def State.tickNs (s : State) : Nat := 20000 * s.ticks

/-- Nanoseconds that have really passed: the time base without the steps that the guard made (R386). Intervals of the control
side are measured on it, stamps on `timeNs`. -/
def State.upNs (s : State) : Nat := s.timeNs - s.eth.stepped

/-- Seconds of the 80-bit time (R7). -/
def State.sec (s : State) : Nat := s.timeNs / 1000000000

/-- Nanoseconds of the 80-bit time (R7): below 1,000,000,000. -/
def State.nsec (s : State) : Nat := s.timeNs % 1000000000

/-- The 80-bit time stored in three words: nanoseconds, seconds low and seconds high. -/
def State.wrTime (s : State) (f0 f1 f2 : Fld) (t : Nat) (i : Nat := 0) : State :=
  ((s.wr f0 (t % 1000000000) i).wr f1 (t / 1000000000 % 2 ^ 32) i).wr f2 (t / 1000000000 / 2 ^ 32) i

/-- The ten bytes of an 80-bit time in memory: nanoseconds in the lower four, seconds in the six above (R7). -/
def timeBytes (t : Nat) : List Nat := toBytesLE 4 (t % 1000000000) ++ toBytesLE 6 (t / 1000000000)

/-- The time that ten such bytes hold. -/
def bytesTime (bs : List Nat) : Nat := ofBytesLE (bs.take 4) + 1000000000 * ofBytesLE (slice bs 4 6)

/-- MDLL-A is lock-qualified: its output gate is open (`CLK_STATUS.MA_QUAL`). -/
def State.mdllA (s : State) : Bool := s.flag CLK_STATUS.MA_QUAL

/-- MDLL-B is lock-qualified. -/
def State.mdllB (s : State) : Bool := s.flag CLK_STATUS.MB_QUAL

/-! ### Interrupts (R428) -/

/-- One message of vector `v`; in reset and in Proof the endpoint's lines are idle (R448). -/
def sendMsix (v : Nat) (s : State) : State :=
  s.when (decide (s.phase = .done) && decide (s.mode ≠ .proof)) (fun s => s.emit (.msix v))

/-- An event of vector `v`: its pending bit is set, and a bit that was 0 and is unmasked sends one message. -/
def irq (v : Nat) (s : State) : State :=
  let p := s.rd SYS_IRQ_PEND.VEC
  let s' := s.wr SYS_IRQ_PEND.VEC (setBit p v true)
  if !bit p v && !bit (s.rd SYS_IRQ_MASK.VEC) v then sendMsix v s' else s'

/-! ### Access errors (R9, R10, R14, R444) -/

/-- The types of `SYS_ACC_ERR0.TYPE`. -/
inductive AccErr where
  | narrow | unmapped | notPermitted | locked | clockStop | size
  deriving DecidableEq, Repr, Inhabited

/-- The code of an access-error type. -/
def AccErr.code : AccErr → Nat
  | .narrow => 1 | .unmapped => 2 | .notPermitted => 3 | .locked => 4 | .clockStop => 5 | .size => 6

/-- The code of a requester in `SYS_ACC_ERR0.REQ`. Either core of the pair alone is recorded as the pair. -/
def requesterCode : Requester → Nat
  | .scarab => 0 | .core0 => 0 | .core1 => 0 | .app => 1 | .host => 2 | .sv => 3 | .ring _ => 4 | .slice _ => 1 | .hardware => 1

/-- The ring number of a requester. -/
def requesterRing : Requester → Nat
  | .ring r => r.val | _ => 0

/-- An access error: counted, and recorded where no record is held; a record raises vector 9. -/
def accessError (req : Requester) (ty : AccErr) (write : Bool) (addr : Nat) (s : State) : State :=
  let s := s.count SYS_ACC_ERR0.COUNT
  if s.flag SYS_ACC_ERR0.VALID then s
  else
    irq 9 ((((((s.wrFlag SYS_ACC_ERR0.VALID true).wr SYS_ACC_ERR0.REQ (requesterCode req)).wr SYS_ACC_ERR0.TYPE ty.code).wrFlag
      SYS_ACC_ERR0.WRITE write).wr SYS_ACC_ERR0.RING (requesterRing req)).wr SYS_ACC_ERR1.ADDR addr)

/-! ### Device memory -/

/-- The device memory's bytes at an address. -/
def State.memBytes (s : State) (a n : Nat) : List Nat := s.mem.readBytes a n

/-- The little-endian number of `n` bytes at an address (R6). -/
def State.memLE (s : State) (a n : Nat) : Nat := s.mem.readLE a n

/-- Bytes stored in device memory. -/
def State.memWrite (s : State) (a : Nat) (bs : List Nat) : State := { s with mem := s.mem.writeBytes a bs }

/-! ### Rounding -/

/-- A quotient rounded to an integer: exact where it is one, else rounded down or up as the device does, which the manual
leaves open (`Config.roundUp`). -/
def roundQ (num : Int) (den : Nat) : Int :=
  num / (den : Int) + (if num % (den : Int) = 0 then 0 else if Config.roundUp num den then 1 else 0)

/-- A quotient rounded to the nearest integer; a tie falls either way (`Config.roundUp`). -/
def roundNear (num : Int) (den : Nat) : Int :=
  let q := num / (den : Int)
  let r := num % (den : Int)
  if 2 * r < den then q else if 2 * r > den then q + 1 else if Config.roundUp num den then q + 1 else q

/-! ### Results -/

/-- The field of a register that a result's GEN and VALID form: an outcome advances GEN and sets VALID (R421). -/
def State.outcome (s : State) (gen valid : Fld) (i : Nat := 0) : State := (s.inc gen i).wrFlag valid true i

end Sys2Proof.Machine
end

