-- ==== Sys2Proof/Machine/SopTerms.lean ====
section
/-!
DEFINITION. The output gate of R23, channel by channel: the terms, the gate levels, and the reasons for `SAFE_N`.
-/
namespace Sys2Proof.Machine

/-- The pair's states (R197). -/
def pairReset : Nat := 0
def pairWeevil : Nat := 1
def pairJoined : Nat := 2
def pairSplitting : Nat := 3
def pairSplit : Nat := 4
def pairRejoining : Nat := 5

/-- The section states (R157): CLEAR, OCCUPIED, DISTURBED, PREPARED. -/
def secClear : Nat := 0
def secOccupied : Nat := 1
def secDisturbed : Nat := 2
def secPrepared : Nat := 3

/-- The pair is joined: the gate term `lockstep_in_agreement` of R23 (R197, R198). -/
def State.joined (s : State) : Bool := s.rd LKS_STATUS.STATE = pairJoined

/-- The gate term `mode is service` of R23: false from the clock period in which a Hold cause is detected (R44, R75), and
between a requalification of MDLL-A and Recovery (R65). -/
def State.modeTerm (s : State) : Bool :=
  decide (s.mode = .service) && s.modes.raised.isEmpty && !s.modes.toRecovery

/-- The record of channel `o`. -/
def State.chan (s : State) (o : Nat) : OutChannel := tget s.chans o

/-- The record of channel `o` changed. -/
def State.modChan (s : State) (o : Nat) (f : OutChannel → OutChannel) : State := { s with chans := tmod s.chans o f }

/-- Channel `o` is in use: loaf table 4 declares it so, and no loaf since the last reset declared it unused (R217). -/
def State.chanUsed (s : State) (o : Nat) : Bool := s.flag SOP_CH_CFG.USED o && !(s.chan o).barred

/-- Channel `o` is locked by a fault (R230). -/
def State.locked (s : State) (o : Nat) : Bool := decide ((s.chan o).faults ≠ 0)

/-- The section of a section output is CLEAR in the latest publication (R221). -/
def State.outSectionClear (s : State) (o : Nat) : Bool := s.rd CNT_SEC_STATE.STATE (s.rd SOP_CH_CFG.SECTION o) = secClear

/-- The command at the gate term after R221: a section output's command reads 0 while its section is not CLEAR. -/
def State.gateCommand (s : State) (o : Nat) : Bool :=
  bit s.outputs.commands o && (s.flag SOP_CH_CFG.GENERAL o || s.outSectionClear o)

/-- Every term of R23 for channel `o` but the test term. -/
def State.baseTerm (s : State) (o : Nat) : Bool :=
  s.chanUsed o && s.gateCommand o && s.joined && s.modeTerm && s.mdllA && !s.flag SOP_CH_STATE.LATCH o

/-- The test term of the high-side gate: false during a pulse on it, a split-switch test, its abandon sequence, or a lock; in a pulse
on the other gate it is false once another term has been (R229). -/
def State.testTermH (s : State) (o : Nat) : Bool :=
  !s.locked o && (match (s.chan o).test with
    | .none => true | .pulseH => false | .pulseL => !(s.chan o).broken
    | .stepH => false | .gap => false | .stepL => false | .abandon => false
    | .check => false | .itemH => false | .itemL => false)

/-- The test term of the low-side gate. -/
def State.testTermL (s : State) (o : Nat) : Bool :=
  !s.locked o && (match (s.chan o).test with
    | .none => true | .pulseH => !(s.chan o).broken | .pulseL => false
    | .stepH => false | .gap => false | .stepL => false | .abandon => false
    | .check => false | .itemH => false | .itemL => false)

/-- The gates of channel `o` by the terms of R23. -/
def State.gateH (s : State) (o : Nat) : Bool := s.baseTerm o && s.testTermH o
def State.gateL (s : State) (o : Nat) : Bool := s.baseTerm o && s.testTermL o

/-- A split-switch test, by its step `k`, or item 10, by its step `i`, drives channel `o` through the test path (R224, R231). -/
def State.steps (s : State) (k i : OutTestKind) (o : Nat) : Bool :=
  decide (o < 72) && s.chanUsed o && (decide ((s.chan o).test = k) || decide ((s.chan o).test = i))

/-- The level driven on `SOH[o]`: by the gate, or by the test path while the other gate is held off (R23, R224). -/
def State.soh (s : State) (o : Nat) : Bool := s.gateH o || (s.steps .stepH .itemH o && !s.gateL o)

/-- The level driven on `SOL[o]`. -/
def State.sol (s : State) (o : Nat) : Bool := s.gateL o || (s.steps .stepL .itemL o && !s.gateH o)

/-- Channel `o` is energised: both gates on. -/
def State.energised (s : State) (o : Nat) : Bool := s.soh o && s.sol o

/-- Whether some channel in use is locked. -/
def State.anyLocked (s : State) : Bool := anyUpTo (fun o => s.chanUsed o && s.locked o) 72

/-- `SAFE_N` is driven low (R232). -/
def State.safeAsserted (s : State) : Bool :=
  !s.joined || decide (s.mode ≠ .service) || !s.mdllA || s.anyLocked || decide (s.phase ≠ .done)

/-- `SOP_CH_STATE[o].COND` (R235). -/
def State.chanCond (s : State) (o : Nat) : Nat :=
  if !s.chanUsed o then 0
  else if s.locked o then 6
  else match (s.chan o).test with
    | .pulseH => 3 | .pulseL => 3 | .stepH => 4 | .gap => 4 | .stepL => 4 | .abandon => 5 | .itemH => 4 | .itemL => 4
    | .check => 1
    | .none => if s.energised o then 2 else 1

/-- The lowest fault code of a mask of faults (R219). -/
def lowestFault (m : Nat) : Nat :=
  if bit m 0 then 1 else if bit m 1 then 2 else if bit m 2 then 3 else if bit m 3 then 4 else if bit m 4 then 5 else 0

/-- Head `h` is mapped to output `o` by loaf table 5 (R25). -/
def State.mapped (s : State) (h o : Nat) : Bool := bit (s.rd HFE_SC_MASK.MASK (3 * h + o / 32)) (o % 32)

/-- Some system of a head mapped to `o` is above its damping threshold, by the Firefly crossing state (R26). -/
def State.mappedCrossing (s : State) (o : Nat) : Bool :=
  anyUpTo (fun h => s.mapped h o && (s.flag HFE_STATUS.CROSSING (2 * h) || s.flag HFE_STATUS.CROSSING (2 * h + 1))) 96

end Sys2Proof.Machine
end

