-- ==== Sys2Proof/Machine/Terms.lean ====
section
/-!
DEFINITION. Terms that several blocks read off the state: what is in use, what runs, which state a part is in.
-/
namespace Sys2Proof.Machine

/-! ### Proof (R52, R56), counting (R42) -/

/-- The counting engine runs: in Commission, Service and Recovery with MDLL-A qualified (R42, R65). -/
def State.countingRuns (s : State) : Bool :=
  s.mdllA && (match s.mode with
    | .commission => true | .service => true | .recovery => true
    | .resetSeq => false | .dormant => false | .proof => false | .hold => false | .reserved => false)

/-- The items whose pass an item of Proof waits for (R56). -/
def State.itemDeps : Nat → List Nat
  | 2 => [1] | 3 => [1] | 4 => [1] | 5 => [2, 4] | 6 => [5] | 7 => [1] | 8 => [5] | 9 => [6] | 10 => [6] | 11 => [8]
  | 12 => [7, 9, 10, 11] | _ => []

/-- Item `i` has passed in this Proof. -/
def State.itemPassed (s : State) (i : Nat) : Bool := bit (s.rd SYS_PROOF.ITEM_PASS) (i - 1)

/-- Item `i` has ended in this Proof. -/
def State.itemEnded (s : State) (i : Nat) : Bool := bit s.proof.ended (i - 1)

/-- Item `i` runs. -/
def State.itemRuns (s : State) (i : Nat) : Bool :=
  decide (s.mode = .proof) && !s.proof.finished && !s.itemEnded i && (State.itemDeps i).all s.itemPassed

/-! ### Sensor systems and heads -/

/-- The record of system `q`. -/
def State.sys (s : State) (q : Nat) : SysRec := tget s.systems q

/-- The head of system `q` is in use. -/
def State.sysUsed (s : State) (q : Nat) : Bool := s.flag HFE_HEAD_CFG.USED (q / 2)

/-- The codes of `HFE_GLB_STATUS.RATE`. -/
def rateStopped : Nat := 0
def rateLow : Nat := 1
def rateFull : Nat := 2
def rateOverlap : Nat := 3

/-- System `q` is FAULT. -/
def State.sysFault (s : State) (q : Nat) : Bool := decide ((s.sys q).faults ≠ 0)

/-- The record of head `h`. -/
def State.head (s : State) (h : Nat) : Head := tget s.heads h

/-- The magnitude of the drift exceeds `num / den` of DRIFT_LIM (R144). -/
def Drift.exceeds (d : Drift) (nom lim : Int) (num den : Nat) : Bool :=
  d.ready && decide (num * lim * 2 ^ 24 < den * ((d.acc - nom * 2 ^ 24).natAbs : Int))

/-! ### The order of the supply-line tests (R110) -/

/-- g(i) of R110. -/
def testHead (i : Nat) : Nat := 48 * (i % 2) + i / 2

/-- The system of position `j` of the order. -/
def testSystem (j : Nat) : Nat := if j < 96 then 2 * testHead j else 2 * testHead (j - 96) + 1

/-- Proof item 11 runs. -/
def State.itemEleven (s : State) : Bool := s.itemRuns 11

/-- The order gives system `q`: its head is in use; an item 11 that runs goes through the order once (R467). -/
def State.testWanted (s : State) (q : Nat) : Bool := s.sysUsed q && !(s.itemEleven && bit s.sched.ordered q)

/-- The first position from `j` on, within `n` positions, whose system the order gives. -/
def State.nextPosition (s : State) (j : Nat) : Nat → Option Nat
  | 0 => none
  | n + 1 => if s.testWanted (testSystem (j % 192)) then some (j % 192) else s.nextPosition (j + 1) n

/-- The system the order gives next, if some head is in use. -/
def State.orderNext (s : State) : Option Nat := (s.nextPosition s.sched.position 192).map testSystem

/-- The ticks of a slot, and those between slot times (R108, R110): back to back in Proof; else the test interval divided by the
systems in use, never less than a slot. -/
def State.slotTicks (s : State) : Nat := s.rd HFE_TEST_CFG0.T_OFF + s.rd HFE_TEST_CFG0.T_RST + 50
def State.slotSpacing (s : State) : Nat :=
  if s.mode = .proof then s.slotTicks
  else max s.slotTicks (5000 * s.rd HFE_TEST_CFG0.T_HST / countUpTo s.sysUsed 192)

/-- A slot's time has come. -/
def State.slotDue (s : State) : Bool :=
  match s.sched.slotTick with
  | some t => decide (t + s.slotSpacing ≤ s.ticks)
  | none => true

/-- A slot that began now would end within the 1,400 ms of an item 11 that runs (R467). -/
def State.slotFits (s : State) : Bool := !s.itemEleven || decide (s.ticks + s.slotTicks ≤ s.sched.itemTick + 70000)

/-- Every system in use has completed a slot since Proof began, and no repeat is owed (R467). -/
def State.allTested (s : State) : Bool := allUpTo (fun q => !s.sysUsed q || bit s.sched.completed q) 192 && s.sched.owed.isEmpty

/-- Item 11 has come to the first of the two moments that end it (R467). -/
def State.linesOver (s : State) : Bool := s.sched.slot.isNone && (s.allTested || !s.slotFits)

/-- The scheduler is active (R110): Hold, Commission, Recovery and Service with MDLL-A qualified, and Proof item 11. -/
def State.schedActive (s : State) : Bool :=
  s.mdllA && (match s.mode with
    | .hold => true | .commission => true | .recovery => true | .service => true
    | .proof => s.itemEleven | .resetSeq => false | .dormant => false | .reserved => false)

/-- A head is free for a slot: neither system is above THR_DAMP, flagged BLANK, or has a crossing (R113). -/
def State.headFree (s : State) (h : Nat) : Bool :=
  let ok := fun q => decide (s.rdS HFE_SAMPLE.CODE q ≤ toSigned 16 (s.rd HFE_THR0.THR_DAMP q))
    && !s.flag HFE_STATUS.BLANK q && !s.flag HFE_STATUS.CROSSING q && decide ((s.sys q).blankUntil ≤ s.ticks)
  ok (2 * h) && ok (2 * h + 1)

/-- The first system of a list whose head is in use and free. -/
def State.firstFree (s : State) : List Nat → Option Nat
  | [] => none
  | q :: qs => if s.sysUsed q && s.headFree (q / 2) then some q else s.firstFree qs

/-- The system index of the next slot, as `HFE_TEST_POS.NEXT` shows it: as things stand now. -/
def State.testNext (s : State) : Nat :=
  match s.firstFree s.sched.owed with
  | some q => q
  | none => match s.firstFree s.sched.deferred with
    | some q => q
    | none => s.orderNext.getD 0

/-- The modes in which Chafer and the heads run at full rate, and in which PCIe and Ethernet work (R42, R102). -/
def State.fullRateMode (s : State) : Bool :=
  match s.mode with
  | .hold => true | .commission => true | .service => true | .recovery => true
  | .resetSeq => false | .dormant => false | .proof => false | .reserved => false

/-- The Ethernet blocks work: in those modes, while MDLL-B runs (R36, R42). -/
def State.ethOn (s : State) : Bool := s.fullRateMode && s.mdllB

/-! ### Sections and links -/

/-- The state of section `x`, and whether it is in use. -/
def State.secState (s : State) (x : Nat) : Nat := s.rd CNT_SEC_STATE.STATE x
def State.secUsed (s : State) (x : Nat) : Bool := s.flag CNT_SEC_CFG.USED x

/-- The record of link `l`. -/
def State.link (s : State) (l : Nat) : Link := tget s.links l

/-- The link states (`NBL_STATE.STATE`). -/
def linkDown : Nat := 0
def linkEstablishing : Nat := 1
def linkUp : Nat := 2
def linkLost : Nat := 3

/-- The state of link `l`, and whether the loaf declares it in use. -/
def State.linkState (s : State) (l : Nat) : Nat := s.rd NBL_STATE.STATE l
def State.linkUsed (s : State) (l : Nat) : Bool := s.flag NBL_CFG.USED l
def State.linkIsUp (s : State) (l : Nat) : Bool := s.linkState l = linkUp

/-! ### Scans -/

/-- The record of a bank of the check unit. -/
def State.scan (s : State) (b : Nat) : Scan := tget s.scans b

/-- Bank S is used by a rank 2 requester (R258): Proof item 4 or 5, or the image check of a rejoin. -/
def State.bankSOwned (s : State) : Bool := s.itemRuns 4 || s.itemRuns 5 || decide (s.pair.step = .image)

/-- The bank is busy: a scan runs or is suspended (R261), or FAB operation 0x3 uses bank A (R258). -/
def State.scanBusy (s : State) (b : Nat) : Bool :=
  if b = 0 then (s.scan 0).running || s.bankSOwned else (s.scan b).running || (s.flash.running && decide (s.flash.op = 3))

/-! ### Bridges -/

/-- The PWM record of bridge `j` and of leg `m`. -/
def State.bridge (s : State) (j : Nat) : BridgePwm := tget s.bridges j
def State.leg (s : State) (m : Nat) : Leg := tget s.legs m

/-- The leg is in use; the bridge it belongs to. -/
def State.legUsed (s : State) (m : Nat) : Bool := decide (m < 36) && s.flag PWM_LEG_CFG.USED m
def State.legBridge (s : State) (m : Nat) : Nat := s.rd PWM_LEG_CFG.BRIDGE m

/-- The legs of bridge `j`, upward. -/
def State.bridgeLegs (s : State) (j : Nat) : List Nat :=
  filterUpTo (fun m => s.legUsed m && decide (s.legBridge m = j)) 36

/-- The bridge is in use. -/
def State.bridgeUsed (s : State) (j : Nat) : Bool := s.flag PWM_BR_CFG0.USED j

/-- The mode term of R307; false from the clock period in which a Hold cause is detected, and between a requalification of
MDLL-A and Recovery (R44, R65). -/
def State.pwmMode (s : State) : Bool :=
  (match s.mode with
    | .service => true
    | .recovery => true
    | .commission => s.flag GFE_BASE.TEST_RUN
    | .resetSeq => false | .dormant => false | .proof => false | .hold => false | .reserved => false)
    && s.modes.raised.isEmpty && !s.modes.toRecovery

/-- Bridge `j` has tripped. -/
def State.tripped (s : State) (j : Nat) : Bool := decide (s.rd PWM_BR_STATUS.TRIP j ≠ 0)

/-- Every term of R307 for leg `m` but the leg logic. -/
def State.gateMay (s : State) (m : Nat) : Bool :=
  s.legUsed m && !(s.leg m).barred && s.pwmMode && s.mdllA && s.flag PWM_BR_STATUS.ENABLED (s.legBridge m) && !s.tripped (s.legBridge m)
    && !s.flag PWM_BR_STATUS.CH_FAIL (s.legBridge m)

/-- The leg state S (R309, R317). -/
def State.legS (s : State) (m : Nat) : Bool := s.legUsed m && (s.leg m).s

/-- `PWM_H[m]` at its on level (R307, R310). -/
def State.legH (s : State) (m : Nat) : Bool := s.gateMay m && s.legS m && (s.leg m).on

/-- `PWM_L[m]` at its on level (R307, R310). -/
def State.legL (s : State) (m : Nat) : Bool := s.gateMay m && !s.legS m && (s.leg m).on

/-- Some gate of bridge `j` is on. -/
def State.bridgeGates (s : State) (j : Nat) : Bool := (s.bridgeLegs j).any (fun m => s.legH m || s.legL m)

/-- Leaven's state code. -/
def State.gfe (s : State) : Nat := s.rd GFE_STATUS.STATE

/-- Bridge `j` is one of Leaven's (R271). -/
def State.gfeBridge (s : State) (j : Nat) : Bool := s.flag GFE_BR_CFG.USED j

/-- Bridge `j` is available (R271, R274). -/
def State.avail (s : State) (j : Nat) : Bool := bit s.leaven.avail j

/-! ### The time guard -/

/-- The codes of `ETH_SRV_STATUS.STATE`. -/
def guardUnsync : Nat := 0
def guardLocked : Nat := 1
def guardHoldover : Nat := 2

/-- The guard's state. -/
def State.guard (s : State) : Nat := s.rd ETH_SRV_STATUS.STATE

/-- W in 1/50 ns (R385): HO_WIDEN over the time since the entry to HOLDOVER, kept after it, 0 in UNSYNC. -/
def State.wide50 (s : State) : Nat :=
  if s.guard = guardHoldover then s.rd ETH_SRV_CFG1.HO_WIDEN * (s.ticks - s.eth.hoTick)
  else if s.guard = guardLocked then s.eth.kept50 else 0

/-- What the synthesizer steers toward (R383): the written offset within ±500 ppm from the first write after LOCKED, else
the holdover value. -/
def State.tsTarget (s : State) : Int :=
  if s.guard = guardLocked ∧ s.eth.written then clampInt (-549755813) 549755813 (s.rdS CLK_TS_FREQ.OFFSET)
  else s.eth.holdover

/-! ### Rings, memory errors, metering, ports -/

/-- The record of ring `r`. -/
def State.ring (s : State) (r : Nat) : Ring := tget s.rings r

/-- The ring states of `DMA_RING_STATE.STATE`. -/
def ringIdle : Nat := 0
def ringRun : Nat := 1
def ringPaused : Nat := 2
def ringStopped : Nat := 3

/-- The state of ring `r`. -/
def State.ringState (s : State) (r : Nat) : Nat := s.rd DMA_RING_STATE.STATE r

/-- The service class of a ring (R34): 0 S, 1 C, 2 T, 3 B. -/
def ringClass (r : Nat) : Nat := r / 8 % 4

/-- Word 0 of a log entry. -/
def ErrEntry.word0 (e : ErrEntry) : Nat :=
  2 ^ 31 + e.mem % 8 * 2 ^ 28 + e.kind % 4 * 2 ^ 26 + e.req % 256 * 256 + e.syms % 256

/-- The record of string `k`. -/
def State.str (s : State) (k : Nat) : Str := tget s.strings k

/-- String `k` is in use. -/
def State.strUsed (s : State) (k : Nat) : Bool := s.flag MTR_STR_CFG.USED k

/-- String `k` is in use for the integrators and the record logic, which go on across a warm reset (R339). -/
def State.strMetered (s : State) (k : Nat) : Bool := (s.str k).cfg.used

/-- The record of controller `c`. -/
def State.can (s : State) (c : Nat) : Can := tget s.cans c

/-- The frames of queue `q`. -/
def State.canQueue (s : State) (c q : Nat) : List CanFrame := (s.can c).frames.filter (fun f => decide (f.queue = q))

/-- The record of a port. -/
def State.port (s : State) (p : Nat) : EthPort := tget s.ports p

/-- What a read of `ETH_P_TXTS0[p]` returns (R379). -/
def State.txtsHead (s : State) (p : Nat) : Nat :=
  match (s.port p).stamps with
  | e :: _ => 2 ^ 31 + e.word
  | [] => 0

end Sys2Proof.Machine
end

