-- ==== Sys2Proof/Machine/View.lean ====
section
/-!
DEFINITION. The 32-bit value of every register, without the side effects of a read: fields from their cells, and the
registers that only show other state (maps, counts, pins) computed from it.
-/
namespace Sys2Proof.Machine

/-- The registers of the block window that holds an address (R13). -/
def regsAt (a : Nat) : List Reg :=
  match a / 0x10000 with
  | 0x0 => regsSys | 0x1 => regsClk | 0x2 => regsHfe | 0x3 => regsCnt | 0x4 => regsSop | 0x5 => regsNbl
  | 0x6 => regsChk | 0x7 => regsLks | 0x8 => regsGfe | 0x9 => regsPwm | 0xA => regsPwm | 0xB => regsMtr
  | 0xC => regsMtr | 0xD => regsEth | 0xE => regsDma | 0xF => regsSnp | 0x10 => regsFab
  | _ => []

/-- The register that stands at an address, with its entry. -/
def regAt (a : Nat) : Option (Reg × Nat) := findReg (regsAt a) a

/-- The map word `k` of a predicate over `n` items: bit `i` is item `32 k + i`. -/
def mapOf (f : Nat → Bool) (n k : Nat) : Nat := mapWord (fun i => decide (i < n) && f i) (32 * k) 32

/-! ### Values computed from other state -/

/-- A bit as the value of a one-bit field. -/
def shown (b : Bool) : Option Nat := some (b2n b)

/-- What SYS shows. -/
def State.derivedSys (s : State) (f : Fld) : Option Nat :=
  if f = SYS_MODE.PROOF_RUN then shown (decide (s.mode = .proof) && !s.proof.finished) else none

/-- What CLK shows: the active setting, tick and cycle, and whether the applied offset still moves (R359, R361, R369). -/
def State.derivedClk (s : State) (f : Fld) : Option Nat :=
  if f = CLK_STATUS.MB_SEL then some (s.rd CLK_MB_ACTIVE.SEL)
  else if f = CLK_TICK.CYCLE then some s.cycles
  else if f = CLK_TICK.TICK then some (s.ticks % 50)
  else if f = CLK_TS_STATUS.RAMP then
    shown (s.mode ≠ .dormant && s.mode ≠ .proof && decide (s.rdS CLK_TS_APPLIED.OFFSET ≠ s.tsTarget))
  else if f = CLK_TS_STATUS.HOLDOVER then shown (decide (s.mode = .dormant) || decide (s.mode = .proof))
  else none

/-- The state of a system as Chafer shows it (R127): FAULT, DAMPED or FREE. -/
def State.sysShown (s : State) (q : Nat) : Nat :=
  let hd := s.head (q / 2)
  if !s.sysUsed q then 0 else if s.sysFault q then 2 else if (if q % 2 = 0 then hd.dampA else hd.dampB) then 1 else 0

/-- The pattern of the first phase of an open passage. -/
def Head.entry (hd : Head) : Nat :=
  match hd.passage with
  | some p => match p.phases.getLast? with
    | some ph => ph.pat
    | none => 0
  | none => 0

/-- What Chafer shows of head `h`. -/
def State.derivedHead (s : State) (f : Fld) (h : Nat) : Option Nat :=
  let hd := s.head h
  if f = HFE_CHF_STATE.SYS_A then some (s.sysShown (2 * h))
  else if f = HFE_CHF_STATE.SYS_B then some (s.sysShown (2 * h + 1))
  else if f = HFE_CHF_STATE.STANDING then shown hd.standing
  else if f = HFE_CHF_STATE.ROCKING then
    shown (match hd.passage with
      | some p => decide (s.rd HFE_CHF_CFG0.N_ROCK h ≤ p.reversals)
      | none => false)
  else if f = HFE_CHF_STATE.DRIFT_WARN then
    shown (hd.driftA.exceeds (s.rd HFE_CHF_NOM_A.FREE_NOM h) (s.rd HFE_CHF_NOM_A.DRIFT_LIM h) 1 2
      || hd.driftB.exceeds (s.rd HFE_CHF_NOM_B.FREE_NOM h) (s.rd HFE_CHF_NOM_B.DRIFT_LIM h) 1 2)
  else if f = HFE_CHF_STATE.WAIT_00 then shown hd.waiting
  else if f = HFE_CHF_STATE.PATTERN then some (b2n hd.dampA + 2 * b2n hd.dampB)
  else if f = HFE_CHF_STATE.ENTRY then some hd.entry
  else if f = HFE_CHF_STATE.PASSAGE then shown hd.passage.isSome
  else if f = HFE_CHF_DISC.RUN then shown hd.disc.isSome
  else if f = HFE_CHF_DISC.E_NOW then some (sat 15 (hd.disc.getD 0))
  else none

/-- The converter of system `i` runs at the low rate, if it runs; in the overlap of a switch to full rate it still does. -/
def State.lowRate (s : State) (i : Nat) : Bool :=
  (decide (s.rd HFE_GLB_STATUS.RATE = rateLow) || decide (s.rd HFE_GLB_STATUS.RATE = rateOverlap))
    && (!s.flag FAB_STATUS.LOADED || s.sysUsed i)

/-- What the head front end shows. -/
def State.derivedHfe (s : State) (f : Fld) (i : Nat) : Option Nat :=
  if f = HFE_GLB_STATUS.SCHED then shown s.schedActive
  else if f = HFE_GLB_STATUS.PROOF_TEST then shown s.itemEleven
  else if f = HFE_GLB_STATUS.N_FAULT then some (countUpTo s.sysFault 192)
  else if f = HFE_GLB_STATUS.N_LATE then some (countUpTo (fun q => s.flag HFE_COUNT.LATE q) 192)
  else if f = HFE_GLB_STATUS.N_USED then some (countUpTo (fun h => s.flag HFE_HEAD_CFG.USED h) 96)
  else if f = HFE_TEST_POS.NEXT then some s.testNext
  else if f = HFE_STATUS.LOW_RATE then shown (s.lowRate i)
  else if f = HFE_DAMP_MAP.MAP then some (mapOf (fun q => s.flag HFE_STATUS.CROSSING q) 192 i)
  else if f = HFE_FAULT_MAP.MAP then some (mapOf s.sysFault 192 i)
  else if f = HFE_CANC_MAP.MAP then some (mapOf (fun q => (s.sys q).qualified) 192 i)
  else if f = HFE_REC_CTRL.ARM then shown (s.flag HFE_REC_STATUS.ARMED)
  else if f = HFE_CHF_POST.PENDING then some s.chafer.held.length
  else s.derivedHead f i

/-- Section `x` in use stands in a state (R157). -/
def State.secShown (s : State) (st x : Nat) : Bool := s.secUsed x && decide (s.secState x = st)

/-- What the counting engine shows. -/
def State.derivedCnt (s : State) (f : Fld) (i : Nat) : Option Nat :=
  if f = CNT_GLB_STATUS.N_SEC then some (countUpTo s.secUsed 64)
  else if f = CNT_GLB_STATUS.N_CP then some (countUpTo (fun p => s.flag CNT_CP_CFG.USED p) 128)
  else if f = CNT_GLB_STATUS.RUN then shown s.countingRuns
  else if f = CNT_GLB_STATUS.FROZEN then shown (s.mode = .hold)
  else if f = CNT_CLEAR_MAP.MAP then some (mapOf (s.secShown secClear) 64 i)
  else if f = CNT_OCC_MAP.MAP then some (mapOf (s.secShown secOccupied) 64 i)
  else if f = CNT_DIST_MAP.MAP then some (mapOf (s.secShown secDisturbed) 64 i)
  else if f = CNT_PREP_MAP.MAP then some (mapOf (s.secShown secPrepared) 64 i)
  else none

/-- What the safety outputs show (R232, R235); the latch map shows channels in use. -/
def State.derivedSop (s : State) (f : Fld) (i : Nat) : Option Nat :=
  let used := fun o => s.chanUsed o
  if f = SOP_GLB_STATUS.N_USED then some (countUpTo used 72)
  else if f = SOP_GLB_STATUS.N_ON then some (countUpTo s.energised 72)
  else if f = SOP_GLB_STATUS.N_LOCKED then some (countUpTo s.locked 72)
  else if f = SOP_ON_MAP.MAP then some (mapOf s.energised 72 i)
  else if f = SOP_LATCH_MAP.MAP then some (mapOf (fun o => used o && s.flag SOP_CH_STATE.LATCH o) 72 i)
  else if f = SOP_LOCK_MAP.MAP then some (mapOf s.locked 72 i)
  else if f = SOP_SAFE.ASSERTED then shown s.safeAsserted
  else if f = SOP_SAFE.NOT_JOINED then shown (!s.joined)
  else if f = SOP_SAFE.NOT_SERVICE then shown (s.mode ≠ .service)
  else if f = SOP_SAFE.MDLL_A then shown (!s.mdllA)
  else if f = SOP_SAFE.LOCKED then shown s.anyLocked
  else if f = SOP_CH_STATE.COND then some (s.chanCond i)
  else if f = SOP_CH_STATE.CMD then shown (s.gateCommand i)
  else if f = SOP_CH_STATE.SOH then shown (s.soh i)
  else if f = SOP_CH_STATE.SOL then shown (s.sol i)
  else none

/-- What the links' summary shows. -/
def State.derivedNbl (s : State) (f : Fld) : Option Nat :=
  if f = NBL_GLB_STATUS.USED then some (mapOf s.linkUsed 4 0)
  else if f = NBL_GLB_STATUS.UP then some (mapOf s.linkIsUp 4 0)
  else if f = NBL_GLB_STATUS.LOST then some (mapOf (fun l => decide (s.linkState l = linkLost)) 4 0)
  else if f = NBL_GLB_STATUS.ESTAB then some (mapOf (fun l => decide (s.linkState l = linkEstablishing)) 4 0)
  else if f = NBL_GLB_STATUS.LOOP_FAIL then some (mapOf (fun l => s.flag NBL_STATE.LOOP_FAIL l) 4 0)
  else none

/-- What the check unit shows: DONE is live while a scan runs (R265). -/
def State.derivedChk (s : State) (f : Fld) (i : Nat) : Option Nat :=
  if f = CHK_STATUS.A_SUSP then shown (s.scan 1).suspended
  else if f = CHK_STATUS.A_RUN then shown ((s.scan 1).running && !(s.scan 1).suspended)
  else if f = CHK_STATUS.S_OWNER then shown s.bankSOwned
  else if f = CHK_STATUS.S_RUN then shown (s.scan 0).running
  else if f = CHK_x_DONE.DONE ∧ (s.scan i).running then some (s.scan i).live
  else none

/-- What Leaven and the bridges show. -/
def State.derivedPower (s : State) (f : Fld) (i : Nat) : Option Nat :=
  if f = GFE_BRIDGES.N_AVAIL then some (countUpTo s.avail 12)
  else if f = GFE_FF_STATUS.N_ACTIVE then some s.leaven.reservations.length
  else if f = GFE_COUNT.N_AUTO then
    some (s.leaven.autoTicks.filter (fun t => decide (s.ticks < t + 30000000))).length
  else if f = PWM_GLB_STATUS.N_LEG then some (countUpTo s.legUsed 36)
  else if f = PWM_GLB_STATUS.N_BR then some (countUpTo s.bridgeUsed 12)
  else if f = PWM_GLB_STATUS.MODE_OFF then shown (!s.pwmMode)
  else if f = PWM_GLB_STATUS.MDLL_A then shown (!s.mdllA)
  else if f = PWM_GLB_STATUS.TRIPPED then some (mapOf s.tripped 12 0)
  else if f = PWM_BR_STATUS.GATES then shown (s.bridgeGates i)
  else if f = PWM_LEG_STATE.H then shown (s.legH i)
  else if f = PWM_LEG_STATE.L then shown (s.legL i)
  else if f = PWM_LEG_STATE.S then shown (s.legS i)
  else if f = PMA_GLB_STATUS.N_USED then some (countUpTo (fun c => s.flag PMA_CH_CFG.USED c) 48)
  else if f = PMA_GLB_STATUS.N_FAIL then some (countUpTo (fun c => s.flag PMA_CH_STATUS.FAILED c) 48)
  else none

/-- The head of a queue of words as the field `f` of its read register shows it. -/
def fieldOf (f : Fld) (w : Nat) : Option Nat := some (bits w f.lo f.width)

/-- What metering and the CAN controllers show; the counters in whole microwatt-hours (R332). -/
def State.derivedMtr (s : State) (f : Fld) (i : Nat) : Option Nat :=
  if f = MTR_GLB_STATUS.N_USED then some (countUpTo s.strUsed 32)
  else if f = MTR_GLB_STATUS.N_UNMETERED then some (countUpTo (fun k => s.flag MTR_STR_STATUS.UNMETERED k) 32)
  else if f = MTR_GLB_STATUS.INTEGRATING then shown (s.meter.integrating && decide (s.mode ≠ .dormant))
  else if f = MTR_STR_EDIS_LO.E then some (bits (s.str i).eDis 32 32)
  else if f = MTR_STR_ECHG_LO.E then some (bits (s.str i).eChg 32 32)
  else if f = CAN_QSTAT.Q0 then some (s.canQueue i 0).length
  else if f = CAN_QSTAT.Q1 then some (s.canQueue i 1).length
  else if f = CAN_QSTAT.Q2 then some (s.canQueue i 2).length
  else if f = CAN_QSTAT.Q3 then some (s.canQueue i 3).length
  else if f.base = CAN_TX_DONE.TAG.base then fieldOf f ((s.can i).done.headD 0)
  else if f = CAN_TX_FIFO_STAT.EMPTY then shown (s.can i).done.isEmpty
  else if f = CAN_TX_FIFO_STAT.LEVEL then some (s.can i).done.length
  else none

/-- What the Ethernet block shows. -/
def State.derivedEth (s : State) (f : Fld) (i : Nat) : Option Nat :=
  if f = ETH_SRV_STATUS.WIDE then shown (decide (0 < s.wide50))
  else if f.base = ETH_P_TXTS0.PRESENT.base then fieldOf f (s.txtsHead i)
  else if f = ETH_P_TXTS_STAT.EMPTY then shown (s.port i).stamps.isEmpty
  else if f = ETH_P_TXTS_STAT.LEVEL then some (s.port i).stamps.length
  else none

/-- What DMA, the IOMMU and the memory-error log show. Where the DRAM can be scrubbed, whether a pass runs just now is open. -/
def State.derivedDma (s : State) (f : Fld) (i : Nat) : Option Nat :=
  if f = DMA_RUN_MAP.MAP then some (mapOf (fun r => decide (s.ringState r = ringRun)) 32 0)
  else if f = DMA_PAUSE_MAP.MAP then some (mapOf (fun r => decide (s.ringState r = ringPaused)) 32 0)
  else if f = DMA_MEM_CFG.SCRUB_RUN then
    shown (s.mdllB && decide (s.mode ≠ .proof) && decide (s.mode ≠ .dormant) && decide (s.freeVal 1 = 1))
  else if f = DMA_ERR_LOG_STAT.EMPTY then shown s.errLog.isEmpty
  else if f = DMA_ERR_LOG_STAT.LEVEL then some s.errLog.length
  else if f.base = DMA_ERR_LOG0.PRESENT.base then fieldOf f ((s.errLog.head?.map ErrEntry.word0).getD 0)
  else if f = DMA_IOMMU_STAT.N_VALID then some s.tlb.length
  else if f = DMA_RING_CFG.CLASS then some (ringClass i)
  else none

/-- What the fabric shows of its slices. -/
def State.derivedFab (s : State) (f : Fld) : Option Nat :=
  if f = FAB_STATUS.N_SAFE then some (countUpTo (fun k => decide (s.rd FAB_SLICE_STATE.SIDE k = 1)) 128)
  else if f = FAB_STATUS.N_CTRL then some (countUpTo (fun k => decide (s.rd FAB_SLICE_STATE.SIDE k = 2)) 128)
  else if f = FAB_STATUS.N_FAULT then some (countUpTo (fun k => decide (s.rd FAB_SLICE_STATE.FAULT k ≠ 0)) 128)
  else none

/-- The fields that show other state, with what they show. -/
def State.derived (s : State) (f : Fld) (i : Nat) : Option Nat :=
  match f.base / 0x10000 with
  | 0x0 => s.derivedSys f
  | 0x1 => s.derivedClk f
  | 0x2 => s.derivedHfe f i
  | 0x3 => s.derivedCnt f i
  | 0x4 => s.derivedSop f i
  | 0x5 => s.derivedNbl f
  | 0x6 => s.derivedChk f i
  | 0x8 => s.derivedPower f i
  | 0x9 => s.derivedPower f i
  | 0xA => s.derivedPower f i
  | 0xB => s.derivedMtr f i
  | 0xC => s.derivedMtr f i
  | 0xD => s.derivedEth f i
  | 0xE => s.derivedDma f i
  | 0xF => if f = SNP_DATA.DATA then some (ofBytesLE (slice s.snap.image (4 * i) 4)) else none
  | 0x10 => s.derivedFab f
  | _ => none

/-- What a field shows: the value computed for it, or its cell. A write-only field shows 0 (R11). -/
def State.value (s : State) (f : Fld) (i : Nat) : Nat :=
  if f.acc = .wo then 0 else (s.derived f i).getD (s.rd f i)

/-- The fields of a register put together. -/
def State.fieldsWord (s : State) (i : Nat) : List Fld → Nat
  | [] => 0
  | f :: fs => s.value f i % 2 ^ f.width * 2 ^ f.lo + s.fieldsWord i fs

/-- The 32-bit value of a register's entry. -/
def State.regWord (s : State) (r : Reg) (i : Nat) : Nat := s.fieldsWord i r.fields

/-- The 32-bit value of the register at an address, 0 where none stands there. -/
def State.word (s : State) (a : Nat) : Nat :=
  match regAt a with
  | some (r, i) => s.regWord r i
  | none => 0

/-- The four bytes of a register's entry (R437: stored little-endian). -/
def State.regBytes (s : State) (r : Reg) (i : Nat := 0) : List Nat := toBytesLE 4 (s.regWord r i)

/-- The bytes of the first `n` entries of registers that stand side by side in a layout, entry by entry. -/
def State.groupBytes (s : State) (rs : List Reg) (n : Nat) : List Nat :=
  (List.range n).flatMap (fun i => rs.flatMap (fun r => s.regBytes r i))

/-- The bytes of single registers in order. -/
def State.seqBytes (s : State) (rs : List Reg) : List Nat := rs.flatMap (fun r => s.regBytes r 0)

/-- Pieces at rising offsets laid out into an image of a given size; the gaps read 0. -/
def assemble : Nat → List (Nat × List Nat) → Nat → List Nat
  | pos, [], size => List.replicate (size - pos) 0
  | pos, (off, bs) :: ps, size => List.replicate (off - pos) 0 ++ bs ++ assemble (off + bs.length) ps size

/-- An image with its check value in the last four bytes (R256). -/
def sealed (bs : List Nat) : List Nat := bs ++ toBytesLE 4 (crc32c bs)

end Sys2Proof.Machine
end

