-- ==== Sys2Proof/Machine/Snap.lean ====
section
/-!
DEFINITION. Crumb (R439 to R443): triggers, the latch with its layout, the lock, the missed-trigger record.
-/
namespace Sys2Proof.Machine

/-- The sources of R439. -/
inductive SnapSource where
  | fault | split | pin | time | host | firmware
  deriving DecidableEq, Repr, Inhabited

/-- The code of a source (R439). -/
def SnapSource.code : SnapSource → Nat
  | .fault => 4 | .split => 5 | .pin => 1 | .time => 2 | .host => 3 | .firmware => 6

/-- The place of a source code in the order of R439's table: the first decides a merged latch. -/
def snapRank (code : Nat) : Nat :=
  if code = 4 then 0 else if code = 5 then 1 else if code = 1 then 2 else if code = 2 then 3 else if code = 3 then 4 else 5

/-! ### The recorder's trigger (R123) -/

/-- The decimation D of `HFE_REC_CTRL.DECIM` (R122). -/
def State.recD (s : State) : Nat :=
  match s.rd HFE_REC_CTRL.DECIM with
  | 0 => 1 | 1 => 2 | 2 => 5 | 3 => 10 | 4 => 25 | _ => 50

/-- The recorder freezes. -/
def recFreeze (s : State) : State :=
  ((s.wrFlag HFE_REC_STATUS.FROZEN true).wrFlag HFE_REC_STATUS.ARMED false).wrFlag HFE_REC_STATUS.POST_RUN false

/-- The frame of the block under way, or about to begin, that holds the present tick. -/
def State.recFrameNow (s : State) : Nat :=
  if s.recorder.started then min ((s.ticks - s.recorder.startTick) / s.recD) 49 else 0

/-- `n` blocks are still to be written before the freeze. -/
def recPost (n : Nat) (trigger : Option Nat) (s : State) : State :=
  if n = 0 then recFreeze s
  else { (s.wrFlag HFE_REC_STATUS.POST_RUN true) with recorder := { s.recorder with trigger := trigger, postLeft := n } }

/-- A Crumb trigger reaches the recorder (R123): it marks the frame and starts the post-trigger blocks, unless the recorder is
not armed, is frozen, or already writes post-trigger blocks. At the low rate there is no frame to mark; that a recorder which is not
enabled ignores the trigger is the model's choice (log 83). -/
def recTrigger (s : State) : State :=
  if s.flag HFE_REC_STATUS.ARMED && s.flag HFE_REC_CTRL.ENABLE && !s.flag HFE_REC_STATUS.FROZEN && decide (s.recorder.postLeft = 0) then
    if s.rd HFE_GLB_STATUS.RATE < rateFull then recPost (s.rd HFE_REC_CTRL.POST) none s
    else recPost (s.rd HFE_REC_CTRL.POST + 1) (some s.recFrameNow) s
  else s

/-! ### The layout (R443) -/

/-- The registers of head `h` in the layout: A and B of the front end, then Chafer's. -/
def State.headBytes (s : State) (h : Nat) : List Nat :=
  s.regBytes HFE_STATUS.reg (2 * h) ++ s.regBytes HFE_STATUS.reg (2 * h + 1) ++ s.regBytes HFE_SAMPLE.reg (2 * h)
    ++ s.regBytes HFE_SAMPLE.reg (2 * h + 1) ++ s.regBytes HFE_CHF_STATE.reg h ++ s.regBytes HFE_CHF_DISC.reg h

/-- The 32 header bytes. -/
def State.snapHeader (s : State) (src code block : Nat) (locked merged : Bool) : List Nat :=
  toBytesLE 2 (s.rd SNP_STATUS.GEN) ++ [src, b2n locked + 2 * b2n merged] ++ timeBytes s.timeNs ++ [code, block]
    ++ toBytesLE 4 (s.rd HFE_REC_SEQ_LO.SEQ) ++ toBytesLE 2 (s.rd SNP_MISSED.COUNT)
    ++ [s.rd SYS_MODE.CUR, s.rd ETH_SRV_STATUS.STATE * 64 + s.rd ETH_SRV_STATUS.ACQUIRED * 32] ++ List.replicate 8 0

/-- Everything before CHECK at one instant. -/
def State.snapBody (s : State) (header : List Nat) : List Nat :=
  assemble 0
    [(0x0000, header),
     (0x0020, s.seqBytes [SYS_MODE.reg, SYS_CAUSE_HOLD0.reg, SYS_CAUSE_HOLD1.reg, SYS_CAUSE_HOLD2.reg, SYS_CAUSE_HOLD3.reg,
        SYS_CAUSE_LAST0.reg, SYS_CAUSE_LAST1.reg, SYS_CAUSE_LAST2.reg, SYS_CAUSE_LAST3.reg, SYS_PROOF.reg]),
     (0x0050, s.seqBytes [CLK_STATUS.reg, CLK_MON.reg, CLK_TICK.reg, CLK_TS_APPLIED.reg]),
     (0x0060, s.seqBytes [LKS_STATUS.reg, LKS_FAULT0.reg, LKS_FAULT1.reg, LKS_FAULT2.reg, LKS_FAULT3.reg, LKS_FAULT4.reg]),
     (0x0080, s.seqBytes [CHK_STATUS.reg, DMA_ERR_LOG_STAT.reg, PWM_GLB_STATUS.reg]),
     (0x0090, s.seqBytes [GFE_STATUS.reg, GFE_BRIDGES.reg, GFE_MEAS0.reg, GFE_MEAS1.reg, GFE_MEAS2.reg, GFE_MEAS3.reg,
        GFE_FF_STATUS.reg, GFE_PHASE_T0.reg, GFE_PHASE_T1.reg, GFE_PHASE_T2.reg]),
     (0x00C0, s.seqBytes [ETH_SRV_STATUS.reg, ETH_SRV_OFFSET0.reg, ETH_SRV_OFFSET1.reg, ETH_SRV_OFFSET2.reg]
        ++ s.groupBytes [ETH_P_TXTS_STAT.reg] 3),
     (0x00E0, s.groupBytes [NBL_STATE.reg, NBL_SEQ.reg, NBL_LAST_REJ.reg] 4),
     (0x0110, s.groupBytes [CAN_STATUS.reg, CAN_QSTAT.reg] 8),
     (0x0150, s.seqBytes [FAB_STATUS.reg, FAB_SEAL.reg, FAB_CRUST.reg]),
     (0x0160, s.groupBytes [SOP_ON_MAP.reg] 3 ++ s.groupBytes [SOP_LATCH_MAP.reg] 3 ++ s.groupBytes [SOP_LOCK_MAP.reg] 3
        ++ s.seqBytes [SOP_SAFE.reg]),
     (0x0190, s.groupBytes [PWM_BR_STATUS.reg] 12),
     (0x01C0, s.groupBytes [HFE_RRC_SAMPLE.reg] 8 ++ s.seqBytes [CNT_CYCLE.reg]),
     (0x0200, s.groupBytes [SOP_CH_STATE.reg] 72),
     (0x0320, s.groupBytes [PWM_LEG_STATE.reg] 36),
     (0x0400, s.groupBytes [PMA_CH_SAMPLE.reg, PMA_CH_STATUS.reg] 48),
     (0x0580, s.groupBytes [MTR_STR_V.reg, MTR_STR_I.reg, MTR_STR_STATUS.reg] 32),
     (0x0700, s.groupBytes [DMA_RING_STATE.reg, DMA_RING_HEAD.reg, DMA_RING_TAIL.reg] 32),
     (0x0880, s.groupBytes [FAB_SLICE_STATE.reg] 128),
     (0x0A80, s.groupBytes [CNT_CP_STATE.reg] 128),
     (0x0C80, s.groupBytes [CNT_SEC_STATE.reg, CNT_SEC_TALLY.reg, CNT_SEC_PEER.reg] 64),
     (0x1000, (List.range 96).flatMap s.headBytes)]
    0x1FFC

/-! ### Triggers (R439 to R442) -/

/-- One latch (R440): GEN advances, every listed register is copied, CHECK is written, VALID is 1, vector 1 is raised. -/
def snapLatch (src code block : Nat) (merged : Bool) (s : State) : State :=
  let lock := decide (src = 4) || decide (src = 5) || s.flag SNP_CFG.AUTO_LOCK
  let s := ((s.inc SNP_STATUS.GEN).wrFlag SNP_STATUS.LOCKED lock).wr SNP_STATUS.SOURCE src
  let image := sealed (s.snapBody (s.snapHeader src code block lock merged))
  irq 1 { (s.wrFlag SNP_STATUS.VALID true).nextFree with snap := { s.snap with image := image, reading := false } }

/-- A trigger that does not latch (R441): counted, and the first is recorded with its time. -/
def snapMissed (src : Nat) (s : State) : State :=
  let s := s.when (s.rd SNP_MISSED.COUNT = 0) (fun s =>
    (s.wr SNP_MISSED.FIRST_SRC src).wrTime SNP_MISSED_T0.NS SNP_MISSED_T1.SEC_LO SNP_MISSED_T2.SEC_HI s.timeNs)
  irq 1 (s.count SNP_MISSED.COUNT)

/-- A trigger that falls in the clock period of a latch already taken joins it: the header shows merged triggers, and the
source that comes first in R439's table. -/
def snapMerge (first src code block : Nat) (s : State) : State :=
  let win := decide (snapRank src < snapRank first)
  let img := s.snap.image
  let hdr := slice img 0 32
  let src' := if win then src else first
  let lock := s.flag SNP_STATUS.LOCKED || decide (src' = 4) || decide (src' = 5)
  let hdr := hdr.take 2 ++ [src', b2n lock + 2] ++ slice hdr 4 10
    ++ (if win then [code, block] else slice hdr 14 2) ++ hdr.drop 16
  let s := (s.wr SNP_STATUS.SOURCE src').wrFlag SNP_STATUS.LOCKED lock
  { s with snap := { s.snap with image := sealed (hdr ++ slice img 32 0x1FDC), latchedNow := some src' } }

/-- A Crumb trigger with a source code of R439, and for FAULT the cause code and block (0 otherwise). It reaches the
recorder whatever becomes of it (R440). Dormant stops the snapshot system (R442). -/
def crumb (src code block : Nat) (s : State) : State :=
  let s := recTrigger s
  if s.mode = .dormant then snapMissed src s
  else
    match s.snap.latchedNow with
    | some first => snapMerge first src code block s
    | none =>
      if s.flag SNP_STATUS.LOCKED then snapMissed src s
      else
        let s := snapLatch src code block false s
        if s.modes.boundary then { s with snap := { s.snap with latchedNow := some src } } else s

/-- A word of the snapshot memory is read: a readout is in progress until its last word has been read (R70, log 29). -/
def snapRead (i : Nat) (s : State) : State := { s with snap := { s.snap with reading := decide (i ≠ 2047) } }

/-- UNLOCK (R441): LOCKED, the missed count and the missed record are cleared, and a readout is over. -/
def snapUnlock (s : State) : State :=
  ((({ s with snap := { s.snap with reading := false } }.wrFlag SNP_STATUS.LOCKED false).wr SNP_MISSED.COUNT 0).wr SNP_MISSED.FIRST_SRC 0).wrTime SNP_MISSED_T0.NS
    SNP_MISSED_T1.SEC_LO SNP_MISSED_T2.SEC_HI 0

/-- The armed match is cleared: it fired, was disarmed, a reset came, or Dormant was entered (R442). -/
def snapDisarm (s : State) : State :=
  { (s.wrFlag SNP_STATUS.ARMED false) with snap := { s.snap with armedAt := none } }

/-- A time match armed for an instant: refused where it is not later than the time base, busy where one is armed (R442). -/
inductive ArmResult where
  | armed | range | busy
  deriving DecidableEq, Repr

/-- What arming at a time gives. -/
def State.armResult (s : State) (t : Nat) : ArmResult :=
  if s.flag SNP_STATUS.ARMED then .busy else if t ≤ s.timeNs then .range else .armed

/-- Arming at a time. -/
def snapArm (t : Nat) (s : State) : State :=
  if s.armResult t = .armed then { (s.wrFlag SNP_STATUS.ARMED true) with snap := { s.snap with armedAt := some t } } else s

/-- The time base reaches the armed time: one trigger with source TIME. -/
def snapTimeMatch (s : State) : State :=
  match s.snap.armedAt with
  | some t => if t ≤ s.timeNs then crumb 2 0 0 (snapDisarm s) else s
  | none => s

/-- The word of the snapshot memory at `SNP_DATA[i]`. -/
def State.snapWord (s : State) (i : Nat) : Nat := ofBytesLE (slice s.snap.image (4 * i) 4)

end Sys2Proof.Machine
end

