-- ==== Sys2Proof/Machine/SopTests.lean ====
section
/-!
DEFINITION. The output tests of a channel: how one ends, how one is abandoned, and how a fault locks (R224 to R230).
-/
namespace Sys2Proof.Machine

/-- A test runs on channel `o`. -/
def State.testing (s : State) (o : Nat) : Bool := decide ((s.chan o).test ≠ .none)

/-- The kind code of a running test in `SOP_CH_TEST.KIND`. -/
def OutTestKind.code : OutTestKind → Nat
  | .none => 0 | .pulseH => 1 | .pulseL => 2 | .stepH => 3 | .gap => 3 | .stepL => 3 | .abandon => 3
  | .check => 4 | .itemH => 4 | .itemL => 4

/-- The levels of channel `o`'s gates, and the first tick not before their last change, are noted. -/
def noteGatesAt (tick o : Nat) (s : State) : State :=
  let h := s.soh o
  let l := s.sol o
  s.when (decide ((s.chan o).lastH ≠ h) || decide ((s.chan o).lastL ≠ l)) (fun s =>
    s.modChan o (fun c => { c with lastH := h, lastL := l, gateTick := tick }))

/-- The gates change between two ticks: T_RB is counted from the later one, so that no row comes before it has passed (R219). -/
def noteGates (o : Nat) (s : State) : State := noteGatesAt (s.ticks + 1) o s

/-- A term of R23 that is false in a running OFF pulse breaks it: neither gate comes back before the pulse's end (R229). -/
def breakPulse (o : Nat) (s : State) : State :=
  s.when ((decide ((s.chan o).test = .pulseH) || decide ((s.chan o).test = .pulseL)) && !s.baseTerm o) (fun s =>
    s.modChan o (fun c => { c with broken := true }))

/-- Every channel's terms as they stand now. -/
def breakPulses (s : State) : State := s.upTo breakPulse 72

/-- A Proof ends: lateness is judged from here (R225). -/
def sopProofEnd (o : Nat) (s : State) : State := s.modChan o (fun c => { c with lastTest := s.cycles })

/-- A loaf is loaded: what it declares unused stays so until the next reset (R217). -/
def barUnused (o : Nat) (s : State) : State :=
  s.when (!s.flag SOP_CH_CFG.USED o) (fun s => s.modChan o (fun c => { c with barred := true }))

/-- A test of channel `o` is finished with a result (`SOP_CH_TEST`), and its test path is released to `next`. -/
def outTestFinish (o kind result : Nat) (next : OutTestKind) (s : State) : State :=
  noteGates o (((((s.inc SOP_CH_TEST.GEN o).wrFlag SOP_CH_TEST.VALID true o).wr SOP_CH_TEST.KIND kind o).wr SOP_CH_TEST.RESULT
    result o).modChan o (fun c => { c with test := next, testTick := s.ticks, broken := false }))

/-- A test counts as completed: TEST_LATE clears and its time starts again (R225). -/
def outTestCompleted (o : Nat) (s : State) : State :=
  (s.wrFlag SOP_CH_STATE.TEST_LATE false o).modChan o (fun c => { c with lastTest := s.cycles })

/-- A split-switch test that could not run waits at the tail of the queue; no channel waits twice (R225). -/
def deferSplitTest (o : Nat) (s : State) : State :=
  if s.outputs.deferred.contains o then s
  else { s with outputs := { s.outputs with deferred := s.outputs.deferred ++ [o] } }

/-- The running test of channel `o`, if one runs, ends ABANDONED: an abandoned split-switch test rejoins the queue
(R225), and goes through the abandon sequence where a demand to energise ended it (R229). A run of item 10 that is abandoned leaves the
item where it stands: it goes on no more in this Proof. -/
def outTestAbandon (demand : Bool) (o : Nat) (s : State) : State :=
  match (s.chan o).test with
  | .none => s
  | .abandon => if demand then s else s.modChan o (fun c => { c with test := .none, abandonTicks := 0 })
  | .pulseH => (outTestFinish o 1 0xE .none s).count SOP_CH_CNT.ABANDON o
  | .pulseL => (outTestFinish o 2 0xE .none s).count SOP_CH_CNT.ABANDON o
  | .check => (outTestFinish o 4 0xE .none s).count SOP_CH_CNT.ABANDON o
  | .itemH => (outTestFinish o 4 0xE .none s).count SOP_CH_CNT.ABANDON o
  | .itemL => (outTestFinish o 4 0xE .none s).count SOP_CH_CNT.ABANDON o
  | _ =>
    deferSplitTest o (((outTestFinish o 3 0xE (if demand then .abandon else .none) s).count SOP_CH_CNT.ABANDON o).modChan o
      (fun c => { c with abandonTicks := if demand then 3 else 0 }))

/-- A Hold cause, a lockstep fault or the loss of MDLL-A qualification ends every running test ABANDONED (R229). -/
def abandonAllTests (s : State) : State := s.upTo (outTestAbandon false) 72

/-- A fault code found on channel `o` locks it (R230): the lowest code is shown, and vector 10 is raised when the channel
was not locked. A channel that is not in use is not checked (R217). -/
def lockChannel (o code : Nat) (s : State) : State :=
  if !s.chanUsed o || code = 0 then s
  else
    let m := setBit (s.chan o).faults (code - 1) true
    let s' := (s.modChan o (fun c => { c with faults := m, splitPassed := false })).wr SOP_CH_STATE.FAULT (lowestFault m) o
    s'.when (!s.locked o) (irq 10)

end Sys2Proof.Machine
end

