-- ==== Sys2Proof/Machine/Causes.lean ====
section
/-!
DEFINITION. Recording a cause, and raising a Hold cause (R44, R46, R47, R66, R75).
-/
namespace Sys2Proof.Machine

/-- The four words of a cause record (R75). -/
def writeCauseRecord (w0valid w0mode w0index w0block w0code w1 w2 w3 : Fld) (c : Cause) (s : State) : State :=
  (((((s.wrFlag w0valid true).wr w0mode s.mode.code).wr w0index c.index).wr w0block c.block).wr w0code c.code).wrTime
    w1 w2 w3 s.timeNs

/-- The `SYS_CAUSE_LAST` record. -/
def writeLast : Cause → State → State :=
  writeCauseRecord SYS_CAUSE_LAST0.VALID SYS_CAUSE_LAST0.MODE SYS_CAUSE_LAST0.INDEX SYS_CAUSE_LAST0.BLOCK
    SYS_CAUSE_LAST0.CODE SYS_CAUSE_LAST1.NS SYS_CAUSE_LAST2.SEC_LO SYS_CAUSE_LAST3.SEC_HI

/-- The `SYS_CAUSE_HOLD` record. -/
def writeHold : Cause → State → State :=
  writeCauseRecord SYS_CAUSE_HOLD0.VALID SYS_CAUSE_HOLD0.MODE SYS_CAUSE_HOLD0.INDEX SYS_CAUSE_HOLD0.BLOCK
    SYS_CAUSE_HOLD0.CODE SYS_CAUSE_HOLD1.NS SYS_CAUSE_HOLD2.SEC_LO SYS_CAUSE_HOLD3.SEC_HI

/-- A cause's bit in `SYS_CAUSE_SET0` or `SYS_CAUSE_SET1`. -/
def setCauseBit (code : Nat) (s : State) : State :=
  s.wr SYS_CAUSE_SET.SET (setBit (s.rd SYS_CAUSE_SET.SET (code / 32)) (code % 32) true) (code / 32)

/-- Within one cycle boundary's clock period the record keeps the lowest code (R75). -/
def State.lastStands (s : State) (code : Nat) : Bool :=
  s.modes.boundary && (match s.modes.lastCode with
    | some k => decide (k < code)
    | none => false)

/-- A cause is recorded: in `SYS_CAUSE_LAST` and `SYS_CAUSE_SET` (R47, R75). -/
def recordCause (c : Cause) (s : State) : State :=
  let s := setCauseBit c.code s
  if s.lastStands c.code then s
  else
    let s := writeLast c s
    { s with modes := { s.modes with lastCode := if s.modes.boundary then some c.code else none } }

/-- The Hold cause that decides is noted, and its record is latched (R44, R66). -/
def noteHold (c : Cause) (s : State) : State :=
  let s := writeHold c s
  { s with modes := { s.modes with raised := [⟨c, s.modes.boundary⟩] } }

/-- A Hold cause in Hold is recorded only (R47); one that arises between boundaries wins over the requests that wait (R46, R201). -/
def noteInHold (s : State) : State := { s with modes := { s.modes with holdCause := s.modes.holdCause || !s.modes.boundary } }

/-- A Hold cause outside the reset sequence (R44, R47, R75): recorded; outside Hold the first one stands until the next cycle boundary
changes the mode, and the mode term of the gates is false from now on. Every running output test ends ABANDONED (R229). In Hold it is
recorded only. -/
def holdCause (c : Cause) (s : State) : State :=
  let s := abandonAllTests (recordCause c s)
  if s.mode = .hold then noteInHold s
  else
    match s.modes.raised with
    | [] => noteHold c s
    | r :: _ => if s.modes.boundary && r.fresh && decide (c.code < r.cause.code) then noteHold c s else s

/-- A Hold cause is raised: it also triggers Crumb with source FAULT (R439). In the reset sequence there is no mode to leave. -/
def raiseHold (c : Cause) (s : State) : State :=
  if s.mode = .resetSeq then s else crumb 4 c.code c.block (holdCause c s)

/-- A cause that fails Proof (R54, R56): recorded; the Hold record holds the failure of lowest code, unless a Hold cause that
acts at once has been raised and holds it (R44, R66). -/
def proofFailure (c : Cause) (s : State) : State :=
  let first := s.modes.raised.isEmpty && s.proof.failures.all (fun d => decide (c.code < d.code))
  let s := crumb 4 c.code c.block (recordCause c s)
  let s := s.when first (writeHold c)
  { s with proof := { s.proof with failures := c :: s.proof.failures } }

/-- An event other than a cause that `SNP_CFG` makes a FAULT trigger (R439); its block is the window of a register of that block. -/
def crumbEvent (enable : Fld) (of : Reg) (s : State) : State := s.when (s.flag enable) (crumb 4 0 (of.base / 65536))

end Sys2Proof.Machine
end

