-- ==== Sys2Proof/Machine/Wake.lean ====
section
/-!
DEFINITION. Waking from Dormant (R73): the sources, their enables, and what a wake event records.
-/
namespace Sys2Proof.Machine

/-- The codes of `SYS_MODE.WAKE`. -/
def wakeDamping : Nat := 1
def wakeLink : Nat := 2
def wakeService : Nat := 3
def wakePcie : Nat := 4
def wakeTimer : Nat := 5
def wakeTProof : Nat := 6
def wakeClock : Nat := 7

/-- Some section is mapped to an output: then the damping source cannot be disabled (R73). -/
def State.sectionMapped (s : State) : Bool := anyUpTo (fun o => s.flag SOP_CH_CFG.USED o) 64

/-- Whether `SYS_DORMANT_CFG` enables a wake source; the clock monitor always acts (R73). -/
def State.wakeEnabled (s : State) (src : Nat) : Bool :=
  match src with
  | 1 => s.flag SYS_DORMANT_CFG.EN_DAMP || s.sectionMapped
  | 2 => s.flag SYS_DORMANT_CFG.EN_LINK
  | 3 => s.flag SYS_DORMANT_CFG.EN_SV
  | 4 => s.flag SYS_DORMANT_CFG.EN_PCIE
  | 5 => s.flag SYS_DORMANT_CFG.EN_TIMER && decide (s.rd SYS_DORMANT_CFG.TIMER ≠ 0)
  | 6 => s.flag SYS_DORMANT_CFG.EN_PROOF
  | 7 => true
  | _ => false

/-- A wake event in Dormant from an enabled source: the first one is recorded, and the clocks restart (R73, R74). Proof
follows in the first cycle of Recovery when T_proof woke the device (R61). -/
def wakeEvent (src : Nat) (s : State) : State :=
  if s.mode = .dormant ∧ !s.modes.waking ∧ s.wakeEnabled src then
    { (s.wr SYS_MODE.WAKE src) with modes :=
      { s.modes with waking := true, wakeProof := s.modes.wakeProof || decide (src = wakeTProof) } }
  else s

end Sys2Proof.Machine
end

