-- ==== Sys2Proof/Machine/HfeSys.lean ====
section
/-!
DEFINITION. Sensor systems (04_head_front_end.md): rates, faults, the comparator, crossings, the open and over-range watch.
System A of head h is q = 2h, system B is q = 2h + 1.
-/
namespace Sys2Proof.Machine

/-- The record of system `q` changed. -/
def State.modSys (s : State) (q : Nat) (f : SysRec → SysRec) : State := { s with systems := tmod s.systems q f }

/-- The converter of system `q` runs: the rate is not stopped, and no loaded loaf declares its head unused (R466). -/
def State.converts (s : State) (q : Nat) : Bool :=
  decide (s.rd HFE_GLB_STATUS.RATE ≠ rateStopped) && (!s.flag FAB_STATUS.LOADED || s.sysUsed q)

/-- A sample of the given rate can be delivered now (R101, R102): a low-rate window ends at a tick whose number is a multiple
of 25, and needs the RC oscillator (R365). -/
def State.rateAdmits (s : State) (low : Bool) : Bool :=
  let r := s.rd HFE_GLB_STATUS.RATE
  (decide (r = rateOverlap) || (if low then decide (r = rateLow) else decide (r = rateFull)))
    && (!low || (decide (s.ticks % 25 = 0) && !s.clk.rcStopped))

/-- Item 5 of Proof has loaded a loaf: the watch, the stall detection and the tests act from then on (R466). -/
def State.loafLoaded (s : State) : Bool := s.flag FAB_STATUS.LOADED

/-! ### Faults (R115) -/

/-- The codes of R115. -/
def faultOpen : Nat := 1
def faultOverrange : Nat := 2
def faultNotOff : Nat := 3
def faultShortAB : Nat := 4
def faultShortXH : Nat := 5
def faultCoupled : Nat := 6
def faultNoRestart : Nat := 7
def faultConvStall : Nat := 8
def faultAdcRef : Nat := 9

/-- The lowest fault code in a mask (bit code), 0 for none. -/
def lowestSysFault (m : Nat) : Nat :=
  if bit m 1 then 1 else if bit m 2 then 2 else if bit m 3 then 3 else if bit m 4 then 4 else if bit m 5 then 5
  else if bit m 6 then 6 else if bit m 7 then 7 else if bit m 8 then 8 else if bit m 9 then 9 else 0

/-- The lowest system of a set other than `q`; 0xFF where there is none. -/
def lowestOther (q : Nat) : List Nat → Nat
  | [] => 0xFF
  | r :: rs => if r = q then lowestOther q rs else min r (lowestOther q rs)

/-- The status register shows the lowest current fault and its partner. -/
def showFault (q : Nat) (s : State) : State :=
  let r := s.sys q
  let c := lowestSysFault r.faults
  let partner := match r.marks.find? (fun m => decide (m.code = c)) with
    | some m => lowestOther q m.set
    | none => 0xFF
  (s.wr HFE_STATUS.FAULT c q).wr HFE_STATUS.PARTNER partner q

/-- The mark is of fault `c` with a set. -/
def FaultMark.is (m : FaultMark) (c : Nat) (set : List Nat) : Bool := decide (m.code = c) && decide (m.set = set)

/-- Fault `c` is raised on system `q`, with the set its confirmed candidate marked; one that it carries with this set already
stands, and one with another set joins it. -/
def raiseSysFault (q c : Nat) (set : List Nat) (s : State) : State :=
  if (s.sys q).marks.any (fun m => m.is c set) then s else
  let seen := setBit (s.rd HFE_FAULT.SEEN q) (c - 1) true
  let s := (s.wr HFE_FAULT.SEEN seen q).modSys q (fun r =>
    { r with faults := setBit r.faults c true, marks := r.marks ++ [⟨c, set, 0⟩], proofFaults := setBit r.proofFaults c true })
  showFault q s

/-- The marks of system `q` that do not meet `p` end. -/
def keepMarks (p : FaultMark → Bool) (q : Nat) (s : State) : State :=
  showFault q (s.modSys q (fun r =>
    let left := r.marks.filter p
    { r with marks := left, faults := left.foldl (fun m k => setBit m k.code true) 0 }))

/-- Fault `c` ends on system `q`. -/
def clearSysFault (c q : Nat) (s : State) : State := keepMarks (fun m => decide (m.code ≠ c)) q s

/-- The tests that system `q` has passed in a row since it took fault `c` with a set; one that does not carry it holds nothing
back. -/
def State.markPasses (s : State) (c : Nat) (set : List Nat) (q : Nat) : Nat :=
  match (s.sys q).marks.find? (fun m => m.is c set) with
  | some m => m.passes
  | none => 2

/-- A marked set of fault `c` (0x4 to 0x6) clears on all its systems once each has passed two consecutive tests. -/
def clearMarkedSet (c : Nat) (set : List Nat) (s : State) : State :=
  if set.all (fun r => decide (2 ≤ s.markPasses c set r)) then s.each (keepMarks (fun m => !m.is c set)) set else s

/-- The marked sets that system `q` belongs to, of fault `c`. -/
def clearMarkedSets (q c : Nat) (s : State) : State :=
  s.each (fun m s => s.when (decide (m.code = c)) (clearMarkedSet c m.set)) (s.sys q).marks

/-- A test of system `q` passes: the faults whose clearing rule this meets end (R115). -/
def testPassClears (q : Nat) (s : State) : State :=
  let s := s.modSys q (fun r => { r with marks := r.marks.map (fun m => { m with passes := m.passes + 1 }) })
  let r := s.sys q
  let s := s.when (decide (r.openRun = 0)) (clearSysFault faultOpen q)
  let s := s.when (decide (r.overRun = 0)) (clearSysFault faultOverrange q)
  let s := keepMarks (fun m => !((decide (m.code = faultNotOff) || decide (m.code = faultNoRestart)) && decide (2 ≤ m.passes))) q s
  let s := s.when (decide (r.missed = 0)) (clearSysFault faultConvStall q)
  clearMarkedSets q faultCoupled (clearMarkedSets q faultShortXH (clearMarkedSets q faultShortAB s))

/-! ### Supply pins and blanking (R99, R108) -/

/-- The supply pin of system `q` is driven. -/
def setHsup (level : Bool) (q : Nat) (s : State) : State := s.wrFlag HFE_STATUS.HSUP level q

/-- All 192 supply pins are driven high: reset release, and a warm reset (R99). -/
def allHsupHigh (s : State) : State := s.upTo (setHsup true) 192

/-- The end of Proof item 5 drives the pins by the loaf, and stops the converters of unused heads, whose registers show
their reset values, and which no test awaits (R99, R466). -/
def hsupByLoaf (q : Nat) (s : State) : State :=
  if s.sysUsed q then setHsup true q s
  else
    let s := { s with sched := { s.sched with deferred := s.sched.deferred.filter (fun x => !(x == q)),
                                              owed := s.sched.owed.filter (fun x => !(x == q)) } }
    let s := (setHsup false q s).modSys q (fun _ => default)
    let s := (((s.clr HFE_STATUS.TEST q).clr HFE_STATUS.BLANK q).clr HFE_STATUS.LOW_RATE q).clr HFE_STATUS.ABOVE_SHORT q
    let s := (((s.clr HFE_STATUS.CROSSING q).clr HFE_STATUS.BELOW_OPEN q).clr HFE_STATUS.FAULT q).clr HFE_STATUS.PARTNER q
    let s := (((s.clr HFE_SAMPLE.TICK q).clr HFE_SAMPLE.BLANK q).clr HFE_SAMPLE.LOW q).clr HFE_SAMPLE.CODE q
    let s := ((((s.clr HFE_FAULT.SEEN q).clr HFE_TEST.GEN q).clr HFE_TEST.VALID q).clr HFE_TEST.RESULT q).clr HFE_TEST.PARTNER q
    ((s.clr HFE_COUNT.TRANSIENT q).clr HFE_COUNT.ABANDON q).clr HFE_COUNT.LATE q

/-- A sample of system `q` stamped at tick `t` is flagged BLANK by a test (R108). -/
def SysRec.blankAt (r : SysRec) (t : Nat) : Bool := decide (r.blankFrom < t) && decide (t ≤ r.blankUntil)

/-! ### Crossings (R25, R26, R58, R73, R105, R113, R140) -/

/-- The latch of output `o` is set by a crossing of head `h` mapped to it, and R26's conditions of this cycle fail. -/
def latchByHead (h o : Nat) (s : State) : State :=
  s.when (s.mapped h o) (fun s =>
    breakPulse o ((s.wrFlag SOP_CH_STATE.LATCH true o).modChan o (fun c => { c with crossed := true })))

/-- A crossing during a pulse on the other system of the head under test ends the pulse at the next tick boundary (R113). -/
def crossingCutsPulse (q : Nat) (s : State) : State :=
  match s.sched.slot with
  | some sl =>
    if sl.phase = .pulse ∧ sl.q ≠ q ∧ sl.q / 2 = q / 2 then
      { s with sched := { s.sched with slot := some { sl with phase := .cut } } }
    else s
  | none => s

/-- The Firefly domain records a crossing reported while the counting engine is stopped or frozen (R58). -/
def noteCrossed (q : Nat) (s : State) : State :=
  if s.countingRuns || s.kept.crossed.contains q then s else { s with kept := { s.kept with crossed := q :: s.kept.crossed } }

/-- System `q` reports a crossing: latches, R58's record, the running pulse, and the wake source. -/
def crossingBegins (q : Nat) (s : State) : State :=
  let s := s.wrFlag HFE_STATUS.CROSSING true q
  let s := s.upTo (latchByHead (q / 2)) 72
  let s := noteCrossed q s
  wakeEvent wakeDamping (crossingCutsPulse q s)

/-- The comparator and its filter take a sample (R105): the count carries over a change of rate. -/
def comparator (q : Nat) (code : Int) (low : Bool) (s : State) : State :=
  let above := decide ((toSigned 16 (s.rd HFE_THR0.THR_DAMP q)) < code)
  let need := if low then s.rd HFE_HEAD_CFG.F_LOW (q / 2) + 1 else s.rd HFE_HEAD_CFG.F_FULL (q / 2) + 1
  let run := if above then (s.sys q).aboveRun + 1 else 0
  let s := s.modSys q (fun r => { r with aboveRun := run })
  if !above then s.wrFlag HFE_STATUS.CROSSING false q
  else if s.flag HFE_STATUS.CROSSING q then s
  else if need ≤ run then crossingBegins q s
  else s

/-- The open and over-range watch takes a sample (R107); a BLANK sample leaves the open run as it stands. OVERRANGE in Dormant
wakes through the damping source. -/
def loopWatch (q : Nat) (code : Int) (low blank : Bool) (s : State) : State :=
  let below := decide (code < toSigned 16 (s.rd HFE_THR0.THR_OPEN q))
  let above := decide (toSigned 16 (s.rd HFE_THR1.THR_SHORT q) ≤ code)
  let limit := if low then 2 else 25
  let r := s.sys q
  let openRun := if blank then r.openRun else if below then r.openRun + 1 else 0
  let overRun := if above then r.overRun + 1 else 0
  let s := (s.wrFlag HFE_STATUS.BELOW_OPEN below q).wrFlag HFE_STATUS.ABOVE_SHORT above q
  let s := s.modSys q (fun r => { r with openRun := openRun, overRun := overRun })
  if !s.loafLoaded then s
  else
    let s := s.when (below && !blank && decide (limit ≤ openRun)) (raiseSysFault q faultOpen [q])
    s.when (above && decide (limit ≤ overRun)) (fun s => wakeEvent wakeDamping (raiseSysFault q faultOverrange [q] s))

end Sys2Proof.Machine
end

