-- ==== Sys2Proof/Machine/HfeConv.lean ====
section
/-!
DEFINITION. Conversions, the canceller port and its checks, the recorder (04_head_front_end.md).
-/
namespace Sys2Proof.Machine

/-- A code beyond full scale saturates (R96). -/
def saturated (code : Int) : Int := clampInt (-32767) 32767 code

/-! ### Chafer's input (R126) -/

/-- The record of head `h` changed. -/
def State.modHead (s : State) (h : Nat) (f : Head → Head) : State := { s with heads := tmod s.heads h f }

/-- A raw full-rate sample enters the recognition filter of its head, with its BLANK flag; 31 taps and the ticks that wait are kept. -/
def feedFilter (q : Nat) (code : Int) (blank : Bool) (s : State) : State :=
  if !s.chafer.running then s
  else s.modHead (q / 2) (fun h =>
    let h := { h with rawTick := s.ticks, rawNs := s.timeNs }
    if q % 2 = 0 then { h with rawA := ((code, blank) :: h.rawA).take 34, freshA := true }
    else { h with rawB := ((code, blank) :: h.rawB).take 34, freshB := true })

/-! ### The recorder's frames (R121, R122) -/

/-- The recorder takes samples: enabled, not frozen. -/
def State.recording (s : State) : Bool := s.flag HFE_REC_CTRL.ENABLE && !s.flag HFE_REC_STATUS.FROZEN

/-- Full rate is back: the frames since it was left are lost (R124). -/
def recResume (s : State) : State :=
  match s.recorder.lostFrom with
  | some t =>
    let n := (s.ticks - t) / s.recD
    { s.count HFE_REC_LOST.LOST 0 n with recorder := { s.recorder with lostFrom := none, gapFrames := s.recorder.gapFrames + n } }
  | none => s

/-- The first sample of a block marks its start. -/
def recStart (s : State) : State :=
  if s.recorder.started then s
  else
    let s := recResume s
    { s with recorder := { s.recorder with started := true, startNs := s.timeNs, startTick := s.ticks } }

/-- A full-rate sample enters the recorder: each frame is the mean of D samples, rounded toward zero. -/
def recSample (q : Nat) (code : Int) (blank : Bool) (s : State) : State :=
  if !s.recording then s
  else
    let s := recStart s
    let d := s.recD
    s.modSys q (fun r =>
      let sum := r.recSum + code
      let n := r.recN + 1
      let r := { r with recBlank := r.recBlank || blank }
      if n < d then { r with recSum := sum, recN := n }
      else { r with recSum := 0, recN := 0, recCodes := r.recCodes ++ [Int.tdiv sum d] })

/-! ### Slots while samples pass (R111) -/

/-- While a pulse runs, a system that is above THR_DAMP, flagged BLANK or FAULT is excluded from the change test. -/
def noteExcluded (q : Nat) (out : Bool) (s : State) : State :=
  match s.sched.slot with
  | some sl => if sl.phase = .pulse ∧ out then s.modSys q (fun r => { r with excl := true }) else s
  | none => s

/-! ### The canceller port (R116 to R118) -/

/-- Some check program is in use and none of them is faulted (R118). -/
def State.checkSlices (s : State) : Bool :=
  anyUpTo (fun i => decide (s.rd FAB_SLICE_STATE.FUNC i = 2)) 128
    && allUpTo (fun i => decide (s.rd FAB_SLICE_STATE.FUNC i ≠ 2) || decide (s.rd FAB_SLICE_STATE.FAULT i = 0)) 128

/-- A faulted canceller slice makes the canceller absent (R94). -/
def State.cancellerFaulted (s : State) : Bool :=
  anyUpTo (fun i => decide (s.rd FAB_SLICE_STATE.FUNC i = 0x10) && decide (s.rd FAB_SLICE_STATE.FAULT i ≠ 0)) 128

/-- Every rail return current channel that is in use and has not failed has been quiet for 50 samples, and there is one. -/
def State.rrcQuiet (s : State) : Bool :=
  let live := fun c => s.flag HFE_RRC_CFG.USED c && !s.flag HFE_RRC_STATUS.FAILED c
  anyUpTo live 8 && allUpTo (fun c => !live c || decide (50 ≤ tget s.chafer.rrcQuiet c)) 8

/-- The system becomes suspect. -/
def makeSuspect (q : Nat) (s : State) : State := s.modSys q (fun r => { r with qualified := false, goodRun := 0 })

/-- Clipping of a correction to the system's limit, and the saturated cancelled sample (R117). -/
def cancelledOf (clip : Nat) (raw corr : Int) (tick : Nat) : Cancelled :=
  let c := clampInt (-(clip : Int)) clip corr
  { tick := tick, clipped := decide (c ≠ corr), size := corr.natAbs, sample := clampInt (-32767) 32767 (raw - c) }

/-- A correction tagged with a tick number reaches the port (R117): taken where a raw full-rate sample of that tick stands
and the second tick boundary after it has not come; else discarded. CLIP = 0 disables the canceller for the system. -/
def cancellerCorrection (q tag : Nat) (corr : Int) (s : State) : State :=
  let clip := s.rd HFE_CANC.CLIP q
  let r := s.sys q
  match r.raws.find? (fun p => decide (p.1 = tag)) with
  | some (t, raw) =>
    if clip = 0 ∨ s.cancellerFaulted ∨ t + 2 ≤ s.ticks ∨ s.rd HFE_GLB_STATUS.RATE < rateFull ∨ (r.corrections.any (fun c => decide (c.tick = t))) then s
    else
      let c := cancelledOf clip raw corr t
      let s := s.modSys q (fun r => { r with corrections := (c :: r.corrections).take 3 })
      s.when (s.rrcQuiet && decide (s.rd HFE_CANC.QUIET q < c.size)) (makeSuspect q)
  | none => s

/-- At a full-rate sample time the correction of two ticks ago can come no more (R117): its place in the run of clipped ones, which an
absent one breaks, and among the last 50 ticks (R118). Where no raw sample stood at that tick there was none to correct. -/
def cancellerJudge (q : Nat) (s : State) : State :=
  let r := s.sys q
  let due := r.raws.any (fun p => decide (p.1 + 2 = s.ticks))
  let came := r.corrections.find? (fun c => decide (c.tick + 2 = s.ticks))
  let clipRun := if !due then r.clipRun else match came with
    | some c => if c.clipped then r.clipRun + 1 else 0
    | none => 0
  s.modSys q (fun r => { r with clipRun := clipRun, absences := (r.absences * 2 + b2n (due && came.isNone)) % 2 ^ 50 })

/-- The check of a system at each full-rate sample (R118): 250 clipped corrections in a row, or more than 5 absent in 50 ticks, make
it suspect; 50,000 good samples in a row qualify it. -/
def cancellerCheck (q : Nat) (s : State) : State :=
  let s := cancellerJudge q s
  let r := s.sys q
  if decide (5 < popcount 50 r.absences) || decide (250 ≤ r.clipRun) || !s.checkSlices || decide (s.rd HFE_CANC.CLIP q = 0) then
    makeSuspect q s
  else s.modSys q (fun r => { r with goodRun := r.goodRun + 1, qualified := r.qualified || decide (50000 ≤ r.goodRun + 1) })

/-- A suspect system is requalified (R118): after 50,000 consecutive samples with no check failing. -/
def cancellerRequalify (q : Nat) (s : State) : State :=
  let r := s.sys q
  if s.sysUsed q && s.checkSlices && decide (s.rd HFE_CANC.CLIP q ≠ 0) && decide (popcount 50 r.absences ≤ 5) && decide (r.clipRun < 250)
      && decide (50000 ≤ r.goodRun) && decide (s.rd HFE_GLB_STATUS.RATE = rateFull) then
    s.modSys q (fun r => { r with qualified := true })
  else s

/-- A rail return current sample (R101, R116, R118). -/
def rrcSample (c : Nat) (code : Int) (s : State) : State :=
  let code := saturated code
  if s.rd HFE_GLB_STATUS.RATE < rateFull then s
  else
    let full := decide (32767 ≤ code.natAbs)
    let quiet := decide (code.natAbs < s.rd HFE_RRC_CFG.QUIET c)
    let s := (s.wr HFE_RRC_SAMPLE.TICK s.ticks c).wrS HFE_RRC_SAMPLE.CODE code c
    let s := s.when full (fun s => s.wrFlag HFE_RRC_STATUS.CLIP true c)
    let s := s.wrFlag HFE_RRC_STATUS.ABSENT (full || !s.flag HFE_RRC_CFG.USED c || s.flag HFE_RRC_STATUS.FAILED c) c
    { s with chafer := { s.chafer with rrcQuiet := insert s.chafer.rrcQuiet c (if quiet then tget s.chafer.rrcQuiet c + 1 else 0) } }

/-! ### Conversions (R100 to R107) -/

/-- The sample register and the live status of a delivered sample. -/
def showSample (q : Nat) (code : Int) (low blank : Bool) (s : State) : State :=
  let s := ((s.wr HFE_SAMPLE.TICK s.ticks q).wrFlag HFE_SAMPLE.BLANK blank q).wrFlag HFE_SAMPLE.LOW low q
  (s.wrS HFE_SAMPLE.CODE code q).wrFlag HFE_STATUS.BLANK blank q

/-- The first sample of R140's record: a low-rate sample above THR_DAMP while Chafer is stopped. -/
def noteLowCross (q : Nat) (above low : Bool) (s : State) : State :=
  if above && low && !s.chafer.running then
    s.modSys q (fun r => { r with lowCross := match r.lowCross with | none => some s.ticks | some t => some t })
  else s

/-- The first full-rate sample ends the overlap of a switch to full rate (R102). -/
def endOverlap (low : Bool) (s : State) : State :=
  if !low && decide (s.rd HFE_GLB_STATUS.RATE = rateOverlap) then s.wr HFE_GLB_STATUS.RATE rateFull else s

/-- What only a full-rate sample feeds: the filter, the recorder, the canceller port and its check. -/
def fullRateSample (q : Nat) (code : Int) (blank : Bool) (s : State) : State :=
  let s := s.modSys q (fun r => { r with raws := ((s.ticks, code) :: r.raws).take 3 })
  cancellerCheck q (recSample q code blank (feedFilter q code blank s))

/-- Item 8 has disconnected system `q`: first all A systems, then all B systems (R104). Its conversions are those of the reference
levels, which reach the check alone. -/
def State.disconnected (s : State) (q : Nat) : Bool :=
  s.itemRuns 8 && (if q % 2 = 0 then decide (s.proof.refStart < s.ticks) && decide (s.ticks ≤ s.proof.refA)
    else decide (s.proof.refA < s.ticks) && decide (s.ticks ≤ s.proof.refB))

/-- A system converter delivers a sample (R96, R100, R103, R104, R105, R107). -/
def systemSample (q : Nat) (code : Int) (low : Bool) (s : State) : State :=
  let code := saturated code
  if !s.converts q || !s.rateAdmits low || s.disconnected q then s
  else
    let s := endOverlap low s
    let blank := (s.sys q).blankAt s.ticks
    let above := decide (toSigned 16 (s.rd HFE_THR0.THR_DAMP q) < code)
    let out := above || blank || s.sysFault q
    let s := s.modSys q (fun r => { r with missed := 0, recent := (code :: r.recent).take 4,
                                           recentExcl := (out :: r.recentExcl).take 4 })
    let s := noteExcluded q out (showSample q code low blank s)
    let s := loopWatch q code low blank (comparator q code low (noteLowCross q above low s))
    s.when (!low) (fullRateSample q code blank)

/-- A system converter misses a sample period (R103): the filter and the recorder receive +32,767 flagged BLANK, the
comparator and the watch hold; two in a row are CONV_STALL. -/
def systemMissed (q : Nat) (s : State) : State :=
  if !s.converts q then s
  else
    let s := s.modSys q (fun r => { r with missed := r.missed + 1, recent := (32767 :: r.recent).take 4,
                                           recentExcl := (true :: r.recentExcl).take 4 })
    let s := noteExcluded q true (s.wrFlag HFE_STATUS.BLANK true q)
    let s := s.when (decide (2 ≤ s.rd HFE_GLB_STATUS.RATE)) (fun s => cancellerJudge q (recSample q 32767 true (feedFilter q 32767 true s)))
    s.when (s.loafLoaded && decide (2 ≤ (s.sys q).missed)) (raiseSysFault q faultConvStall [q])

/-- A rail return current converter misses a period: the channel is absent until it delivers again. -/
def rrcMissed (c : Nat) (s : State) : State := s.wrFlag HFE_RRC_STATUS.ABSENT true c

/-- The trigger's block, and after it POST blocks that are written, count down to the freeze (R123). -/
def recCountPost (counts : Bool) (s : State) : State :=
  match s.recorder.postLeft with
  | 0 => s
  | n + 1 =>
    if counts then
      let s := { s with recorder := { s.recorder with postLeft := n } }
      if n = 0 then recFreeze s else s
    else s

/-! ### Rates (R102) -/

/-- The recorder loses what it has begun, and what passes at the low rate: the converters leave full rate (R124). A trigger's block
goes with it, and counts as past (R123). -/
def recBreak (s : State) : State :=
  if s.recording then
    let r := s.recorder
    let s := recCountPost r.trigger.isSome s
    { s with recorder := { s.recorder with started := false, gap := true, gapUnknown := true, trigger := none,
                                           lostFrom := some (if r.started then r.startTick else s.ticks) },
             systems := s.systems.map (fun p => (p.1, { p.2 with recSum := 0, recN := 0, recCodes := [], recBlank := false })) }
  else s

/-- MDLL-B has been gated: for longer than a block the number of lost frames is unknown (R124). -/
def recGapB (since : Nat) (s : State) : State :=
  s.when (s.recording && decide (50 * s.recD < s.ticks - since))
    (fun s => { s with recorder := { s.recorder with gap := true, gapUnknown := true } })

/-- The converters go to the low rate: Dormant, Proof entry, MDLL-A gated. -/
def rateToLow (s : State) : State :=
  let s := recBreak s
  let s := s.upTo (fun c s => s.wrFlag HFE_RRC_STATUS.ABSENT true c) 8
  s.wr HFE_GLB_STATUS.RATE rateLow

/-- The converters start the switch to full rate: wake, Proof item 8, MDLL-A requalified. -/
def rateToFull (s : State) : State :=
  if s.rd HFE_GLB_STATUS.RATE = rateFull then s else s.wr HFE_GLB_STATUS.RATE rateOverlap

/-! ### The recorder (R120 to R124) -/

/-- N_blk of a length in units of 2 MiB (R120). -/
def recBlocks (len : Nat) : Nat := (len * 0x200000 - 0x100000) / 19264

/-- The configuration obeys R120 and R122: 4 to 256 MiB, wholly in the DRAM, a decimation of the table, POST small enough. -/
def State.recConfigOk (s : State) : Bool :=
  let len := s.rd HFE_REC_LEN.LEN
  decide (2 ≤ len) && decide (len ≤ 128) && decide (s.rd HFE_REC_CTRL.DECIM ≤ 5)
    && inDramRange (s.rd HFE_REC_BASE.BASE * 0x200000) (len * 0x200000)
    && decide (s.rd HFE_REC_CTRL.POST + 1 < recBlocks len)
where
  /-- The partition lies in the DRAM. -/
  inDramRange (a n : Nat) : Bool := decide (0x80000000 ≤ a) && decide (a + n ≤ 0x90000000)

/-- ENABLE is written 1 (R122): the recorder starts a new sequence, or CFG_ERR is set. A running recorder is not touched. -/
def recEnable (s : State) : State :=
  if s.flag HFE_REC_CTRL.ENABLE then s
  else if s.recConfigOk then
    let s := (s.wrFlag HFE_REC_CTRL.ENABLE true).wrFlag HFE_REC_STATUS.CFG_ERR false
    let s := s.wr HFE_REC_STATUS.N_BLK (recBlocks (s.rd HFE_REC_LEN.LEN))
    { s with recorder := { (default : Recorder) with seq := 0 },
             systems := s.systems.map (fun p => (p.1, { p.2 with recSum := 0, recN := 0, recCodes := [], recBlank := false })) }
  else s.wrFlag HFE_REC_STATUS.CFG_ERR true

/-- ENABLE is written 0, a reset comes or Proof is entered: writing ends. -/
def recDisable (s : State) : State :=
  let s := (s.wrFlag HFE_REC_CTRL.ENABLE false).wrFlag HFE_REC_STATUS.POST_RUN false
  { s with recorder := { s.recorder with started := false, trigger := none, postLeft := 0 } }

/-- ARM is written 1 (R123): armed; a frozen recorder resumes over the oldest slots. -/
def recArm (s : State) : State :=
  let was := s.flag HFE_REC_STATUS.FROZEN
  let s := (s.wrFlag HFE_REC_STATUS.FROZEN false).wrFlag HFE_REC_STATUS.ARMED true
  if was then
    let n := s.recorder.gapFrames + (s.ticks - s.recorder.startTick) / s.recD
    let g := s.recorder.gap || decide (s.recorder.startTick < s.ticks)
    { s with recorder := { s.recorder with started := false, gapFrames := n, gap := g } }
  else s

/-- The code of system `q` in frame `f` of the block: 0 where its converter is stopped. -/
def State.frameCode (s : State) (q f : Nat) : Nat := ofSigned 16 ((s.sys q).recCodes.getD f 0)

/-- The 192 codes of frame `f`. -/
def State.recFrame (s : State) (f : Nat) : List Nat := (List.range 192).flatMap (fun q => toBytesLE 2 (s.frameCode q f))

/-- FLAGS of the block that completes (R121). -/
def State.recFlags (s : State) : Nat :=
  b2n s.recorder.trigger.isSome + 2 * b2n s.recorder.gap + 4 * b2n (decide (s.recorder.postLeft = 1))

/-- The block's 19,264 bytes (R121). -/
def State.recBlockBytes (s : State) : List Nat :=
  let r := s.recorder
  toBytesLE 8 r.seq ++ timeBytes r.startNs ++ toBytesLE 2 s.recD
    ++ toBytesLE 4 (if r.gapUnknown then 0xFFFFFFFF else sat 32 r.gapFrames)
    ++ toBytesLE 24 (mapWord (fun q => (s.sys q).recBlank) 0 192)
    ++ toBytesLE 2 s.recFlags ++ toBytesLE 2 (r.trigger.getD 0) ++ List.replicate 12 0
    ++ (List.range 50).flatMap s.recFrame

/-- The block's index entry (R121). -/
def State.recIndexBytes (s : State) : List Nat :=
  let r := s.recorder
  toBytesLE 6 r.seq ++ toBytesLE 2 s.recFlags ++ toBytesLE 4 (r.startNs % 1000000000) ++ toBytesLE 4 (r.startNs / 1000000000)

/-- The frames of the block are gone, and the next block begins with the next sample. -/
def recNext (s : State) : State :=
  { s with recorder := { s.recorder with started := false, trigger := none, startTick := s.ticks },
           systems := s.systems.map (fun p => (p.1, { p.2 with recCodes := [], recBlank := false })) }

/-- The slot of the block under way (R120). -/
def State.recSlot (s : State) : Nat := s.recorder.seq % max 1 (s.rd HFE_REC_STATUS.N_BLK)

/-- The address of a block's frames: behind the 1 MiB of the index (R120). -/
def recBlockAddr (base slot : Nat) : Nat := base * 0x200000 + 0x100000 + slot * 19264

/-- The address of a block's index entry (R120). -/
def recIndexAddr (base slot : Nat) : Nat := base * 0x200000 + slot * 16

/-- The block's frames and its index entry stored at the place of its SEQ in the partition (R120). -/
def recStore (s : State) : State :=
  (s.memWrite (recBlockAddr (s.rd HFE_REC_BASE.BASE) s.recSlot) s.recBlockBytes).memWrite
    (recIndexAddr (s.rd HFE_REC_BASE.BASE) s.recSlot) s.recIndexBytes

/-- A block completes (R121, R124): written with its index entry into its slots, or lost, its frames added to LOST. While
MDLL-B is gated it is lost. -/
def recBlock (lost : Bool) (s : State) : State :=
  if !s.recording || !s.recorder.started then s
  else if lost || !s.mdllB then
    let s := s.count HFE_REC_LOST.LOST 0 50
    let s := recCountPost s.recorder.trigger.isSome s
    recNext { s with recorder := { s.recorder with gapFrames := s.recorder.gapFrames + 50, gap := true } }
  else
    let s := recStore s
    let s := s.wr HFE_REC_SEQ_LO.SEQ s.recorder.seq
    let s := { s with recorder := { s.recorder with seq := s.recorder.seq + 1, gapFrames := 0, gap := false, gapUnknown := false } }
    recNext (recCountPost true s)

/-- A read of `HFE_REC_SEQ_LO` latches the upper half of the last block's SEQ. -/
def recLatchSeq (s : State) : State := s.wr HFE_REC_SEQ_HI.SEQ ((s.recorder.seq - 1) / 2 ^ 32)

end Sys2Proof.Machine
end

