-- ==== Sys2Proof/Machine/RegsLoaf.lean ====
section
/-!
DEFINITION. What the loaded loaf sets and no register shows (R82, R129): held as fields at keys above the register space,
where no requester reaches them.
-/
namespace Sys2Proof.Machine

/-- T_rec in units of 0.1 s (R63). -/
def LOAF_SYS.T_REC : Fld := ⟨0x200000, 0x0, 1, 1, 0x0, 0, 10, .ro, 50, false⟩

/-- The slot that an accepted LOAF_SELECT named (R84). -/
def LOAF_SYS.CMD_SLOT : Fld := ⟨0x200004, 0x0, 1, 1, 0x0, 0, 2, .ro, 0, false⟩

/-- The safety slice that runs the recognition filter of head h (R126). -/
def LOAF_HEAD.SLICE : Fld := ⟨0x210000, 0x4, 96, 1, 0x0, 0, 7, .ro, 0, false⟩

/-- Coefficient k of head h at entry 31 h + k: 18 bits, 17 of them fraction (R129). -/
def LOAF_COEFF.C : Fld := ⟨0x220000, 0x80, 2976, 31, 0x4, 0, 18, .ro, 0, false⟩

/-- The point of report slot j of link l in the frames sent, at entry 8 l + j: bit 7 assigned, bits 6:0 the local point (R242). -/
def LOAF_LINK.TX_POINT : Fld := ⟨0x230000, 0x4, 32, 1, 0x0, 0, 8, .ro, 0, false⟩

/-- The section of handshake k of link l, at entry 16 l + k (R242). -/
def LOAF_LINK.SHARED : Fld := ⟨0x230100, 0x4, 64, 1, 0x0, 0, 6, .ro, 0, false⟩

/-- Calibration of string k (R329): gains in units of 0.0001, offsets in codes. -/
def LOAF_MTR.VGAIN : Fld := ⟨0x240000, 0x20, 32, 1, 0x0, 0, 16, .ro, 10000, false⟩
def LOAF_MTR.IGAIN : Fld := ⟨0x240000, 0x20, 32, 1, 0x0, 16, 16, .ro, 10000, false⟩
def LOAF_MTR.VOFF : Fld := ⟨0x240004, 0x20, 32, 1, 0x0, 0, 18, .ro, 0, false⟩
def LOAF_MTR.IOFF : Fld := ⟨0x240008, 0x20, 32, 1, 0x0, 0, 18, .ro, 0, false⟩

/-- Comparison limits of string k (R346): V_TOL, I_TOL and E_TOL in 0.1 %, E_ABS in Wh. -/
def LOAF_MTR.V_TOL : Fld := ⟨0x24000C, 0x20, 32, 1, 0x0, 0, 8, .ro, 20, false⟩
def LOAF_MTR.I_TOL : Fld := ⟨0x24000C, 0x20, 32, 1, 0x0, 8, 8, .ro, 20, false⟩
def LOAF_MTR.E_TOL : Fld := ⟨0x24000C, 0x20, 32, 1, 0x0, 16, 8, .ro, 10, false⟩
def LOAF_MTR.E_ABS : Fld := ⟨0x240010, 0x20, 32, 1, 0x0, 0, 10, .ro, 2, false⟩

/-- T_PACK of string k in milliseconds (R343). -/
def LOAF_MTR.T_PACK : Fld := ⟨0x240014, 0x20, 32, 1, 0x0, 0, 14, .ro, 0, false⟩

/-- The Class C ring for received frames, as its number minus 8 (R343). -/
def LOAF_MTR.PACK_RING : Fld := ⟨0x240800, 0x0, 1, 1, 0x0, 0, 4, .ro, 0, false⟩

/-- Frame f of string k, at entry 4 k + f: entry in use, 29-bit identifier, identifier; frame 0 is the primary one (R343). -/
def LOAF_PACK.VALID : Fld := ⟨0x241000, 0x4, 128, 1, 0x0, 31, 1, .ro, 0, false⟩
def LOAF_PACK.EXT : Fld := ⟨0x241000, 0x4, 128, 1, 0x0, 30, 1, .ro, 0, false⟩
def LOAF_PACK.ID : Fld := ⟨0x241000, 0x4, 128, 1, 0x0, 0, 29, .ro, 0, false⟩

/-- Descriptor d of string k, at entry 8 k + d (R343): in use; kind 1 PACK_V, 2 PACK_I, 3 SOC, 4 E_DIS_CUM, 5 E_CHG_CUM,
6 PACK_ID, 7 ALIVE, 8 STATUS; frame; bit offset and length; byte order; signedness; scale, offset and plausible range in
millionths of a volt, ampere, per cent or watt-hour, or of one. -/
def LOAF_DESC.VALID : Fld := ⟨0x242000, 0x40, 256, 1, 0x0, 31, 1, .ro, 0, false⟩
def LOAF_DESC.KIND : Fld := ⟨0x242000, 0x40, 256, 1, 0x0, 24, 4, .ro, 0, false⟩
def LOAF_DESC.FRAME : Fld := ⟨0x242000, 0x40, 256, 1, 0x0, 22, 2, .ro, 0, false⟩
def LOAF_DESC.BIG : Fld := ⟨0x242000, 0x40, 256, 1, 0x0, 21, 1, .ro, 0, false⟩
def LOAF_DESC.SIGNED : Fld := ⟨0x242000, 0x40, 256, 1, 0x0, 20, 1, .ro, 0, false⟩
def LOAF_DESC.LEN : Fld := ⟨0x242000, 0x40, 256, 1, 0x0, 10, 6, .ro, 1, false⟩
def LOAF_DESC.OFF : Fld := ⟨0x242000, 0x40, 256, 1, 0x0, 0, 9, .ro, 0, false⟩
def LOAF_DESC.SCALE : Fld := ⟨0x242008, 0x40, 256, 1, 0x0, 0, 64, .ro, 0, false⟩
def LOAF_DESC.OFFSET : Fld := ⟨0x242010, 0x40, 256, 1, 0x0, 0, 64, .ro, 0, false⟩
def LOAF_DESC.MIN : Fld := ⟨0x242018, 0x40, 256, 1, 0x0, 0, 64, .ro, 0, false⟩
def LOAF_DESC.MAX : Fld := ⟨0x242020, 0x40, 256, 1, 0x0, 0, 64, .ro, 0, false⟩

/-- Controller k (R342, R347, R350): class filter, D_C and D_M in milliseconds, bit timing as the loaf gives it. -/
def LOAF_CAN.FILT_VALID : Fld := ⟨0x248000, 0x20, 8, 1, 0x0, 31, 1, .ro, 0, false⟩
def LOAF_CAN.FILT_EXT : Fld := ⟨0x248000, 0x20, 8, 1, 0x0, 30, 1, .ro, 0, false⟩
def LOAF_CAN.FILT_ID : Fld := ⟨0x248000, 0x20, 8, 1, 0x0, 0, 29, .ro, 0, false⟩
def LOAF_CAN.FILT_MASK : Fld := ⟨0x248004, 0x20, 8, 1, 0x0, 0, 29, .ro, 0, false⟩
def LOAF_CAN.D_C : Fld := ⟨0x248008, 0x20, 8, 1, 0x0, 0, 10, .ro, 10, false⟩
def LOAF_CAN.D_M : Fld := ⟨0x248008, 0x20, 8, 1, 0x0, 10, 10, .ro, 100, false⟩
def LOAF_CAN.NOMINAL : Fld := ⟨0x24800C, 0x20, 8, 1, 0x0, 0, 32, .ro, 0, false⟩
def LOAF_CAN.DATA : Fld := ⟨0x248010, 0x20, 8, 1, 0x0, 0, 32, .ro, 0, false⟩

end Sys2Proof.Machine
end

