-- ==== Sys2Proof/Machine/ChaferHead.lean ====
section
/-!
DEFINITION. One head's tick in Chafer (R126 to R147), as a function of the head's record, its parameters and its inputs.
Patterns: bit 0 is A damped, bit 1 is B damped. Edges count sixteenths of a tick (1.25 µs).
-/
namespace Sys2Proof.Machine

/-- The parameters of a head (R129), as its registers and the loaf hold them. -/
structure HeadCfg where
  taps : Nat
  coeffs : List Int
  thrA : Int
  thrB : Int
  hyst : Int
  magSkew : Nat
  nRock : Nat
  tDisc : Nat
  tQuiet : Nat
  tStand : Nat
  vMax : Nat
  lenMax : Nat
  aRev : Nat
  lab : Nat
  tauD : Nat
  nomA : Int
  limA : Int
  nomB : Int
  limB : Int
  deriving DecidableEq, Repr

/-- The inputs of a tick: its number and time, the system faults, whether 250 ticks have passed since the last blanking of a test,
and a value the manual leaves open. -/
structure TickIn where
  tick : Nat
  ns : Nat
  faultA : Bool
  faultB : Bool
  rested : Bool
  free : Nat
  deriving DecidableEq, Repr

/-- The parameters of head `h` in force. -/
def State.headCfg (s : State) (h : Nat) : HeadCfg where
  taps := s.rd HFE_CHF_CFG0.FILT_TAPS h
  coeffs := (List.range (s.rd HFE_CHF_CFG0.FILT_TAPS h)).map (fun k => s.rdS LOAF_COEFF.C (31 * h + k))
  thrA := toSigned 16 (s.rd HFE_THR0.THR_DAMP (2 * h))
  thrB := toSigned 16 (s.rd HFE_THR0.THR_DAMP (2 * h + 1))
  hyst := s.rd HFE_CHF_CFG1.HYST h
  magSkew := s.rd HFE_CHF_CFG0.MAG_SKEW h
  nRock := s.rd HFE_CHF_CFG0.N_ROCK h
  tDisc := s.rd HFE_CHF_CFG1.T_DISC h
  tQuiet := s.rd HFE_CHF_CFG2.T_QUIET h * 50
  tStand := s.rd HFE_CHF_CFG2.T_STAND h * 500
  vMax := s.rd HFE_CHF_CFG3.V_MAX h
  lenMax := s.rd HFE_CHF_CFG3.LEN_MAX h
  aRev := s.rd HFE_CHF_CFG4.A_REV h
  lab := s.rd HFE_CHF_CFG0.L_AB h
  tauD := s.rd HFE_CHF_CFG4.TAU_D h
  nomA := s.rd HFE_CHF_NOM_A.FREE_NOM h
  limA := s.rd HFE_CHF_NOM_A.DRIFT_LIM h
  nomB := s.rd HFE_CHF_NOM_B.FREE_NOM h
  limB := s.rd HFE_CHF_NOM_B.DRIFT_LIM h

/-! ### Filter and decisions (R126 to R128) -/

/-- The sum of products of coefficients and samples, in 2^-17 code: it is compared and interpolated as it stands, neither rounded nor
saturated (the model's choice, log 66). -/
def firSum : List Int → List Int → Int
  | c :: cs, x :: xs => c * x + firSum cs xs
  | _, _ => 0

/-- The filtered sample of raw samples, newest first: absent while the filter fills, and where a tap is flagged BLANK. -/
def filtered (c : HeadCfg) (raw : List (Int × Bool)) : Option Int :=
  let taps := raw.take c.taps
  if taps.length < c.taps ∨ c.taps = 0 ∨ taps.any (fun p => p.2) then none else some (firSum c.coeffs (taps.map (fun p => p.1)))

/-- The filtered cancelled sample: absent where a tap's cancelled sample is absent. -/
def filteredCancelled (c : HeadCfg) (canc : List (Option (Int × Bool))) : Option Int :=
  let taps := canc.take c.taps
  if taps.length < c.taps ∨ c.taps = 0 ∨ taps.any Option.isNone then none
  else some (firSum c.coeffs (taps.map (fun p => match p with | some v => v.1 | none => 0)))

/-- The decision with hysteresis (R127): damped above THR_DAMP, and until at or below THR_DAMP - HYST. -/
def decision (thr hyst : Int) (was : Bool) (f : Int) : Bool :=
  if was then decide ((thr - hyst) * 131072 < f) else decide (thr * 131072 < f)

/-- The decision of a filtered sample, or the one held where there is none. -/
def decisionHeld (thr hyst : Int) (was : Bool) (f : Option Int) : Bool :=
  match f with | some v => decision thr hyst was v | none => was

/-- A pattern from two decisions. -/
def patOf (a b : Bool) : Nat := b2n a + 2 * b2n b

/-! ### Edges (R133) -/

/-- An edge: its place in sixteenths of a tick, and its time. -/
structure Edge where
  e : Nat
  ns : Nat
  deriving DecidableEq, Repr, Inhabited

/-- The fraction f of R133 in sixteenths: 0 at an unsighted edge; a point between two steps falls to either. -/
def edgeFraction (prev cur : Option Int) (level : Int) (gap : Bool) : Nat :=
  if gap then 0
  else match prev, cur with
    | some p, some v =>
      if p = v then 0
      else
        let num := 16 * (if p < v then level - p else p - level)
        (clampInt 0 15 (roundQ num (v - p).natAbs)).toNat
    | _, _ => 0

/-- The edge of a system whose decision changed at a tick (R133). -/
def edgeAt (c : HeadCfg) (i : TickIn) (prev cur : Option Int) (thr : Int) (damped gap : Bool) : Edge :=
  let f := edgeFraction prev cur ((if damped then thr else thr - c.hyst) * 131072) gap
  ⟨(i.tick - 1) * 16 + f, i.ns + f * 1250 - 30000 - (c.taps - 1) / 2 * 20000⟩

/-- The earlier and the later of the edges that a change of pattern has. -/
def edgePair (a b : Option Edge) : Edge × Edge :=
  match a, b with
  | some x, some y => if x.e ≤ y.e then (x, y) else (y, x)
  | some x, none => (x, x)
  | none, some y => (y, y)
  | none, none => (default, default)

/-! ### Classification (R131, R132, R135, R141) -/

/-- The ticks a phase lasted. -/
def Phase.ticks (p : Phase) : Nat := p.endTick - p.startTick

/-- A phase's duration in 1.25 µs, where valid (R135). That an unsighted tick strictly inside leaves it valid is the model's choice
(log 84). -/
def Phase.dur (p : Phase) : Option Nat :=
  if p.startGap || p.endGap || p.lowRate then none else some (p.endE - p.startE)

/-- The phase immediately before the final 11 phase, in phases newest first. -/
def beforeFinal11 : List Phase → Option Phase
  | a :: b :: rest => if a.pat = 3 then some b else beforeFinal11 (b :: rest)
  | _ => none

/-- The final 11 phase, in phases newest first. -/
def final11 (ps : List Phase) : Option Phase := ps.find? (fun p => decide (p.pat = 3))

/-- The time a system was damped in the passage, in 1.25 µs. -/
def dampedTime (sysBit : Nat) : List Phase → Nat
  | [] => 0
  | p :: ps => (if bit p.pat sysBit then p.endE - p.startE else 0) + dampedTime sysBit ps

/-- v² > K for a duration (R132): K = 2 A_REV (LEN_MAX + L_AB). An invalid duration shows no speed. -/
def fastEnough (c : HeadCfg) (d : Option Nat) : Bool :=
  match d with
  | some d => decide (c.aRev * (10 * c.lenMax + c.lab) * (d * d) < 320000000 * (c.lab * c.lab))
  | none => false

/-- Speed and what depends on it (R135): the speed in 0.01 m/s and the flags ONE_PAIR, ASYM, SPEED_HIGH, LONG, and whether
the durations differ by more than 10 %. -/
structure Speed where
  speed : Nat
  onePair : Bool
  asym : Bool
  high : Bool
  long : Bool
  differ : Bool
  deriving DecidableEq, Repr

/-- The speed from Σ = Δt_on + Δt_off, or twice the one valid duration. A Σ of 0 has no stated speed. -/
def speedOf (c : HeadCfg) (i : TickIn) (sum : Nat) : Nat :=
  if sum = 0 then i.free % 65536 else sat 16 (roundNear (16000 * c.lab) sum).toNat

/-- R135 for a passage: `standing` bars LONG. That SPEED_HIGH and LONG are judged on the speed before it is rounded is the model's choice
(log 84). -/
def speedFacts (c : HeadCfg) (i : TickIn) (on off : Option Nat) (damped : Nat) (standing : Bool) : Speed :=
  let high := fun sum : Nat => decide (c.vMax * sum < 16000 * c.lab)
  let long := fun sum : Nat => !standing && decide (10 * sum * c.lenMax < c.lab * damped)
  match on, off with
  | some a, some b =>
    let d := if a ≤ b then b - a else a - b
    ⟨speedOf c i (a + b), false, decide (max a b < 4 * d), high (a + b), long (a + b), decide (max a b < 10 * d)⟩
  | some a, none => ⟨speedOf c i (2 * a), true, false, high (2 * a), long (2 * a), false⟩
  | none, some b => ⟨speedOf c i (2 * b), true, false, high (2 * b), long (2 * b), false⟩
  | none, none => ⟨0, true, false, false, false, false⟩

/-- The confidence of a WHEEL record (R141). -/
def confidence (v : Speed) (inferred excused rocking wake nearMiss standing : Bool) : Nat :=
  255 - (64 * b2n v.onePair + 64 * b2n inferred + 64 * b2n v.asym + 32 * b2n (v.differ && !v.asym) + 48 * b2n excused
    + 32 * b2n rocking + 64 * b2n v.high + 64 * b2n v.long + 32 * b2n wake + 32 * b2n nearMiss + 16 * b2n standing)

/-- The kinds of a record (R154). -/
def kindWheel : Nat := 1
def kindRetreat : Nat := 2
def kindMagnet : Nat := 3
def kindHeadState : Nat := 4

/-- The causes of R149. -/
def chNone : Nat := 0x00
def chDiscrepancy : Nat := 0x01
def chSequence : Nat := 0x02
def chPattern : Nat := 0x03
def chNoDirection : Nat := 0x04
def chWakeUnresolved : Nat := 0x05
def chDrift : Nat := 0x06
def chRingFull : Nat := 0x07
def chRestart : Nat := 0x08
def chSysFault : Nat := 0x10
def chSliceFault : Nat := 0x11
def chProofFail : Nat := 0x12
def chUnused : Nat := 0x1F

/-- The event time of a WHEEL or MAGNET record (R134). -/
def eventNs (ps : List Phase) : Nat :=
  match final11 ps with
  | some p => (p.startNs + p.endNs) / 2
  | none => match ps.getLast? with | some p => p.endNs | none => 0

/-- FLAGS of a passage's record but HEAD_NOT_OK (R154). -/
def passageFlags (c : HeadCfg) (p : Passage) (v : Speed) (inferred : Bool) : Nat :=
  2 * b2n (decide (c.nRock ≤ p.reversals)) + 4 * b2n v.onePair + 8 * b2n v.asym + 16 * b2n p.excused + 32 * b2n v.high
    + 64 * b2n v.long + 128 * b2n p.wake + 256 * b2n p.standing + 512 * b2n p.nearMiss + 1024 * b2n inferred

/-- The durations Δt_on and Δt_off of a closed passage (R135, R140). -/
def Passage.durations (p : Passage) : Option Nat × Option Nat :=
  let on := if p.wake then none
    else match final11 p.phases with
      | some _ => (beforeFinal11 p.phases).bind Phase.dur
      | none => p.phases.getLast?.bind Phase.dur
  (on, p.phases.head?.bind Phase.dur)

/-- A record of a passage: WHEEL with its speed, RETREAT and MAGNET without. `dir` is the side of entry; DWELL counts whole ticks
(log 71). -/
def passageRecord (c : HeadCfg) (i : TickIn) (p : Passage) (kind dir : Nat) (inferred : Bool) (close : Edge) : ChRec :=
  let d := p.durations
  let damped := dampedTime 0 p.phases + dampedTime 1 p.phases
  let v := if kind = kindWheel then speedFacts c i d.1 d.2 damped p.standing else ⟨0, false, false, false, false, false⟩
  let v := if inferred then { v with onePair := true } else v
  { timeNs := if kind = kindRetreat then close.ns else eventNs p.phases
    head := 0, kind := kind, speed := v.speed, dir := dir
    conf := if kind = kindWheel then
        confidence v inferred p.excused (decide (c.nRock ≤ p.reversals)) p.wake p.nearMiss p.standing else 0
    flags := passageFlags c p v inferred, seq := 0, hstate := 0, cause := 0, reversals := sat 8 p.reversals
    dtOn := sat 16 (d.1.getD 0), dtOff := sat 16 (d.2.getD 0), dwell := sat 16 ((close.e - p.openE) / 16) }

/-- What a closed passage gives: a record, or a cause that disturbs the head. -/
inductive Outcome where
  | record (r : ChRec)
  | cause (code : Nat)
  deriving DecidableEq, Repr

/-- R132: the first row that applies. `p.phases` is newest first, every phase closed. -/
def classify (c : HeadCfg) (i : TickIn) (p : Passage) (close : Edge) : Outcome :=
  match p.phases.getLast?, p.phases.head? with
  | some first, some last =>
    let second := (p.phases.reverse.drop 1).head?
    let secondLast := (p.phases.drop 1).head?
    let entry := !p.openGap && !first.blank
    let exit_ := !last.startGap && !last.blank
    let is11 := fun o : Option Phase => match o with | some x => decide (x.pat = 3) | none => false
    let entryShort := decide (first.pat = 3) || (decide (first.ticks ≤ c.magSkew) && is11 second)
    let exitShort := decide (last.pat = 3) || (decide (last.ticks ≤ c.magSkew) && is11 secondLast)
    let unclear := Outcome.cause (if p.wake then chWakeUnresolved else chNoDirection)
    if !entry && !exit_ then unclear
    else if !entry && exit_ && !exitShort && fastEnough c p.durations.2 then
      .record (passageRecord c i p kindWheel (if last.pat = 2 then 1 else 2) true close)
    else if entry && !exit_ && !entryShort && fastEnough c p.durations.1 then
      .record (passageRecord c i p kindWheel (if first.pat = 1 then 1 else 2) true close)
    else if !entry || !exit_ then unclear
    else if entryShort && exitShort then .record (passageRecord c i p kindMagnet 0 false close)
    else if entryShort || exitShort then .cause chPattern
    else if first.pat ≠ last.pat then .record (passageRecord c i p kindWheel (if first.pat = 1 then 1 else 2) false close)
    else .record (passageRecord c i p kindRetreat (if first.pat = 1 then 1 else 2) false close)
  | _, _ => .cause chNoDirection

/-! ### The procedure (R131) -/

/-- A phase that begins. -/
def newPhase (pat : Nat) (at_ : Edge) (tick : Nat) (gap : Bool) : Phase :=
  { pat := pat, startE := at_.e, startNs := at_.ns, startTick := tick, startGap := gap, blank := false,
    endE := 0, endNs := 0, endTick := 0, endGap := false, lowRate := false }

/-- The current phase ends at an edge. -/
def closePhase (at_ : Edge) (tick : Nat) (gap : Bool) : List Phase → List Phase
  | [] => []
  | p :: ps => { p with endE := at_.e, endNs := at_.ns, endTick := tick, endGap := gap } :: ps

/-- A passage that opens with a phase. -/
def newPassage (p : Phase) (openE : Nat) (openGap wake : Bool) : Passage :=
  { phases := [p], openE := openE, openGap := openGap, reversals := 0, lastZone := if p.pat = 3 then 0 else p.pat,
    standing := false, excused := false, nearMiss := false, wake := wake, sinceChange := 0 }

/-- A phase follows in the open passage; a return into the offset zone last occupied is a reversal (R137). -/
def Passage.next (p : Passage) (pat : Nat) (e1 e2 : Edge) (tick : Nat) (gap : Bool) : Passage :=
  let zone := decide (pat = 1) || decide (pat = 2)
  { p with phases := newPhase pat e2 tick gap :: closePhase e1 tick gap p.phases
           reversals := if zone && decide (pat = p.lastZone) then min 255 (p.reversals + 1) else p.reversals
           lastZone := if zone then pat else p.lastZone
           sinceChange := 0 }

/-- An unsighted tick (R131): the pattern is held, and the phase under way has an unsighted tick. -/
def Head.unsighted (hd : Head) : Head :=
  { hd with gap := true
            discPat := 0
            passage := hd.passage.map (fun p => { p with phases :=
              match p.phases with
              | [] => []
              | ph :: ps => { ph with blank := true } :: ps }) }

/-- The passage closes and is classified. -/
def Head.closePassage (hd : Head) (c : HeadCfg) (i : TickIn) (e1 e2 : Edge) : Head :=
  match hd.passage with
  | none => hd
  | some p =>
    let hd := { hd with passage := none, standing := false, busyTick := some i.tick }
    match classify c i { p with phases := closePhase e1 i.tick hd.gap p.phases } e2 with
    | .record r => { hd with recs := hd.recs ++ [r] }
    | .cause k => { hd with decided := hd.decided ++ [k] }

/-- A change of pattern between sighted ticks (R131). SEQUENCE leaves E as `discStep` has restarted it (R145, log 67). -/
def Head.changePattern (hd : Head) (c : HeadCfg) (i : TickIn) (pat : Nat) (e1 e2 : Edge) : Head :=
  if hd.lastPat = 0 then
    { hd with passage := some (newPassage (newPhase pat e2 i.tick hd.gap) e1.e hd.gap false), standing := false }
  else if hd.lastPat + pat = 3 ∧ pat ≠ 0 ∧ pat ≠ 3 ∧ !hd.gap then
    { hd with passage := none, standing := false, waiting := true, decided := hd.decided ++ [chSequence], busyTick := some i.tick }
  else if pat = 0 then hd.closePassage c i e1 e2
  else { hd with passage := hd.passage.map (fun p => p.next pat e1 e2 i.tick hd.gap), standing := false }

/-- The edges of the systems whose decision changed against the held pattern. -/
def Head.edges (hd : Head) (c : HeadCfg) (i : TickIn) (pat : Nat) (fa fb : Option Int) : Edge × Edge :=
  let a := if bit pat 0 = bit hd.lastPat 0 then none else some (edgeAt c i hd.prevA fa c.thrA (bit pat 0) hd.gap)
  let b := if bit pat 1 = bit hd.lastPat 1 then none else some (edgeAt c i hd.prevB fb c.thrB (bit pat 1) hd.gap)
  edgePair a b

/-- A sighted tick of the procedure. -/
def Head.sightedStep (hd : Head) (c : HeadCfg) (i : TickIn) (pat : Nat) (fa fb : Option Int) : Head :=
  if hd.waiting then { hd with waiting := decide (pat ≠ 0), lastPat := pat, gap := false }
  else
    let hd := if pat = hd.lastPat then hd
      else let e := hd.edges c i pat fa fb
        hd.changePattern c i pat e.1 e.2
    { hd with lastPat := pat, gap := false }

/-- Time without a phase change (R136). -/
def Head.standStep (hd : Head) (c : HeadCfg) : Head :=
  match hd.passage with
  | none => hd
  | some p =>
    let n := p.sinceChange + 1
    if c.tStand ≤ n then { hd with passage := some { p with sinceChange := n, standing := true }, standing := true }
    else { hd with passage := some { p with sinceChange := n } }

/-! ### Discrepancy (R145 to R147) -/

/-- The tick is excused (R146): both cancelled decisions stand and agree, and no clipped correction changed one. -/
def excusedTick (ra rb : Bool) (ca cb : Option (Bool × Bool)) : Bool :=
  match ca, cb with
  | some (a, clipA), some (b, clipB) => decide (a = b) && (decide (ra = a) || !clipA) && (decide (rb = b) || !clipB)
  | _, _ => false

/-- A discrepancy ends (R145, R147): E_last, and the near-miss judgement. -/
def Head.endDiscrepancy (hd : Head) (c : HeadCfg) (e : Nat) : Head :=
  let near := !hd.declared && decide (3 * c.tDisc < 4 * e)
  { hd with disc := none, declared := false, ended := some e, nearMisses := hd.nearMisses + b2n near,
            passage := if near then hd.passage.map (fun p => { p with nearMiss := true }) else hd.passage }

/-- Exactly one system is damped. -/
def onePat (pat : Nat) : Bool := decide (pat = 1) || decide (pat = 2)

/-- A tick is excused: E holds, and the passage carries the flag (R146). -/
def Head.excuse (hd : Head) : Head :=
  { hd with excusedTicks := hd.excusedTicks + 1, passage := hd.passage.map (fun p => { p with excused := true }) }

/-- E at a sighted tick, before `discPat` follows: 10 directly after 01, or 01 after 10, never continues a discrepancy. That only a tick
at which E would have gone up counts as excused is the model's choice (log 84). -/
def Head.elapse (hd : Head) (c : HeadCfg) (pat : Nat) (excused : Bool) : Head :=
  match hd.disc with
  | none => if onePat pat then { hd with disc := some 0, declared := false } else hd
  | some e =>
    if !onePat pat then hd.endDiscrepancy c e
    else if hd.discPat + pat = 3 then { hd with disc := some 0, declared := false }
    else if hd.declared then hd
    else if excused then hd.excuse
    else if c.tDisc ≤ e + 1 then
      { hd with disc := some c.tDisc, declared := true, decided := hd.decided ++ [chDiscrepancy] }
    else { hd with disc := some (e + 1) }

/-- E at a sighted tick (R145 to R147), in every head state. -/
def Head.discStep (hd : Head) (c : HeadCfg) (pat : Nat) (excused : Bool) : Head :=
  { hd.elapse c pat excused with discPat := pat }

/-! ### Drift (R143, R144) -/

/-- One sample of the quiescent estimate. -/
def Drift.step (d : Drift) (tau : Nat) (x : Int) : Drift :=
  if d.ready then
    let k := roundNear (2 ^ 32) (50000 * max 1 tau)
    { d with acc := d.acc + (x * 2 ^ 24 - d.acc) * k / 2 ^ 32 }
  else if d.n + 1 < 250 then { d with n := d.n + 1, sum := d.sum + x }
  else { d with n := 250, ready := true, acc := roundQ ((d.sum + x) * 2 ^ 24) 250, sum := 0 }

/-- The estimate rounded to a whole code, halves away from zero; 0 until initialised. -/
def Drift.est (d : Drift) : Int :=
  if !d.ready then 0 else if 0 ≤ d.acc then (d.acc + 2 ^ 23) / 2 ^ 24 else -((-d.acc + 2 ^ 23) / 2 ^ 24)

/-- The drift of a system after a sample, and whether it has just passed DRIFT_LIM. -/
def Drift.judge (d : Drift) (nom lim : Int) : Drift × Bool :=
  let out := d.exceeds nom lim 1 1
  ({ d with beyond := out }, out && !d.beyond)

/-- The drift of both systems at a tick (R143): only where the system is FREE, not BLANK, no passage is open and 250 ticks
have passed since the last passage closed and the last blanking ended. -/
def Head.driftStep (hd : Head) (c : HeadCfg) (i : TickIn) : Head :=
  let busy := hd.passage.isSome || (match hd.rawA with | (_, b) :: _ => b | [] => false)
    || (match hd.rawB with | (_, b) :: _ => b | [] => false)
  let hd := { hd with busyTick := if busy then some i.tick else hd.busyTick }
  let recent := match hd.busyTick with | some t => decide (i.tick < t + 250) | none => false
  if recent || !i.rested then hd
  else
    let a := match hd.rawA with
      | (x, _) :: _ => if hd.dampA || i.faultA then hd.driftA else hd.driftA.step c.tauD x
      | [] => hd.driftA
    let b := match hd.rawB with
      | (x, _) :: _ => if hd.dampB || i.faultB then hd.driftB else hd.driftB.step c.tauD x
      | [] => hd.driftB
    let ja := a.judge c.nomA c.limA
    let jb := b.judge c.nomB c.limB
    { hd with driftA := ja.1, driftB := jb.1, decided := if ja.2 || jb.2 then hd.decided ++ [chDrift] else hd.decided }

/-- The conditions under which a DISTURBED head counts quiet time (R149). -/
def Head.quietNow (hd : Head) (c : HeadCfg) (i : TickIn) : Bool :=
  !hd.dampA && !hd.dampB && hd.passage.isNone && !i.faultA && !i.faultB && !hd.gap
    && !hd.driftA.exceeds c.nomA c.limA 3 4 && !hd.driftB.exceeds c.nomB c.limB 3 4

/-- The quiet time at a tick. -/
def Head.quietStep (hd : Head) (c : HeadCfg) (i : TickIn) : Head :=
  { hd with quiet := if hd.quietNow c i then hd.quiet + 1 else 0 }

/-! ### Restart under R140 -/

/-- The edge that stands for a low-rate tick of the crossing record: that tick, uncorrected (log 70). -/
def lowEdge (i : TickIn) (t : Nat) : Edge := ⟨t * 16, i.ns - (i.tick - t) * 20000⟩

/-- A phase taken from the crossing record. -/
def lowPhase (pat : Nat) (at_ : Edge) (tick : Nat) : Phase := { newPhase pat at_ tick false with lowRate := true }

/-- The RETREAT of a wheel that crossed one system and is gone at the first decided tick: its time, DWELL and WAKE are the model's
choice (log 70). -/
def wakeRetreat (i : TickIn) (side : Nat) : ChRec :=
  { timeNs := i.ns, head := 0, kind := kindRetreat, speed := 0, dir := side, conf := 0, flags := 0, seq := 0, hstate := 0,
    cause := 0, reversals := 0, dtOn := 0, dtOff := 0, dwell := 0 }

/-- One system crossed, and it is damped at the first decided tick: the passage opens with its phase, entry sighted. -/
def Head.wakeOpenOne (hd : Head) (i : TickIn) (side t : Nat) : Head :=
  let e := lowEdge i t
  { hd with passage := some (newPassage (lowPhase side e t) e.e false true), lastPat := side, gap := true }

/-- Both crossed in different samples: the passage opens with the earlier system's phase, entry sighted; its 11 phase begins with the
second crossing (log 70). -/
def Head.wakeOpenTwo (hd : Head) (i : TickIn) (side t1 t2 : Nat) : Head :=
  let e1 := lowEdge i t1
  let e2 := lowEdge i t2
  let p := newPassage (lowPhase side e1 t1) e1.e false true
  let p := { p with phases := lowPhase 3 e2 t2 :: closePhase e2 t2 false p.phases }
  { hd with passage := some p, lastPat := 3, gap := true }

/-- The first decided tick of a restart (R140): the head as the crossing record leaves it, and whether the procedure goes on
at this tick. -/
def Head.resolveWake (hd : Head) (i : TickIn) (pat : Nat) (ca cb : Option Nat) : Head × Bool :=
  let hd := { hd with restart := none, passage := none, standing := false,
                      lastPat := if hd.passage.isSome then 0 else hd.lastPat }
  let fresh := { hd with lastPat := 0, gap := false, waiting := false }
  let unresolved := { fresh with lastPat := pat, decided := fresh.decided ++ [chWakeUnresolved] }
  match ca, cb with
  | none, none => (hd, true)
  | some t, none =>
    if pat = 0 then ({ fresh with recs := fresh.recs ++ [wakeRetreat i 1] }, false)
    else if bit pat 0 then ({ fresh with waiting := false }.wakeOpenOne i 1 t, true)
    else (unresolved, false)
  | none, some t =>
    if pat = 0 then ({ fresh with recs := fresh.recs ++ [wakeRetreat i 2] }, false)
    else if bit pat 1 then ({ fresh with waiting := false }.wakeOpenOne i 2 t, true)
    else (unresolved, false)
  | some ta, some tb =>
    if pat = 0 then (unresolved, false)
    else if ta < tb then (fresh.wakeOpenTwo i 1 ta tb, true)
    else if tb < ta then (fresh.wakeOpenTwo i 2 tb ta, true)
    else
      let e : Edge := ⟨i.tick * 16, i.ns⟩
      ({ fresh with passage := some (newPassage (newPhase pat e i.tick true) e.e true true), lastPat := pat }, false)

/-! ### One tick -/

/-- The decisions of a tick: the head with its decisions, the filtered samples, and the cancelled decisions. -/
def Head.decide (hd : Head) (c : HeadCfg) : Head × Option Int × Option Int × Option (Bool × Bool) × Option (Bool × Bool) :=
  let fa := filtered c hd.rawA
  let fb := filtered c hd.rawB
  let ka := if fa.isSome then filteredCancelled c hd.cancA else none
  let kb := if fb.isSome then filteredCancelled c hd.cancB else none
  let da := decisionHeld c.thrA c.hyst hd.dampA fa
  let db := decisionHeld c.thrB c.hyst hd.dampB fb
  let ea := decisionHeld c.thrA c.hyst hd.cdampA ka
  let eb := decisionHeld c.thrB c.hyst hd.cdampB kb
  let clip := fun l : List (Option (Int × Bool)) => match l with | some (_, x) :: _ => x | _ => false
  ({ hd with dampA := da, dampB := db, cdampA := ea, cdampB := eb }, fa, fb,
    ka.map (fun _ => (ea, clip hd.cancA)), kb.map (fun _ => (eb, clip hd.cancB)))

/-- A sighted tick: discrepancy, then the restart or the procedure. -/
def Head.sightedTick (hd : Head) (c : HeadCfg) (i : TickIn) (fa fb : Option Int) (ca cb : Option (Bool × Bool)) : Head :=
  let pat := patOf hd.dampA hd.dampB
  let hd := hd.discStep c pat (excusedTick hd.dampA hd.dampB ca cb)
  match hd.restart with
  | none => hd.sightedStep c i pat fa fb
  | some (ta, tb) =>
    match hd.resolveWake i pat ta tb with
    | (hd, true) => hd.sightedStep c i pat fa fb
    | (hd, false) => hd

/-- One tick of a head that is OK or DISTURBED (R131). -/
def Head.tick (hd : Head) (c : HeadCfg) (i : TickIn) : Head :=
  match hd.decide c with
  | (hd, fa, fb, ca, cb) =>
    let hd := if fa.isSome && fb.isSome then hd.sightedTick c i fa fb ca cb else hd.unsighted
    let hd := { hd with prevA := fa, prevB := fb }
    ((hd.standStep c).driftStep c i).quietStep c i

/-- One tick of a FAILED head: decisions, E and drift, and no passage (R143, R145, R150). -/
def Head.failedTick (hd : Head) (c : HeadCfg) (i : TickIn) : Head :=
  match hd.decide c with
  | (hd, fa, fb, ca, cb) =>
    let hd := if fa.isSome && fb.isSome then
        hd.discStep c (patOf hd.dampA hd.dampB) (excusedTick hd.dampA hd.dampB ca cb)
      else { hd with discPat := 0 }
    hd.driftStep c i

end Sys2Proof.Machine
end

