-- ==== Sys2Proof/Machine/HfeTest.lean ====
section
/-!
DEFINITION. The supply-line test (R108 to R113, R467): the scheduler, a slot's parts, the fault patterns, the repeat rule.
-/
namespace Sys2Proof.Machine

/-! ### The order (R110) -/

/-- The order moves past the position it gave; a round is completed at its end. -/
def advanceOrder (s : State) : State :=
  match s.nextPosition s.sched.position 192 with
  | none => s
  | some j =>
    let wraps := decide (j < s.sched.position % 192) || decide (j = 191)
    let s := s.when wraps (fun s => s.inc HFE_TEST_POS.ROUND)
    { s with sched := { s.sched with position := (j + 1) % 192, ordered := setBit s.sched.ordered (testSystem j) true } }

/-! ### A slot begins (R108, R113) -/

/-- A system waits for a later slot, once. -/
def deferTest (q : Nat) (s : State) : State :=
  if s.sched.deferred.contains q then s
  else { s with sched := { s.sched with deferred := s.sched.deferred ++ [q] } }

/-- The pre-pulse reference of a system: the sum of the four samples, and whether one of them excludes it (R108, R111). -/
def storeReference (q : Nat) (s : State) : State :=
  if s.sysUsed q then
    s.modSys q (fun r => { r with ref := if r.recent.length = 4 then some r.recent.sum else none,
                                  excl := r.recentExcl.any id })
  else s

/-- The supply pulse of system `q` begins (R108). -/
def startSlot (q : Nat) (s : State) : State :=
  let s := s.upTo storeReference 192
  let until_ := s.ticks + s.rd HFE_TEST_CFG0.T_OFF + s.rd HFE_TEST_CFG0.T_RST
  let s := s.modSys q (fun r => { r with blankFrom := s.ticks, blankUntil := until_ })
  let s := ((setHsup false q s).wrFlag HFE_STATUS.TEST true q).wrFlag HFE_TEST.VALID false q
  let s := s.wr HFE_TEST_POS.CUR q
  { s with sched := { s.sched with slot := some ⟨q, s.ticks, .pulse, 0, 0xFF⟩,
                                   deferred := s.sched.deferred.filter (fun x => !(x == q)) } }

/-- A slot's time comes (R110, R112, R113): an owed repeat goes ahead of the deferred systems, and these ahead of the
order; the order's system is deferred where its head is not free, and the time passes unused. In item 11 none starts that could not
end in time, nor any once it is over (R467). -/
def testSlotStart (s : State) : State :=
  if !s.schedActive || s.sched.slot.isSome || !s.slotDue || (s.itemEleven && s.linesOver) then s
  else
    let s := { s with sched := { s.sched with slotTick := some s.ticks } }
    match s.firstFree s.sched.owed with
    | some q => startSlot q s
    | none =>
      match s.firstFree s.sched.deferred with
      | some q => startSlot q s
      | none =>
        match s.orderNext with
        | none => s
        | some q =>
          let free := s.headFree (q / 2)
          let s := advanceOrder s
          if free then startSlot q s else deferTest q s

/-! ### Results (R111, R112) -/

/-- The system has changed, and is not excluded: twice the in-pulse sum against the reference sum (R111). -/
def State.changed (s : State) (q : Nat) : Bool :=
  let r := s.sys q
  match r.ref with
  | none => false
  | some ref4 =>
    s.sysUsed q && !r.excl && decide (4 * s.rd HFE_TEST_CFG1.DELTA_X < (2 * (r.recent.take 2).sum - ref4).natAbs)

/-- The tested system reads at or above THR_OPEN in the pulse. -/
def State.testedHigh (s : State) (q : Nat) : Bool :=
  decide (2 * toSigned 16 (s.rd HFE_THR0.THR_OPEN q) ≤ ((s.sys q).recent.take 2).sum)

/-- The candidate of rows 1 to 4 of R111, none for row 5. -/
def State.pulseCandidate (s : State) (q : Nat) : Option Candidate :=
  let others := filterUpTo (fun r => decide (r ≠ q) && s.changed r) 192
  let mate := q + 1 - 2 * (q % 2)
  if s.testedHigh q then
    if others.contains mate then some ⟨faultShortAB, [q, mate]⟩
    else if others.isEmpty then some ⟨faultNotOff, [q]⟩
    else some ⟨faultShortXH, q :: others⟩
  else if others.isEmpty then none
  else some ⟨faultCoupled, q :: others⟩

/-- A candidate is confirmed: each marked system takes the fault, and nothing is owed (R112). -/
def confirmCandidate (q : Nat) (c : Candidate) (s : State) : State :=
  let s := s.each (fun m s => raiseSysFault m c.code c.marked s) c.marked
  let s := s.modSys q (fun r => { r with candidate := none, candidateRun := 0 })
  { s with sched := { s.sched with owed := s.sched.owed.filter (fun x => !(x == q)) } }

/-- A candidate waits for its repeat. -/
def oweRepeat (q : Nat) (c : Candidate) (run : Nat) (s : State) : State :=
  let s := s.modSys q (fun r => { r with candidate := some c, candidateRun := run })
  if s.sched.owed.contains q then s else { s with sched := { s.sched with owed := s.sched.owed ++ [q] } }

/-- The same candidate: the same code with the same set of systems (R112). -/
def Candidate.same (a b : Candidate) : Bool :=
  decide (a.code = b.code) && a.marked.all b.marked.contains && b.marked.all a.marked.contains

/-- A test of `q` is completed with a candidate: the repeat rule of R112. -/
def testCandidate (q : Nat) (c : Candidate) (s : State) : State :=
  let r := s.sys q
  let s := s.modSys q (fun r => { r with marks := r.marks.map (fun m => { m with passes := 0 }) })
  match r.candidate with
  | none => oweRepeat q c 1 s
  | some prev =>
    if prev.same c then confirmCandidate q c s
    else
      let s := s.count HFE_COUNT.TRANSIENT q
      if 3 ≤ r.candidateRun + 1 then confirmCandidate q c s else oweRepeat q c (r.candidateRun + 1) s

/-- A test of `q` is completed with a pass: nothing is marked, a candidate before it was transient (R112), and the faults
that a pass ends end (R115). -/
def testPass (q : Nat) (s : State) : State :=
  let s := s.when (s.sys q).candidate.isSome (fun s => s.count HFE_COUNT.TRANSIENT q)
  let s := s.modSys q (fun r => { r with candidate := none, candidateRun := 0 })
  testPassClears q { s with sched := { s.sched with owed := s.sched.owed.filter (fun x => !(x == q)) } }

/-- A test of `q` is completed: its time for TEST_LATE starts again, and Proof counts it (R113, R467). -/
def testCompleted (q : Nat) (s : State) : State :=
  let s := (s.wrFlag HFE_COUNT.LATE false q).modSys q (fun r => { r with lastTest := s.ticks })
  { s with sched := { s.sched with completed := setBit s.sched.completed q true } }

/-- The running slot's result is decided. -/
def decideSlot (sl : Slot) (c : Option Candidate) (s : State) : State :=
  let s := testCompleted sl.q s
  let code := match c with | none => 0 | some c => c.code
  let partner := match c with | none => 0xFF | some c => lowestOther sl.q c.marked
  let phase := if sl.phase = .pulse then SlotPhase.restart else .guard
  let s := { s with sched := { s.sched with slot := some { sl with phase := phase, result := code, partner := partner } } }
  match c with
  | none => testPass sl.q s
  | some c => testCandidate sl.q c s

/-- The slot ends: its result is reported in `HFE_TEST`, and no system is under test. -/
def finishSlot (sl : Slot) (s : State) : State :=
  let s := ((s.outcome HFE_TEST.GEN HFE_TEST.VALID sl.q).wr HFE_TEST.RESULT sl.result sl.q).wr HFE_TEST.PARTNER sl.partner sl.q
  { (s.wr HFE_TEST_POS.CUR 0xFF) with sched := { s.sched with slot := none } }

/-- The slot's result is discarded as ABANDONED, and its system is deferred; a repeat stays owed (R112, R113). -/
def abandonSlot (sl : Slot) (s : State) : State :=
  let s := s.count HFE_COUNT.ABANDON sl.q
  let s := if s.sched.owed.contains sl.q then s else deferTest sl.q s
  { s with sched := { s.sched with slot := some { sl with phase := .blanked, result := 0xE, partner := 0xFF } } }

/-- The pulse ends: `HSUP` goes high. -/
def pulseOff (q : Nat) (s : State) : State := (setHsup true q s).wrFlag HFE_STATUS.TEST false q

/-- The end of the pulse, not before T_OFF (R111): rows 1 to 4 decide at once; a pass waits for the restart criterion. -/
def testPulseEnd (s : State) : State :=
  match s.sched.slot with
  | some sl =>
    if sl.phase = .pulse ∧ sl.start + s.rd HFE_TEST_CFG0.T_OFF ≤ s.ticks then
      let s := pulseOff sl.q s
      match s.pulseCandidate sl.q with
      | some c => decideSlot sl (some c) s
      | none => { s with sched := { s.sched with slot := some { sl with phase := .restart, result := 0xF } } }
    else s
  | none => s

/-- The restart criterion (R111): judged on the last sample of a system that passed row 5. A slot whose result rows 1 to 4
decided passes into its guard. -/
def testRestartCheck (s : State) : State :=
  match s.sched.slot with
  | some sl =>
    if sl.phase ≠ .restart ∨ s.ticks < sl.start + s.rd HFE_TEST_CFG0.T_OFF + s.rd HFE_TEST_CFG0.T_RST then s
    else if sl.result ≠ 0xF then { s with sched := { s.sched with slot := some { sl with phase := .guard } } }
    else
      let code := s.rdS HFE_SAMPLE.CODE sl.q
      let ok := decide (toSigned 16 (s.rd HFE_THR0.THR_OPEN sl.q) ≤ code)
        && decide (code < toSigned 16 (s.rd HFE_THR1.THR_SHORT sl.q))
      decideSlot sl (if ok then none else some ⟨faultNoRestart, [sl.q]⟩) s
  | none => s

/-- The guard time, or the blanking of an abandoned slot, ends, not before its time. -/
def testSlotEnd (s : State) : State :=
  match s.sched.slot with
  | some sl =>
    if (sl.phase = .guard ∧ sl.start + s.slotTicks ≤ s.ticks) ∨ (sl.phase = .blanked ∧ (s.sys sl.q).blankUntil ≤ s.ticks) then
      finishSlot sl s
    else s
  | none => s

/-- A tick boundary after a crossing cut the pulse (R113): `HSUP` goes high, blanking runs T_RST from here. -/
def testTick (s : State) : State :=
  match s.sched.slot with
  | some sl =>
    if sl.phase = .cut then
      let s := (pulseOff sl.q s).modSys sl.q (fun r => { r with blankUntil := s.ticks + s.rd HFE_TEST_CFG0.T_RST })
      abandonSlot sl s
    else s
  | none => s

/-- Entry to Dormant or to Proof, MDLL-A gating or a reset ends the slot at once (R113): a decided result stands, else the
slot is ABANDONED; `HSUP` goes high within one tick, and BLANK runs T_RST from there. -/
def endSlotNow (s : State) : State :=
  match s.sched.slot with
  | some sl =>
    match sl.phase with
    | .pulse =>
      let s := (pulseOff sl.q s).modSys sl.q (fun r => { r with blankUntil := s.ticks + 1 + s.rd HFE_TEST_CFG0.T_RST })
      let s := abandonSlot sl s
      finishSlot { sl with result := 0xE, partner := 0xFF } s
    | .cut =>
      let s := (pulseOff sl.q s).modSys sl.q (fun r => { r with blankUntil := s.ticks + 1 + s.rd HFE_TEST_CFG0.T_RST })
      let s := abandonSlot sl s
      finishSlot { sl with result := 0xE, partner := 0xFF } s
    | .restart =>
      if sl.result ≠ 0xF then finishSlot sl s
      else finishSlot { sl with result := 0xE, partner := 0xFF } (abandonSlot sl s)
    | .guard => finishSlot sl s
    | .blanked => finishSlot sl s
  | none => s

/-- TEST_LATE of a system in use (R113): 3 T_hst since its last completed test. -/
def testLate (q : Nat) (s : State) : State :=
  if s.sysUsed q ∧ (s.sys q).lastTest + 15000 * s.rd HFE_TEST_CFG0.T_HST ≤ s.ticks then s.wrFlag HFE_COUNT.LATE true q else s

/-- Proof item 11 begins: its run of the order, and its time (R467). -/
def testItemBegin (s : State) : State := { s with sched := { s.sched with ordered := 0, itemTick := s.ticks } }

/-- A Proof begins: no system has completed a test in it (R113). -/
def testProofBegin (s : State) : State := { s with sched := { s.sched with completed := 0 } }

/-- The end of Proof item 11 (R112, R467): a repeat still owed counts as confirmed. -/
def testItemEnd (s : State) : State :=
  s.each (fun q s =>
    match (s.sys q).candidate with
    | some c => confirmCandidate q c s
    | none => s) s.sched.owed

/-- The end of a Proof: a system that completed no test in it is judged late from here (R113). -/
def testProofEnd (s : State) : State :=
  s.upTo (fun q s => s.when (s.sysUsed q && !bit s.sched.completed q) (fun s => s.modSys q (fun r => { r with lastTest := s.ticks }))) 192

/-- A head fails Proof items 8 to 11 (R54, R115): a fault stands on one of its systems, or one of 0x3 to 0x9 was raised. -/
def State.headProofFails (s : State) (h : Nat) : Bool :=
  let bad := fun q => decide ((s.sys q).faults ≠ 0) || decide (8 ≤ (s.sys q).proofFaults)
  s.flag HFE_HEAD_CFG.USED h && (bad (2 * h) || bad (2 * h + 1))

end Sys2Proof.Machine
end

