-- ==== Sys2Proof/Machine/Iommu.lean ====
section
/-!
DEFINITION. Memory protection and errors, and the IOMMU (R394, R400 to R406).
-/
namespace Sys2Proof

/-- Nothing amiss was met. -/
def MemFound.clean : MemFound := ⟨[], []⟩

/-- Something in a range could not be read. -/
def MemFound.meets (f : MemFound) (a n : Nat) : Bool := f.damaged.any (fun w => decide (a ≤ w.toNat) && decide (w.toNat < a + n))

end Sys2Proof

namespace Sys2Proof.Machine


/-! ### Regions (R393, R394) -/

/-- A range lies wholly in the on-die SRAM's safety region. -/
def inSafety (a n : Nat) : Bool := decide (0x20000000 ≤ a) && decide (a + n ≤ 0x20200000)

/-- A range lies wholly in the SRAM control region. -/
def inControl (a n : Nat) : Bool := decide (0x20200000 ≤ a) && decide (a + n ≤ 0x20800000)

/-- A range lies wholly in the flash. -/
def inFlash (a n : Nat) : Bool := decide (0x40000000 ≤ a) && decide (a + n ≤ 0x42000000)

/-- A range lies wholly in the DRAM. -/
def inDram (a n : Nat) : Bool := decide (0x80000000 ≤ a) && decide (a + n ≤ 0x90000000)

/-- Some byte of a range lies in the DRAM. -/
def touchesDram (a n : Nat) : Bool := decide (a < 0x90000000) && decide (0x80000000 < a + n)

/-! ### The memory-error log (R401) -/

/-- An entry of the log, or OVERFLOW where it is full; each raises the memory-error interrupt (vector 8). -/
def logMemError (mem kind req syms addr : Nat) (s : State) : State :=
  let s := if s.errLog.length < 16 then { s with errLog := s.errLog ++ [⟨mem, kind, req, syms, addr, s.timeNs⟩] }
    else s.count DMA_ERR_LOG_STAT.OVERFLOW
  irq 8 s

/-- A read of `DMA_ERR_LOG0` (R401): words 1 to 4 are latched; an application core's read pops the oldest entry; a read of
the empty log is counted. -/
def errLogRead (pop : Bool) (s : State) : State × Nat :=
  match s.errLog with
  | [] => (s.count DMA_ERR_LOG_STAT.UNDERFLOW, 0)
  | e :: rest =>
    let s := (s.wr DMA_ERR_LOG1.ADDR e.addr).wrTime DMA_ERR_LOG2.NS DMA_ERR_LOG3.SEC_LO DMA_ERR_LOG4.SEC_HI e.timeNs
    (if pop then { s with errLog := rest } else s, e.word0)

/-- The requester codes of the log. -/
def logReqScarab : Nat := 0x40
def logReqApp : Nat := 0x41
def logReqHost : Nat := 0x42
def logReqCheck : Nat := 0x43
def logReqScrub : Nat := 0x44
def logReqWalk : Nat := 0x45

/-- An uncorrectable read of an address by a requester of the log, with the index that a Hold cause carries (R400): counted
and logged; in the safety region also Hold with SRAM_UNCORR, whoever read it. -/
def uncorrectable (addr logReq index : Nat) (s : State) : State :=
  if inFlash addr 1 then logMemError 3 2 logReq 0 addr (s.count DMA_FLASH_ECC.UE)
  else if inDram addr 1 then logMemError 1 2 logReq 0 addr (s.count DMA_DRAM_ECC.UE)
  else if inSafety addr 1 then
    raiseHold ⟨6, 0x0E, index⟩ (logMemError 2 2 logReq 0 addr (s.count DMA_SRAM_ECC.UE_SAFE))
  else logMemError 2 2 logReq 0 addr (s.count DMA_SRAM_ECC.UE_CTRL)

/-- A corrected read (R395, R398, R399): counted, and in DRAM logged where 3 or 4 symbols were corrected. -/
def correctedRead (addr logReq syms : Nat) (s : State) : State :=
  if inFlash addr 1 then s.count DMA_FLASH_ECC.CE
  else if inDram addr 1 then
    let s := s.count DMA_DRAM_ECC.CE
    s.when (decide (3 ≤ syms)) (fun s => logMemError 1 1 logReq syms addr (s.count DMA_DRAM_ECC.CE_HEAVY))
  else s.count DMA_SRAM_ECC.CE

/-- The corrected words of a range are counted (R395, R398, R399). -/
def corrections (f : MemFound) (logReq a n : Nat) (s : State) : State :=
  State.each (fun p s => correctedRead p.1.toNat logReq p.2.val s)
    (f.corrected.filter (fun p => decide (a ≤ p.1.toNat) && decide (p.1.toNat < a + n))) s

/-- The words of a range that could not be read, each read once: counted and logged (R400). -/
def damages (f : MemFound) (logReq index a n : Nat) (s : State) : State :=
  State.each (fun w s => uncorrectable w.toNat logReq index s)
    (f.damaged.filter (fun w => decide (a ≤ w.toNat) && decide (w.toNat < a + n))) s

/-- The bytes of a write, word by word of the DRAM: a word that it fills in part and whose read is uncorrectable keeps its content, and
counts; every other word is written (R396). `bs` fits in `fuel` words. -/
def storeWords (f : MemFound) (logReq index : Nat) : Nat → Nat → List Nat → State → State
  | 0, _, _, s => s
  | fuel + 1, a, bs, s =>
    if bs.isEmpty then s
    else
      let n := 32 - a % 32
      let w := a / 32 * 32
      let part := bs.take n
      let s :=
        if part.length = 32 then s.memWrite a part
        else if f.meets w 32 then uncorrectable w logReq index s
        else (corrections f logReq w 32 s).memWrite a part
      storeWords f logReq index fuel (a + n) (bs.drop n) s

/-- The bytes of a write by a requester of the log: in the DRAM word by word, elsewhere as they are. -/
def storeBytes (f : MemFound) (logReq index a : Nat) (bs : List Nat) (s : State) : State :=
  if inDram a 1 then storeWords f logReq index (bs.length + 1) a bs s else s.memWrite a bs

/-- Some word that a write fills in part cannot be read (R396). -/
def storeFails (f : MemFound) (a n : Nat) : Bool :=
  inDram a 1 && ((decide (a % 32 ≠ 0 ∨ n < 32) && f.meets (a / 32 * 32) 32)
    || (decide ((a + n) % 32 ≠ 0) && f.meets ((a + n) / 32 * 32) 32))

/-! ### Translation (R402 to R406) -/

/-- The fault types of `DMA_RING_FAULT1.TYPE`. -/
inductive TransFault where
  | notValid | perm | format | bound | domain
  deriving DecidableEq, Repr, Inhabited

/-- The code of a fault type. -/
def TransFault.code : TransFault → Nat
  | .notValid => 1 | .perm => 2 | .format => 3 | .bound => 4 | .domain => 5

/-- What a translation answers: a device address with the bytes that follow it on the same page, or a fault. -/
inductive Trans where
  | ok (pa room : Nat)
  | fault (f : TransFault)
  deriving DecidableEq, Repr, Inhabited

/-- BOUND (R405): the result lies in the DRAM, the SRAM control region or, for reads only, the flash. -/
def inBound (write : Bool) (pa : Nat) : Bool := inDram pa 1 || inControl pa 1 || (!write && inFlash pa 1)

/-- PERM, then BOUND, on a page that maps `iova` (R405). -/
def TlbEntry.check (e : TlbEntry) (write : Bool) (iova : Nat) : Trans :=
  if (if write then e.w else e.r) then
    let size := if e.big then 0x200000 else 0x1000
    let pa := e.pa + iova % size
    if inBound write pa then .ok pa (size - iova % size) else .fault .bound
  else .fault .perm

/-- The entry of the TLB that maps an IOVA in a domain. -/
def TlbEntry.hits (e : TlbEntry) (dom iova : Nat) : Bool :=
  decide (e.dom = dom) && decide (e.iova = if e.big then iova / 0x200000 * 0x200000 else iova / 0x1000 * 0x1000)

/-- The reserved bits of a table entry are 0 (R403). -/
def entryReservedOk (e : Nat) : Bool := decide (e / 2 ^ 32 = 0) && decide (bits e 4 8 = 0)

/-- What a walk finds: a page to hold in the TLB, or a fault (R403, R405). -/
inductive Walk where
  | page (e : TlbEntry)
  | fault (f : TransFault)
  deriving DecidableEq, Repr, Inhabited

/-- The level-2 entry of a walk. -/
def walkLevel2 (dom iova e2 : Nat) : Walk :=
  if !bit e2 0 then .fault .notValid
  else if !entryReservedOk e2 || !bit e2 1 then .fault .format
  else .page ⟨dom, iova / 0x1000 * 0x1000, false, bits e2 12 20 * 0x1000, bit e2 2, bit e2 3⟩

/-- An entry of a table, which lies in the SRAM control region or the DRAM; elsewhere what is read is open. -/
def State.tableEntry (s : State) (a : Nat) : Nat :=
  if inControl a 8 || inDram a 8 then s.memLE a 8 else (Config.strayEntry a).toNat

/-- The address of the level-1 entry of an IOVA, and that of the level-2 entry to which it points. -/
def State.entryAt1 (s : State) (dom iova : Nat) : Nat := s.rd DMA_IOMMU_CTX1.ROOT dom * 0x4000 + 8 * (iova / 0x200000)
def State.entryAt2 (s : State) (dom iova : Nat) : Nat :=
  bits (s.tableEntry (s.entryAt1 dom iova)) 12 20 * 0x1000 + 8 * bits iova 12 9

/-- A table walk of one or two reads (R403). NOT_VALID at either level comes before FORMAT at the level before it. -/
def State.walk (s : State) (dom iova : Nat) : Walk :=
  let e1 := s.tableEntry (s.entryAt1 dom iova)
  if !bit e1 0 then .fault .notValid
  else if bit e1 1 then
    if !entryReservedOk e1 || decide (bits e1 12 9 ≠ 0) then .fault .format
    else .page ⟨dom, iova / 0x200000 * 0x200000, true, bits e1 21 11 * 0x200000, bit e1 2, bit e1 3⟩
  else
    let e2 := s.tableEntry (s.entryAt2 dom iova)
    if !bit e2 0 then .fault .notValid
    else if !entryReservedOk e1 then .fault .format
    else walkLevel2 dom iova e2

/-- A translation fault is counted. -/
def countFault (t : Trans) (s : State) : State :=
  match t with
  | .ok _ _ => s
  | .fault _ => s.count DMA_IOMMU_STAT.FAULT

/-- A translation that the TLB does not hold: by the domain's mode, which applies from the next walk (R402, R406); only a translation
that passes enters the TLB. -/
def translateMiss (dom : Nat) (write : Bool) (iova : Nat) (s : State) : State × Trans :=
  let mode := s.rd DMA_IOMMU_CTX0.MODE dom
  if mode = 2 then
    let t := if inBound write iova then Trans.ok iova (0x1000 - iova % 0x1000) else .fault .bound
    (countFault t s, t)
  else if mode ≠ 1 then (countFault (.fault .domain) s, .fault .domain)
  else
    let s := s.count DMA_IOMMU_STAT.MISS
    match s.walk dom iova with
    | .fault f => (countFault (.fault f) s, .fault f)
    | .page e =>
      match e.check write iova with
      | .ok pa room => ({ s with tlb := (e :: s.tlb).take 64 }, .ok pa room)
      | .fault f => (countFault (.fault f) s, .fault f)

/-- A translation under a domain (R402 to R405): the TLB's entry moves to the front (least recently used goes first), and serves
until it is invalidated, whatever the domain's mode has become (R406). -/
def translate (dom : Nat) (write : Bool) (iova : Nat) (s : State) : State × Trans :=
  match s.tlb.find? (fun e => e.hits dom iova) with
  | some e =>
    let t := e.check write iova
    (countFault t { s with tlb := e :: s.tlb.filter (fun x => !(x == e)) }, t)
  | none => translateMiss dom write iova s

/-- The entry of a table that a translation reads, at either level, and that cannot be read (R400). -/
def State.walkDamage (s : State) (f : MemFound) (dom iova : Nat) : Option Nat :=
  let a1 := s.entryAt1 dom iova
  let a2 := s.entryAt2 dom iova
  let e1 := s.tableEntry a1
  if s.tlb.any (fun e => e.hits dom iova) || decide (s.rd DMA_IOMMU_CTX0.MODE dom ≠ 1) then none
  else if f.meets a1 8 then some a1
  else if bit e1 0 && !bit e1 1 && f.meets a2 8 then some a2
  else none

/-- An invalidation request (R406): the entries of its scope leave the TLB; the result is pending until no beat can still use one. One
that comes while another is pending is refused with BUSY. -/
def iommuInvalidate (scope dom iova : Nat) (s : State) : State :=
  let goes : TlbEntry → Bool := fun e =>
    if scope = 0 then true
    else if scope = 1 then decide (e.dom = dom)
    else if scope = 2 then e.hits dom iova
    else false
  if s.invPending then s.wr DMA_IOMMU_INV_RESULT.STATUS 4
  else { s with tlb := s.tlb.filter (fun e => !goes e), invPending := true }.wrFlag DMA_IOMMU_INV_RESULT.VALID false

/-- The pending invalidation completes, with OK. -/
def invComplete (s : State) : State :=
  if s.invPending then
    ({ s with invPending := false }.outcome DMA_IOMMU_INV_RESULT.GEN DMA_IOMMU_INV_RESULT.VALID).wr DMA_IOMMU_INV_RESULT.STATUS 1
  else s

/-- By the time a register is read, the invalidation that is pending may have completed; at the next tick it surely has. -/
def invGoesOn (s : State) : State := if s.invPending then s.nextFree.when (decide (s.freeVal 1 = 1)) invComplete else s

end Sys2Proof.Machine
end

