-- ==== Sys2Proof/Machine/Rings.lean ====
section
/-!
DEFINITION. DMA rings (R407 to R419): posting, checks, transfer, completion, commands, hardware delivery.
-/
namespace Sys2Proof.Machine

/-- The record of ring `r` changed. -/
def State.modRing (s : State) (r : Nat) (f : Ring → Ring) : State := { s with rings := tmod s.rings r f }

/-- A ring with nothing posted; its budget's account goes on. -/
def Ring.anew (g : Ring) : Ring := { (default : Ring) with window := g.window, bytes := g.bytes }

/-- The ring kinds of `DMA_RING_CFG.KIND`. -/
def kindIn : Nat := 1
def kindOut : Nat := 2
def kindCopy : Nat := 3

/-- The ring changes its state, and GEN advances. -/
def ringGo (r st : Nat) (s : State) : State := (s.wr DMA_RING_STATE.STATE st r).inc DMA_RING_STATE.GEN r

/-- A command outcome (R419): `CMD_RES` and GEN. -/
def ringResult (r : Nat) (ok : Bool) (s : State) : State :=
  (s.wr DMA_RING_STATE.CMD_RES (if ok then 1 else 5) r).inc DMA_RING_STATE.GEN r

/-- SIZE as the engine uses it: 1 to 4,096 (R407). -/
def State.ringSize (s : State) (r : Nat) : Nat := max 1 (min 4096 (s.rd DMA_RING_CFG.SIZE r))

/-- WRAP: the largest multiple of SIZE that does not exceed 65,536 (R407). -/
def State.ringWrap (s : State) (r : Nat) : Nat := 65536 / s.ringSize r * s.ringSize r

/-- Descriptor memory addresses of the ring are IOVAs; never on rings 0 to 7 (R402). -/
def State.ringTranslates (s : State) (r : Nat) : Bool := decide (8 ≤ r) && s.flag DMA_RING_CFG.TRANSLATE r

/-- How many descriptors are posted and not completed: HEAD - TAIL modulo WRAP. -/
def State.ringLevel (s : State) (r head : Nat) : Nat :=
  (head + s.ringWrap r - s.rd DMA_RING_TAIL.TAIL r) % s.ringWrap r

/-! ### Checks at posting (R408, R409) -/

/-- An untranslated memory range lies wholly in one region the ring may use (R394). -/
def regionOk (r : Nat) (write : Bool) (a n : Nat) : Bool :=
  if r < 8 then inSafety a n else inControl a n || inDram a n || (!write && inFlash a n)

/-- SRC_SP and DST_SP of CTRL: 0 device memory, 1 host, 2 port. -/
def srcSpace (ctrl : Nat) : Nat := ctrl % 4
def dstSpace (ctrl : Nat) : Nat := ctrl / 4 % 4

/-- The spaces suit the ring's kind: IN from a port to memory, OUT the reverse, COPY from memory to memory, or between device and host
memory; host space only on a ring whose port is PCIe (R409). -/
def State.spacesOk (s : State) (r ctrl : Nat) : Bool :=
  let a := srcSpace ctrl
  let b := dstSpace ctrl
  let kind := s.rd DMA_RING_CFG.KIND r
  let suit :=
    if kind = kindIn then decide (a = 2) && decide (b = 0)
    else if kind = kindOut then decide (a = 0) && decide (b = 2)
    else if kind = kindCopy then decide (a < 2) && decide (b < 2) && decide (a = 0 ∨ b = 0)
    else false
  suit && (decide (a ≠ 1 ∧ b ≠ 1) || decide (s.rd DMA_RING_CFG.PORT r = Config.pciePort.toNat))

/-- A side of a descriptor passes: a port; host space, but not on rings 0 to 7 (R35); device memory that is translated, or lies in a
region of the ring. -/
def State.addrOk (s : State) (r : Nat) (write : Bool) (space a n : Nat) : Bool :=
  decide (space = 2) || (if space = 1 then decide (8 ≤ r) else s.ringTranslates r || regionOk r write a n)

/-- The first addresses of the descriptor and completion arrays (R407). -/
def State.descArray (s : State) (r : Nat) : Nat := s.rd DMA_RING_DBASE.BASE r / 32 * 32
def State.doneArray (s : State) (r : Nat) : Nat := s.rd DMA_RING_CBASE.BASE r / 16 * 16

/-- Both arrays lie where R394 lets the ring's lie: those of rings 0 to 7 in the safety region, no others there. -/
def State.arraysOk (s : State) (r : Nat) : Bool :=
  regionOk r true (s.doneArray r) (16 * s.ringSize r) && regionOk r false (s.descArray r) (32 * s.ringSize r)

/-- The descriptor has a deadline: class B, and queue 3 of an Ethernet egress ring (R408). -/
def State.hasDeadline (s : State) (r ctrl : Nat) : Bool :=
  decide (ringClass r = 3) || (decide (16 ≤ r ∧ r < 24) && decide (s.rd DMA_RING_CFG.KIND r = kindOut) && decide (ctrl / 64 % 4 = 3))

/-- The reason a descriptor is refused at posting, if it is: FORMAT 0x03 before ADDR 0x02 (R409). -/
def State.refuseReason (s : State) (r src dst len deadline ctrl reserved : Nat) : Option Nat :=
  let a := srcSpace ctrl
  let b := dstSpace ctrl
  if reserved ≠ 0 ∨ len = 0 ∨ 16777216 < len ∨ (s.hasDeadline r ctrl ∧ 10000 < deadline) ∨ a = 3 ∨ b = 3
      ∨ (a = 0 ∧ 2 ^ 32 ≤ src) ∨ (b = 0 ∧ 2 ^ 32 ≤ dst) ∨ (a = 2 ∧ src ≠ 0) ∨ (b = 2 ∧ dst ≠ 0)
      ∨ !s.spacesOk r ctrl then some 3
  else if !s.arraysOk r || !s.addrOk r false a src len || !s.addrOk r true b dst len then some 2
  else none

/-- The ring stands (R417): MDLL-A is gated, in Dormant, or its arrays lie in a DRAM that is in self-refresh. -/
def State.ringStands (s : State) (r : Nat) : Bool :=
  !s.mdllA || decide (s.mode = .dormant)
    || (!s.mdllB && (touchesDram (s.descArray r) (32 * s.ringSize r) || touchesDram (s.doneArray r) (16 * s.ringSize r)))

/-- The descriptor of count `n`, posted at a tick, fetched from the array and checked (R408, R409); `waited` where the ring stood. -/
def State.fetchDesc (s : State) (r n tick : Nat) (waited : Bool) : Desc :=
  let a := s.descArray r + 32 * (n % s.ringSize r)
  let src := s.memLE a 8
  let dst := s.memLE (a + 8) 8
  let len := s.memLE (a + 16) 4
  let deadline := s.memLE (a + 22) 2
  let ctrl := s.memLE (a + 24) 1
  { seq := n, src := src, dst := dst, len := len, tag := s.memLE (a + 20) 2, deadline := deadline, ctrl := ctrl,
    refuse := s.refuseReason r src dst len deadline ctrl (s.memLE (a + 25) 7),
    abort := none, started := false, done := 0, delay := 0, late := none, resumed := false, preempted := false,
    corrected := false, pauseTicks := 0, postedTick := tick, waited := waited, finished := none, already := false }

/-- The deadline of a descriptor that has not started has passed, counted from its posting; 0 selects the ring's default (R408, R413). -/
def State.overdue (s : State) (r : Nat) (d : Desc) : Bool :=
  let ms := if d.deadline = 0 then s.rd DMA_RING_BUDGET.DEF_DEADLINE r else d.deadline
  s.hasDeadline r d.ctrl && !d.started && decide (50 * ms ≤ s.ticks - d.postedTick)

/-- `k` descriptors from count `n` on, posted now, in posting order. -/
def State.fetchDescs (s : State) (r : Nat) : Nat → Nat → List Desc
  | _, 0 => []
  | n, k + 1 => s.fetchDesc r n s.ticks false :: s.fetchDescs r ((n + 1) % s.ringWrap r) k

/-! ### Completion (R410, R411) -/

/-- The outcome codes of a completion. -/
def onTime : Nat := 0
def late : Nat := 1
def refused : Nat := 2
def aborted : Nat := 3

/-- The reason codes of a completion (R410). -/
def reasonLoad : Nat := 1
def reasonAddr : Nat := 2
def reasonFormat : Nat := 3
def reasonMode : Nat := 4
def reasonHost : Nat := 5
def reasonMemUncorr : Nat := 6
def reasonFault : Nat := 7
def reasonLink : Nat := 8
def reasonBound : Nat := 0x10
def reasonEgress : Nat := 0x11
def reasonBudget : Nat := 0x12

/-- The descriptors from count `n` on that were posted while the ring stood: the ticks, and which are to be aborted. -/
def State.fetchLate (s : State) (r : Nat) : Nat → List (Nat × Bool) → List Desc
  | _, [] => []
  | n, p :: ps =>
    { s.fetchDesc r n p.1 true with abort := if p.2 then some reasonHost else none } :: s.fetchLate r ((n + 1) % s.ringWrap r) ps

/-- The 16 bytes of a completion (R410). -/
def completionBytes (d : Desc) (outcome reason : Nat) (phase : Bool) : List Nat :=
  toBytesLE 2 d.tag ++ toBytesLE 2 d.seq ++ toBytesLE 4 d.done ++ toBytesLE 4 (sat 32 d.delay)
    ++ [outcome % 4 + 4 * b2n d.already + 8 * b2n d.resumed + 16 * b2n d.preempted + 32 * b2n d.corrected + 128 * b2n phase, reason]
    ++ toBytesLE 2 (sat 16 (d.pauseTicks / 50))

/-- The owner's completion interrupt, where the descriptor asks: vector r for a host-owned ring, else the cores' line. -/
def completionIrq (r : Nat) (d : Desc) (s : State) : State :=
  if !bit d.ctrl 4 then s
  else if s.rd DMA_RING_CFG.OWNER r = 2 then (if 16 ≤ r ∧ r < 32 then irq r s else s)
  else s.emit (.coreIrq 0x0E r)

/-- The outcome counters (R420). -/
def countOutcome (r outcome reason : Nat) (s : State) : State :=
  let s := s.inc DMA_RING_CNT.COMPLETED r
  let s := s.when (outcome = late) (fun s => s.count DMA_RING_CNT.LATE r)
  let s := s.when (outcome = refused) (fun s => s.count DMA_RING_CNT.REFUSED r)
  let s := s.when (decide (outcome = late) && decide (ringClass r = 1)) (fun s => s.count DMA_CLASS_CNT0.LATE_C)
  let s := s.when (decide (outcome = late) && decide (ringClass r = 2)) (fun s => s.count DMA_CLASS_CNT0.LATE_T)
  let s := s.when (decide (outcome = late) && decide (reason = reasonBudget)) (fun s => s.count DMA_CLASS_CNT1.OVER_BUDGET)
  s.when (decide (outcome = refused) && decide (reason = reasonLoad) && decide (ringClass r = 3))
    (fun s => s.count DMA_CLASS_CNT1.REFUSED_B)

/-- The ring stops once the descriptor in service has finished (R419). -/
def ringStopDue (r : Nat) (s : State) : State :=
  if (s.ring r).stopping then ringGo r ringStopped (s.modRing r (fun g => { g with stopping := false })) else s

/-- A completion is stored; one outside the ring's region is discarded, and recorded (R394). -/
def storeDone (r a : Nat) (bs : List Nat) (s : State) : State :=
  if regionOk r true a 16 then s.memWrite a bs else accessError (.ring (Fin.ofNat 32 r)) .notPermitted true a s

/-- The oldest descriptor of the ring completes: its 16 bytes are written at its slot, TAIL advances, PHASE alternates at
the wrap of the array, the counters and the interrupt follow (R410, R411). -/
def ringComplete (r : Nat) (d : Desc) (outcome reason : Nat) (s : State) : State :=
  let slot := d.seq % s.ringSize r
  let phase := s.flag DMA_RING_STATE.PHASE r
  let tail := (d.seq + 1) % s.ringWrap r
  let s := storeDone r (s.doneArray r + 16 * slot) (completionBytes d outcome reason phase) s
  let s := (s.wr DMA_RING_TAIL.TAIL tail r).wr DMA_RING_TAIL.CDONE tail r
  let s := s.when (slot + 1 = s.ringSize r) (fun s => s.wrFlag DMA_RING_STATE.PHASE (!phase) r)
  let s := (s.wrFlag DMA_RING_STATE.BUSY false r).modRing r (fun g =>
    { g with queue := g.queue.tail, doneCount := g.doneCount + 1, doneTick := s.ticks })
  ringStopDue r (completionIrq r d (countOutcome r outcome reason s))

/-- The descriptor moves no further byte. -/
def Desc.ended (d : Desc) : Bool := d.finished.isSome || d.refuse.isSome || d.abort.isSome

/-- The descriptor at the head has ended: its completion is written, or waits until it can be (R417). -/
def ringFinish (r : Nat) (d : Desc) (outcome reason : Nat) (s : State) : State :=
  if s.ringStands r then
    s.modRing r (fun g => { g with queue := { d with finished := some (outcome, reason) } :: g.queue.tail })
  else ringComplete r d outcome reason s

/-- Descriptors at the head of the queue that move no byte complete as their turn comes: those that have ended, refused at posting,
aborted, or of class B and not started by their deadline (R413). -/
def ringDrainDead (r : Nat) : Nat → State → State
  | 0, s => s
  | n + 1, s =>
    match (s.ring r).queue with
    | [] => s
    | d :: _ =>
      match d.finished with
      | some o => ringDrainDead r n (ringComplete r d o.1 o.2 s)
      | none =>
        match d.refuse with
        | some why => ringDrainDead r n (ringComplete r d refused why s)
        | none =>
          match d.abort with
          | some why => ringDrainDead r n (ringComplete r d aborted why s)
          | none =>
            if ringClass r = 3 ∧ s.overdue r d then ringDrainDead r n (ringComplete r d refused reasonLoad s) else s

/-- The ring's dead descriptors are drained, unless it stands. -/
def ringDrain (r : Nat) (s : State) : State :=
  if s.ringStands r then s else ringDrainDead r (s.ring r).queue.length s

/-- How many posted descriptors stand once HEAD goes back to a count: those before it, and the one in service. -/
def State.ringKeeps (s : State) (r head : Nat) : Nat :=
  max (s.ringLevel r head) (match (s.ring r).queue with | d :: _ => b2n d.started | [] => 0)

/-- What was posted while the ring stood is fetched. -/
def ringFetch (r : Nat) (s : State) : State :=
  let ps := (s.ring r).unfetched
  if ps.isEmpty then s
  else
    let from0 := (s.rd DMA_RING_HEAD.HEAD r + s.ringWrap r - ps.length) % s.ringWrap r
    let new := s.fetchLate r from0 ps
    s.modRing r (fun g => { g with queue := g.queue ++ new, unfetched := [] })

/-- A write of HEAD (R407): ignored with OVERPOST where it is WRAP or more or would overfill the ring; else the new
descriptors are fetched, checked and queued, or posts are taken back. -/
def ringPost (r head : Nat) (s : State) : State :=
  if s.ringWrap r ≤ head ∨ s.ringSize r < s.ringLevel r head then s.wrFlag DMA_RING_STATE.OVERPOST true r
  else if s.ringLevel r head < s.ringLevel r (s.rd DMA_RING_HEAD.HEAD r) then
    let k := s.ringKeeps r head
    (s.wr DMA_RING_HEAD.HEAD head r).modRing r (fun g =>
      { g with queue := g.queue.take k, unfetched := g.unfetched.take (k - g.queue.length) })
  else
    let old := s.rd DMA_RING_HEAD.HEAD r
    let n := (head + s.ringWrap r - old) % s.ringWrap r
    if s.ringStands r then
      (s.wr DMA_RING_HEAD.HEAD head r).modRing r (fun g => { g with unfetched := g.unfetched ++ List.replicate n (s.ticks, false) })
    else
      let s := ringFetch r s
      let new := s.fetchDescs r old n
      let s := (s.wr DMA_RING_HEAD.HEAD head r).modRing r (fun g => { g with queue := g.queue ++ new })
      s.when (s.ringState r = ringRun) (ringDrain r)

/-- Hardware that has consumed a completion posts its buffer again (R407). -/
def ringRepost (r : Nat) (s : State) : State := ringPost r ((s.rd DMA_RING_HEAD.HEAD r + 1) % s.ringWrap r) s

/-! ### Transfer -/

/-- The device address of a byte of a descriptor, as its translation gives it now. -/
def State.deviceAddr (s : State) (r : Nat) (write : Bool) (a : Nat) : Nat :=
  if s.ringTranslates r then
    match (translate (s.rd DMA_RING_CFG.DOM r) write a s).2 with
    | .ok pa _ => pa
    | .fault _ => a
  else a

/-- Some byte of one side of a descriptor lies in the DRAM. -/
def State.sideInDram (s : State) (r : Nat) (write : Bool) (a n : Nat) : Bool :=
  if s.ringTranslates r then
    anyUpTo (fun p => decide (a / 4096 + p ≤ (a + n - 1) / 4096) && inDram (s.deviceAddr r write (max a ((a / 4096 + p) * 4096))) 1)
      (n / 4096 + 2)
  else touchesDram a n

/-- Beats of the descriptor wait (R417): MDLL-A gated, Dormant, or MDLL-B gated and the DRAM or PCIe concerned. -/
def State.ringWaits (s : State) (r : Nat) (d : Desc) : Bool :=
  !s.mdllA || decide (s.mode = .dormant)
    || (!s.mdllB && ((decide (srcSpace d.ctrl = 0) && s.sideInDram r false d.src d.len)
      || (decide (dstSpace d.ctrl = 0) && s.sideInDram r true d.dst d.len)
      || decide (srcSpace d.ctrl = 1) || decide (dstSpace d.ctrl = 1)))

/-- The bytes of device ranges. -/
def readRanges (s : State) (ps : List (Nat × Nat)) : List Nat := ps.flatMap (fun p => s.memBytes p.1 p.2)

/-- The owner's fault interrupt (R416): the vector of a host-owned ring, for the manual gives it no other, else the cores' line. -/
def ownerFault (r : Nat) (s : State) : State :=
  if s.rd DMA_RING_CFG.OWNER r = 2 then s.when (decide (16 ≤ r) && decide (r < 32)) (irq r) else s.emit (.coreIrq 0x0E r)

/-- The ring pauses at a translation fault (R416): the fault registers, the interrupt, PAUSED. -/
def ringPause (r iova done : Nat) (write : Bool) (f : TransFault) (s : State) : State :=
  let s := (s.wr DMA_RING_FAULT0.IOVA iova r).wr DMA_RING_FAULT1.TYPE f.code r
  let s := (s.wrFlag DMA_RING_FAULT1.WRITE write r).wr DMA_RING_FAULT1.DONE done r
  let s := s.modRing r (fun g => { g with pausedTick := s.ticks })
  ownerFault r (ringGo r ringPaused (s.wrFlag DMA_RING_STATE.BUSY true r))

/-- The bytes that the end lets through. -/
def endLimit (e : DescEnd) (len : Nat) : Nat :=
  match e with
  | .all => len | .memUncorr n _ => min n len | .walkUncorr n _ => min n len | .portStop n => min n len | .link n => min n len

/-- The LATE reason by the bound of the class (R413): none for class B, and none within the bound. -/
def lateReason (cls delay : Nat) (overBudget : Bool) : Option Nat :=
  if cls = 0 then (if 2 < delay then some reasonBound else none)
  else if cls = 1 then (if 20 < delay then some (if overBudget then reasonBudget else reasonBound) else none)
  else if cls = 2 then (if 50 < delay then some reasonBound else none)
  else none

/-- The outcome of a descriptor at its first beat (R413, R416); `isOver` where that is over-budget work. -/
def Desc.begin (d : Desc) (r : Nat) (isOver : Bool) (v : Service) : Desc :=
  let d := if d.started then d
    else { d with started := true, delay := v.delay, late := lateReason (ringClass r) v.delay isOver }
  { d with preempted := d.preempted || v.preempted }

/-- The end of a served descriptor by how it ended. -/
def descFinish (r : Nat) (d : Desc) (e : DescEnd) (s : State) : State :=
  match e with
  | .all => match d.late with
    | some why => ringFinish r d late why s
    | none => ringFinish r d onTime 0 s
  | .memUncorr _ write =>
    let at0 := s.deviceAddr r write ((if write then d.dst else d.src) + d.done)
    ringFinish r d aborted reasonMemUncorr (uncorrectable at0 r r s)
  | .walkUncorr _ level2 =>
    let dom := s.rd DMA_RING_CFG.DOM r
    let iova := if srcSpace d.ctrl = 0 then d.src + d.done else d.dst + d.done
    ringFinish r d aborted reasonMemUncorr
      (uncorrectable (if level2 then s.entryAt2 dom iova else s.entryAt1 dom iova) logReqWalk r s)
  | .portStop _ => ringFinish r d aborted reasonMode s
  | .link _ => ringFinish r d aborted reasonLink s

/-- A transfer writes only part of the DRAM word that holds its byte `n`, and so reads it first (R396). -/
def State.partWord (s : State) (r : Nat) (d : Desc) (n : Nat) : Bool :=
  decide (dstSpace d.ctrl = 0) && inDram (s.deviceAddr r true (d.dst + n)) 1
    && (decide ((d.dst + n) % 32 ≠ 0) || decide (d.len < n + 32))

/-- A service as the ring can have it: class S waits longer than its bound only across a gating of MDLL-A (R413); an end that has no
memory, walk, port or link to come from does not arise. -/
def State.fitService (s : State) (r : Nat) (d : Desc) (v : Service) : Service :=
  let can := match v.ending with
    | .all => true
    | .memUncorr n write => if write then s.partWord r d n else decide (srcSpace d.ctrl = 0)
    | .walkUncorr _ _ => s.ringTranslates r && (decide (srcSpace d.ctrl = 0) || decide (dstSpace d.ctrl = 0))
    | .portStop _ => decide (srcSpace d.ctrl = 2) || decide (dstSpace d.ctrl = 2)
    | .link _ => decide (srcSpace d.ctrl ≠ 0) || decide (dstSpace d.ctrl ≠ 0)
  { v with delay := if ringClass r = 0 ∧ !d.waited then min v.delay 2 else v.delay, ending := if can then v.ending else .all }

/-- The bytes a descriptor has to move this time: as many as the port offers on an IN ring, else LEN. -/
def Desc.goal (d : Desc) (v : Service) : Nat :=
  if srcSpace d.ctrl = 2 then min d.len (d.done + v.data.length) else d.len

/-- Where the next byte of one side of a transfer lies, with the bytes that follow it on its page: translated at the first beat and at
every page crossing (R404). A port or the host has no address and no pages. -/
def sideAt (r space : Nat) (write : Bool) (addr : Nat) (here : Nat × Nat) (s : State) : State × Trans :=
  if space ≠ 0 then (s, .ok 0 (2 ^ 32))
  else if here.2 ≠ 0 then (s, .ok here.1 here.2)
  else if s.ringTranslates r then translate (s.rd DMA_RING_CFG.DOM r) write addr s
  else (s, .ok addr (2 ^ 32))

/-- What a run of beats has done: the bytes moved in all, those handed to the port or the host, the device ranges that it read or
wrote, and the fault that stopped it, on the destination side where the flag says so. -/
structure Moved where
  pos : Nat
  out : List Nat
  parts : List (Nat × Nat)
  stop : Option (Bool × TransFault)
  deriving DecidableEq, Repr, Inhabited

/-- Beats from offset `pos` up to `goal`, each read and then written; between two memories in beats of 64 bytes (R412), else page by
page. `a` and `b` are where the two sides stand on their pages; `fuel` bounds the steps. -/
def moveBeats (r : Nat) (d : Desc) (goal : Nat) (v : Service) : Nat → Nat → Nat × Nat → Nat × Nat → State → State × Moved
  | 0, pos, _, _, s => (s, ⟨pos, [], [], none⟩)
  | fuel + 1, pos, a, b, s =>
    if goal ≤ pos then (s, ⟨pos, [], [], none⟩)
    else
      match sideAt r (srcSpace d.ctrl) false (d.src + pos) a s with
      | (s, .fault f) => (s, ⟨pos, [], [], some (false, f)⟩)
      | (s, .ok pa ra) =>
        match sideAt r (dstSpace d.ctrl) true (d.dst + pos) b s with
        | (s, .fault f) => (s, ⟨pos, [], [], some (true, f)⟩)
        | (s, .ok pb rb) =>
          let both := decide (srcSpace d.ctrl = 0) && decide (dstSpace d.ctrl = 0)
          let n := min (min ra rb) (min (goal - pos) (if both then 64 else goal))
          let bs := if srcSpace d.ctrl = 0 then s.memBytes pa n else slice v.data (pos - d.done) n
          let toMem := decide (dstSpace d.ctrl = 0)
          match moveBeats r d goal v fuel (pos + n) (pa + n, ra - n) (pb + n, rb - n) (s.when toMem (fun s => s.memWrite pb bs)) with
          | (s, m) =>
            (s, { m with out := if toMem then m.out else bs ++ m.out,
                         parts := (if srcSpace d.ctrl = 0 then [(pa, n)] else []) ++ (if toMem then [(pb, n)] else []) ++ m.parts })

/-- The correctable errors among the beats of a run: counted, and reported (R395, R398, R399, R410). -/
def ringCorrected (r : Nat) (found : List (Word × Fin 8)) (parts : List (Nat × Nat)) (s : State) : State × Bool :=
  let hits := found.filter (fun c => parts.any (fun p => decide (p.1 ≤ c.1.toNat) && decide (c.1.toNat < p.1 + p.2)))
  (s.each (fun c s => correctedRead c.1.toNat r c.2.val s) hits, !hits.isEmpty)

/-- Bytes moved are metered in the window of 100 µs under way (R414). -/
def meterBytes (r n : Nat) (s : State) : State :=
  let w := s.ticks / 5
  s.modRing r (fun g => { g with window := w, bytes := (if g.window = w then g.bytes else 0) + n })

/-- The descriptor at the head of a running ring moves its bytes up to `goal`, or to a translation fault that pauses the ring with
every earlier beat complete (R409 to R416): the state, the descriptor, and whether the ring paused. -/
def ringMove (r : Nat) (d : Desc) (v : Service) (goal : Nat) (s : State) : State × Desc × Bool :=
  match moveBeats r d goal v (goal - d.done + 1) d.done (0, 0) (0, 0) s with
  | (s, m) =>
    match ringCorrected r v.corrected m.parts s with
    | (s, c) =>
      let s := meterBytes r (m.pos - d.done) (s.when (!m.out.isEmpty) (fun s => s.emit (.portData r m.out)))
      let d := { d with done := m.pos, corrected := d.corrected || c }
      let s := s.modRing r (fun g => { g with queue := d :: g.queue.tail })
      match m.stop with
      | some (write, f) => (ringPause r ((if write then d.dst else d.src) + d.done) d.done write f s, d, true)
      | none => (s, d, false)

/-- The descriptor is served to its end, or to a fault. -/
def ringServe (r : Nat) (d : Desc) (isOver : Bool) (v : Service) (s : State) : State :=
  let d := d.begin r isOver v
  match ringMove r d v (endLimit v.ending (d.goal v)) s with
  | (s, _, true) => s
  | (s, d, false) => descFinish r d v.ending s

/-- The descriptor moves `n` more bytes, and stays in service. -/
def ringPart (r n : Nat) (d : Desc) (isOver : Bool) (v : Service) (s : State) : State :=
  let d := d.begin r isOver v
  match ringMove r d v (min d.len (d.done + n)) s with
  | (s, _, true) => s
  | (s, _, false) => s.wrFlag DMA_RING_STATE.BUSY true r

/-! ### Arbitration (R412 to R415) -/

/-- The ring's next beat is over-budget work (R414): it has a budget, and has moved that much in the window under way. -/
def State.overBudget (s : State) (r : Nat) : Bool :=
  let b := 100 * s.rd DMA_RING_BUDGET.BUDGET r
  let g := s.ring r
  decide (ringClass r ≠ 0) && decide (b ≠ 0) && decide (b ≤ if g.window = s.ticks / 5 then g.bytes else 0)

/-- The memory ports that a descriptor uses next. -/
def State.descPorts (s : State) (r : Nat) (d : Desc) : List MemKind :=
  (if srcSpace d.ctrl = 0 then (memKindAt (s.deviceAddr r false (d.src + d.done))).toList else [])
    ++ (if dstSpace d.ctrl = 0 then (memKindAt (s.deviceAddr r true (d.dst + d.done))).toList else [])

/-- The live descriptor at the head of ring `q`, where its next beat is not held up. -/
def State.inService (s : State) (q : Nat) : Option Desc :=
  if s.ringState q ≠ ringRun then none
  else
    match (s.ring q).queue with
    | [] => none
    | e :: _ =>
      if e.ended || (decide (ringClass q = 3) && s.overdue q e) || s.ringWaits q e then none
      else some e

/-- The Ethernet port that an egress ring feeds, if it is one (R376, R381). -/
def State.egressPort (s : State) (r : Nat) : Option Nat :=
  if 16 ≤ r ∧ r < 24 ∧ s.rd DMA_RING_CFG.KIND r = kindOut then
    (List.range 3).find? (fun p => s.flag ETH_P_CFG.USED p && decide (s.rd DMA_RING_CFG.PORT r = (Config.ethPort p).toNat))
  else none

/-- The rest of a descriptor's beats can be granted now. Data from a port enters as the port offers it, and a frame to an Ethernet port
leaves as its own row says; whether another port or the host takes part just then is open. -/
def State.partakes (s : State) (q : Nat) (e : Desc) : Bool :=
  (decide (srcSpace e.ctrl = 0) && decide (dstSpace e.ctrl = 0))
    || (decide (srcSpace e.ctrl ≠ 2) && (s.egressPort q).isNone && bit (s.freeVal 32) q)

/-- Ring `q` has a beat at a memory port that `d` of ring `r` uses. -/
def State.rival (s : State) (r : Nat) (d : Desc) (q : Nat) : Bool :=
  decide (q ≠ r) && (match s.inService q with
    | none => false
    | some e => s.partakes q e && decide (e.done < e.len) && (s.descPorts q e).any (fun p => (s.descPorts r d).contains p))

/-- Ring `q` is granted before `r` as long as it has a beat: a higher class, or within the class in budget before over budget. -/
def State.outranks (s : State) (r : Nat) (isOver : Bool) (q : Nat) : Bool :=
  decide (ringClass q < ringClass r) || (decide (ringClass q = ringClass r) && isOver && !s.overBudget q)

/-- A service whose delay is open: within the bound of the classes S and C (R413). -/
def State.openService (s : State) (r : Nat) (bs : List Nat) : Service :=
  let x := s.freeVal 32
  ⟨if ringClass r = 0 then x % 3 else if ringClass r = 1 then x % 21 else x, false, [], bs, .all⟩

/-- The data that the host supplies for `n` bytes of a descriptor: open. -/
def State.openData (s : State) (e : Desc) (n : Nat) : List Nat :=
  if srcSpace e.ctrl = 0 then [] else toBytesLE n (s.freeVal (8 * n))

/-- Ring `q` is granted beats of `n` bytes in all, descriptor after descriptor. -/
def ringBeats (q : Nat) : Nat → Nat → State → State
  | 0, _, s => s
  | k + 1, n, s =>
    match s.inService q with
    | none => s
    | some e =>
      let m := min n (e.len - e.done)
      let v := s.openService q (s.openData e m)
      let beyond := s.overBudget q
      if n = 0 then s
      else if e.len - e.done ≤ n then ringBeats q k (n - m) (ringDrain q (ringServe q e beyond v s.nextFree))
      else ringPart q n e beyond v s.nextFree

/-- The bytes that a ring has left to move. -/
def Ring.left (g : Ring) : Nat := (g.queue.map (fun e => e.len - e.done)).sum

/-- What a rival `q` gets while the descriptor of ring `r` is served: everything where it outranks `r`; as many beats, or one fewer,
where they take turns; else it waits: over-budget work of the same class until `r` is served, a lower class pre-empted where it had
begun (R412, R415). -/
def grantRival (r : Nat) (isOver : Bool) (beats q : Nat) (s : State) : State :=
  if s.outranks r isOver q then ringBeats q (s.ring q).queue.length (s.ring q).left s
  else if ringClass q = ringClass r then
    if s.overBudget q ∧ !isOver then s else ringBeats q (s.ring q).queue.length (64 * (beats - s.freeVal 1)) s.nextFree
  else s.modRing q (fun g => { g with queue := g.queue.map (fun e => { e with preempted := e.preempted || e.started }) })

/-- The beats of the rivals of the descriptor `d` of ring `r`, from the highest class down. -/
def grantRivals (r : Nat) (d : Desc) (isOver : Bool) (s : State) : State :=
  s.nextFree.each (grantRival r isOver ((d.len - d.done + 63) / 64)) (filterUpTo (s.rival r d) 32)

/-- The arbiter serves a descriptor (R412): the rivals that outrank it first; a descriptor that had begun is pre-empted by those of a
higher class. -/
def arbitrate (r : Nat) (d : Desc) (v : Service) (s : State) : State :=
  let v := s.fitService r d v
  let isOver := s.overBudget r
  let lost := d.started && anyUpTo (fun q => s.rival r d q && decide (ringClass q < ringClass r)) 32
  ringServe r d isOver { v with preempted := v.preempted || lost } (grantRivals r d isOver s)

/-- A descriptor of ring `r` finishes (R411): dead descriptors before it complete, then the oldest live one is served. -/
def descriptorComplete (r : Nat) (v : Service) (s : State) : State :=
  if s.ringState r ≠ ringRun then s
  else
    let s := ringDrain r s
    match s.inService r with
    | none => s
    | some d => arbitrate r d v s

/-- A translation fault at a byte offset of the descriptor in service, on its source or destination side (R416): where the
tables give a fault there, the beats before it are complete and the ring pauses. -/
def translationFault (r offset : Nat) (write : Bool) (v : Service) (s : State) : State :=
  if s.ringState r ≠ ringRun ∨ !s.ringTranslates r then s
  else
    let s := ringDrain r s
    match (s.ring r).queue with
    | [] => s
    | d :: _ =>
      let base := if write then d.dst else d.src
      if (if write then dstSpace d.ctrl else srcSpace d.ctrl) ≠ 0 ∨ d.len ≤ offset ∨ s.ringWaits r d then s
      else
        match (translate (s.rd DMA_RING_CFG.DOM r) write (base + offset) s).2 with
        | .ok _ _ => s
        | .fault _ => arbitrate r d v s

/-- Class B descriptors that have not started by their deadline (R413) are refused with LOAD. -/
def classBDeadline (r : Nat) (s : State) : State := s.when (decide (s.ringState r = ringRun)) (ringDrain r)

/-! ### Commands (R416, R418, R419) -/

/-- START: from IDLE the indices and PHASE begin anew; from STOPPED the ring goes on. -/
def ringStart (r : Nat) (s : State) : State :=
  if s.ringState r = ringIdle then
    let s := ((s.wr DMA_RING_HEAD.HEAD 0 r).wr DMA_RING_TAIL.TAIL 0 r).wr DMA_RING_TAIL.CDONE 0 r
    let s := (s.wrFlag DMA_RING_STATE.PHASE true r).modRing r Ring.anew
    ringResult r true (ringGo r ringRun s)
  else if s.ringState r = ringStopped then ringDrain r (ringResult r true (ringGo r ringRun s))
  else ringResult r false s

/-- STOP: at once, or when the descriptor in service has finished. -/
def ringStop (r : Nat) (s : State) : State :=
  if s.ringState r = ringRun then
    let s := if s.flag DMA_RING_STATE.BUSY r then s.modRing r (fun g => { g with stopping := true }) else ringGo r ringStopped s
    ringResult r true s
  else ringResult r false s

/-- The pause of the descriptor in service as far as it has come. -/
def State.pausedFor (s : State) (r : Nat) : Nat := if s.ringState r = ringPaused then s.ticks - (s.ring r).pausedTick else 0

/-- A paused ring goes on (R416): the descriptor keeps its outcome, sets RESUMED and counts its pause. -/
def ringUnpause (r : Nat) (s : State) : State :=
  if s.ringState r = ringPaused then
    let n := s.pausedFor r
    ringGo r ringRun (s.modRing r (fun g => { g with queue :=
      match g.queue with
      | [] => []
      | d :: q => { d with resumed := true, pauseTicks := d.pauseTicks + n } :: q }))
  else s

/-- RESUME: the faulting beat is translated again; a new fault pauses again (R416). -/
def ringResume (r : Nat) (s : State) : State :=
  if s.ringState r = ringPaused then
    let s := ringResult r true (ringUnpause r s)
    let iova := s.rd DMA_RING_FAULT0.IOVA r
    let write := s.flag DMA_RING_FAULT1.WRITE r
    match translate (s.rd DMA_RING_CFG.DOM r) write iova s with
    | (s, .ok _ _) => s
    | (s, .fault f) => ringPause r iova (s.rd DMA_RING_FAULT1.DONE r) write f s
  else ringResult r false s

/-- The descriptors of the queue that meet `p` are marked to end ABORTED with a reason when their turn comes. -/
def markAbort (p : Desc → Bool) (why : Nat) (q : List Desc) : List Desc :=
  q.map (fun d => if p d then { d with abort := some why } else d)

/-- The count of the unfetched descriptor number `k` of ring `r`. -/
def State.lateSeq (s : State) (r k : Nat) : Nat :=
  (s.rd DMA_RING_HEAD.HEAD r + s.ringWrap r - (s.ring r).unfetched.length + k) % s.ringWrap r

/-- A descriptor with a count is posted and has not completed. -/
def State.ringHas (s : State) (r seq : Nat) : Bool :=
  (s.ring r).queue.any (fun d => decide (d.seq = seq))
    || anyUpTo (fun k => decide (s.lateSeq r k = seq)) (s.ring r).unfetched.length

/-- The descriptor with a count has committed its last beat: its completion has been written since START, or waits to be (R418). -/
def State.ringHasDone (s : State) (r seq : Nat) : Bool :=
  (s.ring r).queue.any (fun d => decide (d.seq = seq) && d.finished.isSome)
    || (!s.ringHas r seq && decide (seq < s.ringWrap r)
      && decide ((s.rd DMA_RING_TAIL.TAIL r + s.ringWrap r - 1 - seq) % s.ringWrap r < (s.ring r).doneCount))

/-- The waiting descriptor with a count is marked. -/
def markSeq (r seq : Nat) (s : State) : State :=
  s.modRing r (fun g =>
    { g with queue := markAbort (fun d => decide (d.seq = seq)) reasonHost g.queue,
             unfetched := g.unfetched.mapIdx (fun k p => if s.lateSeq r k = seq then (p.1, true) else p) })

/-- A completion that waits to be written says that an ABORT came after the last beat. -/
def markAlready (r seq : Nat) (s : State) : State :=
  s.modRing r (fun g => { g with queue := g.queue.map (fun d => if d.seq = seq then { d with already := true } else d) })

/-- ABORT of the descriptor with a count (R418, R419): accepted in RUN, PAUSED and STOPPED; a paused ring returns to RUN. -/
def ringAbort (r seq : Nat) (s : State) : State :=
  if s.ringState r = ringIdle then ringResult r false s
  else if s.ringHasDone r seq then ringResult r true (ringUnpause r (markAlready r seq (s.wr DMA_RING_STATE.ABORT_ACK 2 r)))
  else if !s.ringHas r seq then ringResult r false s
  else
    let s := ringResult r true (s.wr DMA_RING_STATE.ABORT_ACK 1 r)
    let inHand := match (s.ring r).queue with
      | [] => none
      | d :: _ => if d.seq = seq ∧ d.started then some d else none
    match inHand with
    | some d =>
      let why := if s.ringState r = ringPaused then reasonFault else reasonHost
      let n := s.pausedFor r
      let s := s.when (s.ringState r = ringPaused) (ringGo r ringRun)
      let s := ringFinish r { d with pauseTicks := d.pauseTicks + n } aborted why s
      s.when (s.ringState r = ringRun) (ringDrain r)
    | none =>
      let s := ringUnpause r (markSeq r seq s)
      s.when (s.ringState r = ringRun) (ringDrain r)

/-- Every uncompleted descriptor completes ABORTED: FAULT for the paused one, HOST for the others (R419). -/
def flushAll (r : Nat) : Nat → State → State
  | 0, s => s
  | n + 1, s =>
    match (s.ring r).queue with
    | [] => s
    | d :: _ =>
      let o := d.finished.getD (aborted, d.abort.getD reasonHost)
      flushAll r n (ringComplete r d o.1 o.2 s)

/-- What a FLUSH has marked completes, once the ring does not stand. -/
def flushNow (r : Nat) (s : State) : State :=
  if s.ringStands r then s
  else
    let s := ringFetch r s
    (flushAll r (s.ring r).queue.length s).modRing r (fun g => { g with flushing := false })

/-- FLUSH. -/
def ringFlush (r : Nat) (s : State) : State :=
  let st := s.ringState r
  if st = ringStopped ∨ st = ringPaused then
    let n := s.pausedFor r
    let s := s.modRing r (fun g =>
      { g with flushing := true, queue := g.queue.map (fun d =>
          if d.started && decide (st = ringPaused) then { d with abort := some reasonFault, pauseTicks := d.pauseTicks + n }
          else { d with abort := some reasonHost }) })
    ringResult r true (flushNow r (s.when (st = ringPaused) (ringGo r ringStopped)))
  else ringResult r false s

/-- Something of the ring has waited for it to stand no longer. -/
def Ring.catchDue (g : Ring) : Bool :=
  !g.unfetched.isEmpty || g.flushing || (match g.queue with
    | [] => false
    | d :: _ => d.ended)

/-- A ring that stands no longer catches up (R417). -/
def ringCatchUp (r : Nat) (s : State) : State :=
  if !(s.ring r).catchDue || s.ringStands r then s
  else
    let s := ringFetch r s
    if (s.ring r).flushing then flushNow r s else s.when (s.ringState r = ringRun) (ringDrain r)

/-- Every ring at a tick. -/
def ringsTick (s : State) : State := s.upTo ringCatchUp 32

/-! ### Events (R417, R427) -/

/-- Entry to Proof and every reset: the ring becomes IDLE, and posted descriptors are lost without completions. -/
def ringToIdle (r : Nat) (s : State) : State :=
  let s := if s.ringState r = ringIdle then s else ringGo r ringIdle s
  (s.wrFlag DMA_RING_STATE.BUSY false r).modRing r Ring.anew

/-- The descriptor moves data to or from host space. -/
def Desc.hostSide (d : Desc) : Bool := decide (srcSpace d.ctrl = 1) || decide (dstSpace d.ctrl = 1)

/-- The descriptor moves data through a port. -/
def Desc.portSide (d : Desc) : Bool := decide (srcSpace d.ctrl = 2) || decide (dstSpace d.ctrl = 2)

/-- A link that went down ends the descriptors that use it ABORTED with reason LINK (R410, R427): the one in service at
once, with the pause it is in, the others as their turn comes. -/
def linkDownRing (uses : Desc → Bool) (r : Nat) (s : State) : State :=
  let n := s.pausedFor r
  let s :=
    match (s.ring r).queue with
    | [] => s
    | d :: _ =>
      if d.started && uses d && d.finished.isNone then
        ringFinish r { d with pauseTicks := d.pauseTicks + n } aborted reasonLink (s.when (s.ringState r = ringPaused) (ringGo r ringRun))
      else s
  let s := s.modRing r (fun g => { g with queue := markAbort (fun d => uses d && !d.started) reasonLink g.queue })
  s.when (s.ringState r = ringRun) (ringDrain r)

/-! ### Blocks as senders and consumers (R407) -/

/-- A block can put data into its IN ring now: the ring runs, and a live descriptor that does not wait is posted. -/
def State.ringOffers (s : State) (r : Nat) : Bool :=
  decide (s.ringState r = ringRun) && (s.ring r).queue.any (fun d => d.refuse.isNone && d.abort.isNone && !s.ringWaits r d)

/-- A block delivers data through its IN ring; the delay to the first beat is open. -/
def ringDeliver (r : Nat) (bs : List Nat) (s : State) : State := descriptorComplete r (s.openService r bs) s.nextFree

end Sys2Proof.Machine
end

