-- ==== Sys2Proof/Machine/Chafer.lean ====
section
/-!
DEFINITION. Chafer as a whole (R149 to R155): head states, records and their posting, starts and restarts, the map latch.
-/
namespace Sys2Proof.Machine

/-- The head states of `HFE_CHF_STATE.HSTATE`. -/
def headOk : Nat := 0
def headDisturbed : Nat := 1
def headFailed : Nat := 2

/-- The state of head `h`. -/
def State.hstate (s : State) (h : Nat) : Nat := s.rd HFE_CHF_STATE.HSTATE h

/-- Head `h` is in use. -/
def State.headUsed (s : State) (h : Nat) : Bool := s.flag HFE_HEAD_CFG.USED h

/-! ### Records (R153 to R155) -/

/-- The 32 bytes of a record (R154). -/
def ChRec.bytes (r : ChRec) : List Nat :=
  timeBytes r.timeNs ++ [r.head, r.kind] ++ toBytesLE 2 r.speed ++ [r.dir, r.conf] ++ toBytesLE 2 r.flags
    ++ toBytesLE 3 r.seq ++ [r.hstate, r.cause, r.reversals] ++ toBytesLE 2 r.dtOn ++ toBytesLE 2 r.dtOff
    ++ toBytesLE 2 r.dwell ++ [0, 0]

/-- `HFE_CHF_SEQ` shows the last record posted or lost; KIND only the last one posted. -/
def showSeq (r : ChRec) (posted : Bool) (s : State) : State :=
  let s := s.wr HFE_CHF_SEQ.SEQ r.seq r.head
  s.when posted (fun s => s.wr HFE_CHF_SEQ.KIND r.kind r.head)

/-- A record enters the ring, and waits there for the counting engine (R153). The recorder's blocks have no place for it: that nothing
of it is written there, in Hold or elsewhere, is the model's choice (R121, R152; log 84). -/
def postToRing (r : ChRec) (s : State) : State :=
  let s := ringDeliver (s.rd HFE_CHF_POST.RING) r.bytes s
  showSeq r true { s with chafer := { s.chafer with posted := s.chafer.posted ++ [r] } }

/-- Room for a record: the ring offers a descriptor and nothing is held before it. -/
def State.chaferReady (s : State) : Bool := s.chafer.held.isEmpty && s.ringOffers (s.rd HFE_CHF_POST.RING)

/-- A head's record gets its sequence number, the head's state and cause, and a time not before the last one (R32, R134,
R154, R155); FLAGS of a HEAD_STATE record are 0 (log 71). -/
def completeRecord (h : Nat) (r : ChRec) (s : State) : State × ChRec :=
  let t := max r.timeNs s.chafer.lastEvent
  let ok := decide (s.hstate h = headOk)
  let r := { r with timeNs := t, head := h, seq := (s.head h).seq, hstate := s.hstate h,
                    cause := if r.kind = kindHeadState then r.cause else s.rd HFE_CHF_STATE.CAUSE h,
                    flags := if r.kind = kindHeadState then 0 else r.flags / 2 * 2 + b2n (!ok) }
  let s := s.modHead h (fun hd => { hd with seq := (hd.seq + 1) % 2 ^ 24 })
  ({ s with chafer := { s.chafer with lastEvent := t } }, r)

/-- A record that finds ring and store full is lost: its number is consumed (R153). -/
def loseRecord (r : ChRec) (s : State) : State := (showSeq r false s).count HFE_CHF_POST.LOST

/-- A HEAD_STATE record of a cause. -/
def headStateRecord (cause ns : Nat) : ChRec :=
  { timeNs := ns, head := 0, kind := kindHeadState, speed := 0, dir := 0, conf := 0, flags := 0, seq := 0, hstate := 0,
    cause := cause, reversals := 0, dtOn := 0, dtOff := 0, dwell := 0 }

/-- A head enters DISTURBED or FAILED with a first cause (R149); a passage open at it is abandoned (R150). -/
def enterHeadState (h st cause : Nat) (s : State) : State :=
  let s := (s.wr HFE_CHF_STATE.HSTATE st h).wr HFE_CHF_STATE.CAUSE cause h
  let s := (s.wr HFE_CHF_CAUSE.LAST cause h).count HFE_CHF_CAUSE.N_DIST h
  s.modHead h (fun hd => { hd with passage := none, standing := false, quiet := 0 })

/-- The loss of a record disturbs its head with RING_FULL; the HEAD_STATE record of that is lost with it (R149, R153). A FAILED head
issues none. -/
def ringFull (h : Nat) (s : State) : State :=
  if s.hstate h = headFailed then s.wr HFE_CHF_CAUSE.LAST chRingFull h else
  let s := if s.hstate h = headOk then enterHeadState h headDisturbed chRingFull s else s.wr HFE_CHF_CAUSE.LAST chRingFull h
  match completeRecord h (headStateRecord chRingFull s.timeNs) s with
  | (s, r) => loseRecord r s

/-- A record of head `h` is issued: posted, held (up to 32), or lost (R153). -/
def issueRecord (h : Nat) (r : ChRec) (s : State) : State :=
  match completeRecord h r s with
  | (s, r) =>
    if s.chaferReady then postToRing r s
    else if s.chafer.held.length < 32 then { s with chafer := { s.chafer with held := s.chafer.held ++ [r] } }
    else ringFull h (loseRecord r s)

/-- A held record is posted once a descriptor is free (R153). -/
def recordPost (s : State) : State :=
  match s.chafer.held with
  | [] => s
  | r :: rest =>
    if s.ringOffers (s.rd HFE_CHF_POST.RING) then postToRing r { s with chafer := { s.chafer with held := rest } } else s

/-! ### Head states (R149) -/

/-- A cause of a disturbance is decided (R149): OK becomes DISTURBED; a DISTURBED head issues a record and keeps its first
cause; a FAILED head only notes it. -/
def disturbHead (h cause : Nat) (s : State) : State :=
  if s.hstate h = headFailed then s.wr HFE_CHF_CAUSE.LAST cause h
  else if s.hstate h = headOk then
    issueRecord h (headStateRecord cause s.timeNs) (enterHeadState h headDisturbed cause s)
  else issueRecord h (headStateRecord cause s.timeNs) (s.wr HFE_CHF_CAUSE.LAST cause h)

/-- A failure is decided: OK or DISTURBED becomes FAILED; a FAILED head notes it, and causes 0x11 and 0x12 keep it FAILED. -/
def failHead (h cause : Nat) (s : State) : State :=
  let hard := decide (cause = chSliceFault) || decide (cause = chProofFail)
  if s.hstate h = headFailed then
    (s.wr HFE_CHF_CAUSE.LAST cause h).modHead h (fun hd => { hd with sticky := hd.sticky || hard })
  else
    let s := enterHeadState h headFailed cause s
    let s := s.modHead h (fun hd => { hd with sticky := hard })
    issueRecord h (headStateRecord cause s.timeNs) s

/-- The head as it begins after a Proof (R131): filter empty, gap, no passage. Its numbers go on (R155). -/
def Head.fresh (hd : Head) : Head := { (default : Head) with gap := true, seq := hd.seq }

/-- The head as it begins when it returns from FAILED (R131): its decisions, E and the estimates go on. -/
def Head.returned (hd : Head) : Head :=
  { hd with rawA := [], rawB := [], cancA := [], cancB := [], prevA := none, prevB := none, freshA := false, freshB := false,
            lastPat := 0, gap := true, waiting := false, passage := none, standing := false, discPat := 0, waits := [],
            quiet := 0, sticky := false, faultedA := false, faultedB := false, restart := none }

/-- The record about to be issued is the HEAD_STATE record of a restart: the head is RESTARTING until a further one (R159). -/
def markRestart (h : Nat) (s : State) : State :=
  s.modHead h (fun hd => { hd with restartSeq := some ((hd.seq + 1) % 2 ^ 24) })

/-- Head `h` is RESTARTING (R159): DISTURBED with first cause RESTART, and no record since. -/
def State.restarting (s : State) (h : Nat) : Bool :=
  decide (s.hstate h = headDisturbed) && decide (s.rd HFE_CHF_STATE.CAUSE h = chRestart)
    && decide ((s.head h).restartSeq = some (s.head h).seq)

/-- A FAILED head whose system faults have all cleared returns to DISTURBED (R149). -/
def unfailHead (h : Nat) (s : State) : State :=
  let s := markRestart h ((enterHeadState h headDisturbed chRestart s).modHead h Head.returned)
  issueRecord h (headStateRecord chRestart s.timeNs) s

/-- A DISTURBED head that has been quiet for T_QUIET returns to OK (R149). -/
def headToOk (h : Nat) (s : State) : State :=
  let s := ((s.wr HFE_CHF_STATE.HSTATE headOk h).wr HFE_CHF_STATE.CAUSE chNone h).wr HFE_CHF_CAUSE.LAST chNone h
  issueRecord h (headStateRecord chNone s.timeNs) s

/-! ### A tick of a head -/

/-- The cancelled samples of a system count: it is qualified, its checks run, and no canceller slice is faulted (R31, R94, R118). -/
def State.cancellerCounts (s : State) (q : Nat) : Bool :=
  (s.sys q).qualified && s.checkSlices && !s.cancellerFaulted && decide (s.rd HFE_CANC.CLIP q ≠ 0)

/-- A system's cancelled sample of a tick, where the port has taken one (R117, R118, R128). -/
def State.cancelledAt (s : State) (q t : Nat) : Option (Int × Bool) :=
  if s.cancellerCounts q then
    ((s.sys q).corrections.find? (fun c => decide (c.tick = t))).map (fun c => (c.sample, c.clipped))
  else none

/-- Whether a system has a cancelled sample of a tick is settled (R117): its correction has come, can come no more, or does not
count. -/
def State.cancelledSettled (s : State) (q t : Nat) : Bool :=
  !s.cancellerCounts q || (s.sys q).corrections.any (fun c => decide (c.tick = t)) || decide (t + 2 ≤ s.ticks)

/-- 250 ticks have passed at a tick since the last blanking of a system by a test. -/
def SysRec.restedAt (r : SysRec) (t : Nat) : Bool := decide (r.blankUntil = 0 ∨ r.blankUntil + 250 ≤ t)

/-- The inputs of head `h` at a tick. -/
def State.tickAt (s : State) (h t ns : Nat) : TickIn :=
  { tick := t, ns := ns, faultA := s.sysFault (2 * h), faultB := s.sysFault (2 * h + 1)
    rested := (s.sys (2 * h)).restedAt t && (s.sys (2 * h + 1)).restedAt t
    free := s.freeVal 16 }

/-- The inputs of head `h` at the tick of its latest samples. -/
def State.tickIn (s : State) (h : Nat) : TickIn := s.tickAt h (s.head h).rawTick (s.head h).rawNs

/-- The lowest of the causes a tick decided, if any (R149). -/
def lowestCause : List Nat → Option Nat
  | [] => none
  | c :: cs => match lowestCause cs with | none => some c | some d => some (min c d)

/-- The counters of a record's kind. -/
def countKind (h kind : Nat) (s : State) : State :=
  if kind = kindMagnet then s.count HFE_CHF_CNT1.MAGNET h
  else if kind = kindRetreat then s.count HFE_CHF_CNT0.RETREAT h
  else s

/-- `HFE_CHF_LAST` shows the last WHEEL record. -/
def showWheel (h : Nat) (r : ChRec) (s : State) : State :=
  if r.kind = kindWheel then
    ((s.wr HFE_CHF_LAST.SPEED r.speed h).wr HFE_CHF_LAST.CONF r.conf h).wr HFE_CHF_LAST.DIR r.dir h
  else s

/-- A passage's record is issued, counted and shown. -/
def issuePassage (h : Nat) (r : ChRec) (s : State) : State := showWheel h r (countKind h r.kind (issueRecord h r s))

/-- The drift registers of a head. -/
def showDrift (h : Nat) (s : State) : State :=
  let hd := s.head h
  let ea := hd.driftA.est
  let eb := hd.driftB.est
  let na : Int := s.rd HFE_CHF_NOM_A.FREE_NOM h
  let nb : Int := s.rd HFE_CHF_NOM_B.FREE_NOM h
  let s := (s.wrS HFE_CHF_DRIFT_A.EST ea h).wrS HFE_CHF_DRIFT_A.DRIFT (if hd.driftA.ready then clipSigned 16 (ea - na) else 0) h
  (s.wrS HFE_CHF_DRIFT_B.EST eb h).wrS HFE_CHF_DRIFT_B.DRIFT (if hd.driftB.ready then clipSigned 16 (eb - nb) else 0) h

/-- What a tick decided is carried out: counts, the ended discrepancy, records in order, then its lowest cause, where a system fault
`failing` is one (R149): the fault acts at the next tick where a lower cause was decided with it (log 68). -/
def commitHead (h : Nat) (failing : Bool) (s : State) : State :=
  let hd := s.head h
  let s := s.modHead h (fun hd => { hd with decided := [], recs := [], nearMisses := 0, excusedTicks := 0, ended := none })
  let s := (s.count HFE_CHF_CNT0.NEAR_MISS h hd.nearMisses).count HFE_CHF_CNT1.EXCUSED h hd.excusedTicks
  let s := match hd.ended with | some e => s.wr HFE_CHF_DISC.E_LAST e h | none => s
  let s := s.each (issuePassage h) hd.recs
  match lowestCause hd.decided with
  | some c => disturbHead h c (showDrift h s)
  | none => (showDrift h s).when failing (failHead h chSysFault)

/-- The head's safety slice is faulted (R94). -/
def State.sliceFaulted (s : State) (h : Nat) : Bool := decide (s.rd FAB_SLICE_STATE.FAULT (s.rd LOAF_HEAD.SLICE h) ≠ 0)

/-- The cancelled samples of a tick enter the copy of the filter (R128). -/
def feedCancelled (h t : Nat) (s : State) : State :=
  let a := s.cancelledAt (2 * h) t
  let b := s.cancelledAt (2 * h + 1) t
  s.modHead h (fun hd => { hd with cancA := (a :: hd.cancA).take 31, cancB := (b :: hd.cancB).take 31 })

/-- What is left of a slice's accumulator after a sample of its filters is open (R91). -/
def sliceWorks (h : Nat) (s : State) : State :=
  let v := s.freeVal 56
  { s.nextFree with slices := tmod s.slices (s.rd LOAF_HEAD.SLICE h) (fun p => { p with acc := v }) }

/-- A tick of a head as a function of its record, with the raw samples of that tick the newest: the filters of later ones that
wait do not see it. -/
def Head.work (hd : Head) (skipA skipB : Nat) (g : Head → Head) : Head :=
  { g { hd with rawA := hd.rawA.drop skipA, rawB := hd.rawB.drop skipB } with rawA := hd.rawA, rawB := hd.rawB }

/-- A system of head `h` has just become FAULT; the head remembers which ones are (R149). -/
def State.faultRisen (s : State) (h : Nat) : Bool :=
  (s.sysFault (2 * h) && !(s.head h).faultedA) || (s.sysFault (2 * h + 1) && !(s.head h).faultedB)
def noteFaults (h : Nat) (s : State) : State :=
  let a := s.sysFault (2 * h)
  let b := s.sysFault (2 * h + 1)
  s.modHead h (fun hd => { hd with faultedA := a, faultedB := b })

/-- Tick `t` of head `h` is worked (R131, R149). -/
def workTick (h t ns : Nat) (s : State) : State :=
  let s := sliceWorks h (feedCancelled h t s)
  let i := s.tickAt h t ns
  let c := s.headCfg h
  let fault := i.faultA || i.faultB
  let risen := s.faultRisen h
  let skipA := (s.head h).waits.length + b2n (s.head h).freshA
  let skipB := (s.head h).waits.length + b2n (s.head h).freshB
  let s := noteFaults h s.nextFree
  if s.hstate h = headFailed then
    let s := commitHead h risen (s.modHead h (fun hd => hd.work skipA skipB (fun hd => hd.failedTick c i)))
    if s.rd HFE_CHF_STATE.CAUSE h = chSysFault ∧ !fault ∧ !(s.head h).sticky then unfailHead h s else s
  else
    let s := commitHead h fault (s.modHead h (fun hd => hd.work skipA skipB (fun hd => hd.tick c i)))
    if s.hstate h = headDisturbed ∧ c.tQuiet ≤ (s.head h).quiet then headToOk h s else s

/-- The waiting ticks of head `h` are worked in order, each once it is settled which cancelled samples it has, at most two ticks
after its samples (R117, log 69). -/
def chaferWork (h : Nat) : Nat → State → State
  | 0, s => s
  | n + 1, s =>
    match (s.head h).waits with
    | [] => s
    | (t, ns) :: rest =>
      if s.cancelledSettled (2 * h) t && s.cancelledSettled (2 * h + 1) t then
        chaferWork h n (workTick h t ns (s.modHead h (fun hd => { hd with waits := rest })))
      else s

/-- Both filtered samples of a tick are there: the tick waits to be worked. -/
def chaferTake (h : Nat) (s : State) : State :=
  s.modHead h (fun hd =>
    if hd.freshA && hd.freshB then { hd with freshA := false, freshB := false, waits := hd.waits ++ [(hd.rawTick, hd.rawNs)] } else hd)

/-- One tick of head `h` (R131, R149). A faulted slice has no output (R94); a fault of a system is noted there all the same. -/
def chaferTick (h : Nat) (s : State) : State :=
  if !s.chafer.running || !s.headUsed h then s
  else if s.sliceFaulted h then (noteFaults h s).when (s.faultRisen h) (failHead h chSysFault)
  else chaferWork h 3 (chaferTake h s)

/-- The canceller port takes a correction (R117): Chafer works what waited for it. -/
def correctionArrives (q tag : Nat) (corr : Int) (s : State) : State :=
  let s := cancellerCorrection q tag corr s
  s.when (s.chafer.running && s.headUsed (q / 2) && !s.sliceFaulted (q / 2)) (chaferWork (q / 2) 3)

/-- E reaches T_disc with the tick that comes (R147): the running discrepancy of the head is declared. -/
def discrepancyTimeout (h : Nat) (s : State) : State :=
  let hd := s.head h
  if s.chafer.running ∧ s.headUsed h ∧ hd.disc.isSome ∧ !hd.declared ∧ s.rd HFE_CHF_CFG1.T_DISC h ≤ hd.disc.getD 0 + 1 then
    disturbHead h chDiscrepancy (s.modHead h (fun hd =>
      { hd with disc := some (s.rd HFE_CHF_CFG1.T_DISC h), declared := true }))
  else s

/-- A passage shows no phase change for T_STAND with the tick that comes (R136). -/
def standing (h : Nat) (s : State) : State :=
  if s.chafer.running then
    let t := (s.headCfg h).tStand
    s.modHead h (fun hd => match hd.passage with
      | some p => if t ≤ p.sinceChange + 1 then { hd with passage := some { p with standing := true }, standing := true } else hd
      | none => hd)
  else s

/-- A DISTURBED head has been quiet for T_QUIET with the tick that comes (R149): it returns to OK where its conditions hold now. -/
def headQuiet (h : Nat) (s : State) : State :=
  if s.chafer.running ∧ s.headUsed h ∧ s.hstate h = headDisturbed ∧ (s.head h).quietNow (s.headCfg h) (s.tickIn h)
      ∧ (s.headCfg h).tQuiet ≤ (s.head h).quiet + 1 then
    headToOk h s
  else s

/-! ### Start, stop, restart (R140, R149, R152, R155) -/

/-- Chafer stops: Dormant, Proof, MDLL-A gated. The crossing record of R140 begins empty; one that a stop before has begun goes
on. -/
def chaferStop (s : State) : State :=
  if !s.chafer.running then s
  else { s with chafer := { s.chafer with running := false },
                systems := s.systems.map (fun p => (p.1, { p.2 with lowCross := none })) }

/-- Head `h` starts after a Proof: DISTURBED with RESTART, then FAILED where Proof failed it or its slice has faulted since the load;
an unused head is FAILED with UNUSED and issues nothing (R149, R155). The drift starts anew, and its registers show that (R143, R156). -/
def startHead (h : Nat) (s : State) : State :=
  if s.headUsed h then
    let s := showDrift h (s.modHead h Head.fresh)
    let s := markRestart h (enterHeadState h headDisturbed chRestart s)
    let s := issueRecord h (headStateRecord chRestart s.timeNs) s
    let s := s.when (s.headProofFails h) (failHead h chProofFail)
    s.when (s.sliceFaulted h) (failHead h chSliceFault)
  else
    let s := (s.wr HFE_CHF_STATE.HSTATE headFailed h).wr HFE_CHF_STATE.CAUSE chUnused h
    showDrift h ((s.wr HFE_CHF_CAUSE.LAST chUnused h).modHead h (fun hd => { (default : Head) with seq := hd.seq }))

/-- Chafer starts after a Proof. -/
def chaferStart (s : State) : State := { s with chafer := { s.chafer with running := true } }.upTo startHead 96

/-- Head `h` restarts under R140: its filter is empty, and the crossing record of its systems is read. -/
def restartHead (h : Nat) (s : State) : State :=
  if s.headUsed h then
    let a := (s.sys (2 * h)).lowCross
    let b := (s.sys (2 * h + 1)).lowCross
    s.modHead h (fun hd => { hd with rawA := [], rawB := [], cancA := [], cancB := [], prevA := none, prevB := none,
                                     freshA := false, freshB := false, gap := true, restart := some (a, b),
                                     discPat := 0, waits := [] })
  else s

/-- Chafer restarts at the first tick of Recovery after a wake, and at the first tick after MDLL-A is requalified (R140). -/
def chaferRestart (s : State) : State :=
  if s.chafer.running then s else { s with chafer := { s.chafer with running := true } }.upTo restartHead 96

/-- The maps of the head states are latched at a cycle boundary (R151); an unused head is FAILED. -/
def latchHeadMaps (s : State) : State :=
  let word := fun st k => mapWord (fun h => decide (s.hstate h = st)) (32 * k) 32
  let s := (((s.wr HFE_CHF_OK_MAP.MAP (word headOk 0) 0).wr HFE_CHF_OK_MAP.MAP (word headOk 1) 1).wr HFE_CHF_OK_MAP.MAP (word headOk 2) 2)
  let s := (((s.wr HFE_CHF_DIST_MAP.MAP (word headDisturbed 0) 0).wr HFE_CHF_DIST_MAP.MAP (word headDisturbed 1) 1).wr
    HFE_CHF_DIST_MAP.MAP (word headDisturbed 2) 2)
  let s := (((s.wr HFE_CHF_FAIL_MAP.MAP (word headFailed 0) 0).wr HFE_CHF_FAIL_MAP.MAP (word headFailed 1) 1).wr
    HFE_CHF_FAIL_MAP.MAP (word headFailed 2) 2)
  (s.inc HFE_CHF_MAP_GEN.GEN).wr HFE_CHF_MAP_GEN.TICK s.ticks

/-- The counting engine has consumed the posted records, and reposts their buffers (R407). -/
def consumeRecords (s : State) : State :=
  let r := s.rd HFE_CHF_POST.RING
  let n := s.chafer.posted.length
  { s.upTo (fun _ s => ringRepost r s) n with chafer := { s.chafer with posted := [] } }

end Sys2Proof.Machine
end

