-- ==== Sys2Proof/Machine/Channel.lean ====
section
/-!
DEFINITION. The Pelalmix command channels (R430 to R436): posting, and committing a response.
Channel 0 is PCIe, channel 1 the service port.
-/
namespace Sys2Proof.Machine

/-- The status codes of R433. -/
inductive Status where
  | ok | refusedMode | refusedGuard | busy | deferred | preempted | refusedState | refusedKind | refusedPoint
  | refusedToken | tooEarly | alreadyDone | loafEmpty | refusedRange | truncated | failed | timeout | unknownCmd | badLength
  deriving DecidableEq, Repr, Inhabited

/-- The code of a status (R433). -/
def Status.code : Status → Nat
  | .ok => 0x01 | .refusedMode => 0x02 | .refusedGuard => 0x03 | .busy => 0x04 | .deferred => 0x05
  | .preempted => 0x06 | .refusedState => 0x07 | .refusedKind => 0x08 | .refusedPoint => 0x09
  | .refusedToken => 0x0A | .tooEarly => 0x0B | .alreadyDone => 0x0C | .loafEmpty => 0x0D
  | .refusedRange => 0x0E | .truncated => 0x0F | .failed => 0x10 | .timeout => 0x11
  | .unknownCmd => 0x12 | .badLength => 0x13

/-- The record of a channel. -/
def State.channel (s : State) (ch : Nat) : Channel := tget s.channels ch

/-- The record of a channel changed. -/
def State.modChannel (s : State) (ch : Nat) (f : Channel → Channel) : State := { s with channels := tmod s.channels ch f }

/-- The status fields of a channel: `SYS_CMD_STAT_PE` for channel 0, `SYS_CMD_STAT_SV` for channel 1. -/
def statGen (ch : Nat) : Fld := if ch = 0 then SYS_CMD_STAT_PE.GEN else SYS_CMD_STAT_SV.GEN
def statValid (ch : Nat) : Fld := if ch = 0 then SYS_CMD_STAT_PE.VALID else SYS_CMD_STAT_SV.VALID
def statPending (ch : Nat) : Fld := if ch = 0 then SYS_CMD_STAT_PE.PENDING else SYS_CMD_STAT_SV.PENDING
def statBusy (ch : Nat) : Fld := if ch = 0 then SYS_CMD_STAT_PE.N_BUSY else SYS_CMD_STAT_SV.N_BUSY

/-- The bytes of a response (R431): byte 3 carries VALID in bit 7 and REASON in bits 6:0. -/
def responseBytes (code tag status reason gen : Nat) (payload : List Nat) : List Nat :=
  [code, tag, status, 128 + reason % 128] ++ toBytesLE 2 payload.length ++ toBytesLE 2 gen ++ payload

/-- The response to the command pending on a channel is committed: GEN advances, VALID goes to 1, and on PCIe vector 0 is
raised (R432). Without a pending command there is nothing to answer. -/
def respond (ch : Nat) (st : Status) (reason : Nat) (payload : List Nat) (s : State) : State :=
  match (s.channel ch).request with
  | none => s
  | some req =>
    let s := ((s.inc (statGen ch)).wrFlag (statValid ch) true).wrFlag (statPending ch) false
    let bytes := responseBytes (req.getD 0 0) (req.getD 1 0) st.code reason (s.rd (statGen ch)) payload
    let s := s.modChannel ch (fun c => { c with request := none, taken := false, response := bytes })
    s.when (ch = 0) (irq 0)

/-- The channel's readable response says VALID = 0 while a command is pending (R421, R432). -/
def invalidate (bytes : List Nat) : List Nat :=
  match bytes with
  | a :: b :: c :: d :: rest => a :: b :: c :: d % 128 :: rest
  | short => short

/-- A request is posted on a channel: ignored and counted while a command is pending, else copied (R432). -/
def postRequest (ch : Nat) (bytes : List Nat) (s : State) : State :=
  match (s.channel ch).request with
  | some _ => s.count (statBusy ch)
  | none =>
    let s := { s with posts := s.posts + 1 }
    let s := (s.wrFlag (statPending ch) true).wrFlag (statValid ch) false
    s.modChannel ch (fun c =>
      { c with request := some bytes, taken := false, posted := s.posts, postedTick := s.ticks, response := invalidate c.response })

/-- The bytes of a request (R431). -/
def requestBytes (code tag : Nat) (payload : List Nat) : List Nat :=
  [code % 256, tag % 256] ++ toBytesLE 2 payload.length ++ payload

end Sys2Proof.Machine
end

