-- ==== Sys2Proof/Machine/Nbl.lean ====
section
/-!
DEFINITION. Taelaul neighbour links (09_taelaul_links.md): frames, checks, states, loopback.
-/
namespace Sys2Proof.Machine

/-- The record of link `l` changed. -/
def State.modLink (s : State) (l : Nat) (f : Link → Link) : State := { s with links := tmod s.links l f }

/-- The reasons of R245. -/
def rejCoding : Nat := 1
def rejLength : Nat := 2
def rejBadCheck : Nat := 3
def rejMalformed : Nat := 4
def rejWrongSource : Nat := 5
def rejRepeat : Nat := 6
def rejSequence : Nat := 7
def rejEarly : Nat := 8
def rejNotFolded : Nat := 9

/-- The reasons of `NBL_STATE.LEFT_UP`. -/
def leftBadRun : Nat := 1
def leftPeerRestart : Nat := 2
def leftMode : Nat := 3

/-! ### State changes (R250) -/

/-- CONF of the frames this end sends (R251): 1 while UP, and in ESTABLISHING once ESTAB has reached 3. -/
def State.confTx (s : State) (l : Nat) : Bool :=
  s.linkIsUp l || (decide (s.linkState l = linkEstablishing) && decide (3 ≤ s.rd NBL_STATE.ESTAB l))

/-- `NBL_STATE.CONF_TX` follows. -/
def showConf (l : Nat) (s : State) : State := s.wrFlag NBL_STATE.CONF_TX (s.confTx l) l

/-- What entering a state does beyond the state itself. -/
def linkEnter (l new : Nat) (s : State) : State :=
  if new = linkUp then (s.count NBL_UPDOWN.N_UP l).modLink l (fun k => { k with upCount := k.upCount + 1 })
  else if new = linkLost then s.count NBL_UPDOWN.N_LOST l
  else if new = linkEstablishing then s.modLink l (fun k => { k with first := true })
  else
    (((s.wr NBL_STATE.RUN 0 l).wr NBL_STATE.ESTAB 0 l).wrFlag NBL_STATE.CONF_RX false l).modLink l
      (fun k => { k with prev := none, reports := [], handshakes := [] })

/-- Link `l` changes state: GEN, the reason when it leaves UP, the history, and vector 4 (R250). -/
def linkGo (l new left : Nat) (s : State) : State :=
  let old := s.linkState l
  if old = new then s
  else
    let s := (s.wr NBL_STATE.STATE new l).inc NBL_STATE.GEN l
    let s := s.when (old = linkUp) (fun s => ((s.wr NBL_STATE.LEFT_UP left l).wrFlag NBL_STATE.LEFT_SEEN true l).modLink l
      (fun k => { k with lossNs := k.lastAccept }))
    (irq 4 (showConf l (linkEnter l new s))).when (old = linkUp) (crumbEvent SNP_CFG.EN_LINK NBL_STATE.reg)

/-- A Proof begins: what the last one found of link `l` is over (R252). -/
def linkProofBegin (l : Nat) (s : State) : State :=
  (s.wrFlag NBL_STATE.LOOP_FAIL false l).modLink l (fun k => { k with loopOk := false })

/-- A link in use that passed Proof item 9 leaves DOWN on entry to Commission or Recovery (R250, R252). -/
def linkEstablish (l : Nat) (s : State) : State :=
  if s.linkUsed l ∧ s.linkState l = linkDown ∧ (s.link l).loopOk then linkGo l linkEstablishing 0 s else s

/-- A link goes DOWN with the mode (R250). -/
def linkToDown (l : Nat) (s : State) : State := linkGo l linkDown leftMode s

/-- T_rec passes: a link still ESTABLISHING is declared LOST (R63). -/
def linkDeclareLost (l : Nat) (s : State) : State :=
  if s.linkState l = linkEstablishing then linkGo l linkLost 0 s else s

/-- A link in use is UP or LOST, or counts as LOST after a failed loopback (R63, R252). -/
def State.linkSettled (s : State) (l : Nat) : Bool :=
  !s.linkUsed l || s.linkIsUp l || decide (s.linkState l = linkLost) || s.flag NBL_STATE.LOOP_FAIL l

/-! ### The line (R237) -/

/-- The bits of a byte, most significant first. -/
def byteBits (b : Nat) : List Bool := [bit b 7, bit b 6, bit b 5, bit b 4, bit b 3, bit b 2, bit b 1, bit b 0]

/-- The two half bit periods of a bit in Manchester code: a 1 goes from low to high, a 0 from high to low. -/
def bitLevels (b : Bool) : List Bool := [!b, b]

/-- The levels of bytes on the line. -/
def byteLevels (bs : List Nat) : List Bool := (bs.flatMap byteBits).flatMap bitLevels

/-- A frame on the line, by half bit periods: eight idle bit periods, two preamble bytes, the start delimiter, the frame, and the
steady high that ends it. -/
def lineLevels (frame : List Nat) : List Bool :=
  List.replicate 16 true ++ byteLevels ([0x55, 0x55, 0xD5] ++ frame) ++ [true, true]

/-- The preamble and the start delimiter on the line. -/
def delimiterLevels : List Bool := byteLevels [0x55, 0x55, 0xD5]

/-- A receiver's frame begins (R237, R253): the levels end in a valid preamble and its delimiter; other noise begins nothing. -/
def frameBegins (lead : List Bool) : Bool := decide (lead.drop (lead.length - 48) = delimiterLevels)

/-- The bits that a receiver reads after the delimiter: the frame ends at the first bit period without a transition. -/
def lineBits : List Bool → List Bool
  | a :: b :: rest => if a = b then [] else b :: lineBits rest
  | [_] => []
  | [] => []

/-- Whole bytes from bits, most significant first; `acc` holds the `k` bits of the byte under way. -/
def packBits : Nat → Nat → List Bool → List Nat
  | _, _, [] => []
  | acc, k, b :: bs =>
    if k = 7 then (2 * acc + b2n b) :: packBits 0 0 bs else packBits (2 * acc + b2n b) (k + 1) bs

/-- The bytes that the levels after a delimiter spell, and whether they are whole (check 1 of R245). -/
def lineBytes (line : List Bool) : List Nat := packBits 0 0 (lineBits line)
def lineWhole (line : List Bool) : Bool := decide ((lineBits line).length % 8 = 0)

/-! ### Frames sent (R238 to R244) -/

/-- SMODE of a frame by the sender's mode (R239). -/
def smodeCode : Mode → Nat
  | .commission => 0 | .recovery => 1 | .service => 2
  | .resetSeq => 3 | .dormant => 3 | .proof => 3 | .hold => 3 | .reserved => 3

/-- Frames are sent in this mode. -/
def State.linkMode (s : State) : Bool := decide (smodeCode s.mode ≠ 3)

/-- The three bytes of the report in slot `j` of link `l` (R241). -/
def State.reportBytes (s : State) (l j : Nat) : List Nat :=
  let a := s.rd LOAF_LINK.TX_POINT (8 * l + j)
  if a < 128 then [0, 0, 0xC0]
  else
    let p := a % 128
    let st := s.rd CNT_CP_STATE.PSTATE p
    if st = 3 then [s.rd CNT_CP_STATE.CNT_AB p, s.rd CNT_CP_STATE.CNT_BA p, 0x50]
    else [s.rd CNT_CP_STATE.CNT_AB p, s.rd CNT_CP_STATE.CNT_BA p,
          st * 64 + b2n (s.flag CNT_CP_STATE.PASSAGE p) * 32 + b2n (decide (st = 1) && s.flag CNT_CP_STATE.RESTARTING p) * 16]

/-- Boundary `b` of section `x` as the loaf gives it: bit 7 IN_DIR, bits 6:0 the point. -/
def State.boundPoint (s : State) (x b : Nat) : Nat :=
  let f := match b with
    | 0 => CNT_SEC_BOUND0.BND0 | 1 => CNT_SEC_BOUND0.BND1 | 2 => CNT_SEC_BOUND0.BND2 | 3 => CNT_SEC_BOUND0.BND3
    | 4 => CNT_SEC_BOUND1.BND4 | 5 => CNT_SEC_BOUND1.BND5 | 6 => CNT_SEC_BOUND1.BND6 | _ => CNT_SEC_BOUND1.BND7
  s.rd f x

/-- Every boundary point of section `x` is OK, none UNKNOWN or RESTARTING, and none has a passage open. -/
def State.pointsOk (s : State) (x : Nat) : Bool :=
  allUpTo (fun b => decide (s.rd CNT_CP_STATE.PSTATE (s.boundPoint x b % 128) = 0)
    && !s.flag CNT_CP_STATE.PASSAGE (s.boundPoint x b % 128)) (s.rd CNT_SEC_CFG.N_BOUND x)

/-- The record of section `x`, and the record changed. -/
def State.sec_ (s : State) (x : Nat) : Section := tget s.sections x
def State.modSec (s : State) (x : Nat) (f : Section → Section) : State := { s with sections := tmod s.sections x f }

/-- PREP_DONE (R179): PREPARED here, and every condition of completion met but the one on the peer. -/
def State.prepDone (s : State) (x : Nat) : Bool :=
  let r := s.sec_ x
  s.flag CNT_SEC_CFG.USED x && decide (s.rd CNT_SEC_STATE.STATE x = 3) && decide (s.rd CNT_SEC_STATE.COUNT x = 0)
    && s.pointsOk x
    && (if r.prepKind = 1 ∨ r.spoilt then s.flag CNT_SEC_CFG.SWEEP_OK x && decide (s.rd CNT_SEC_CFG.N_SWEEP x ≤ s.rd CNT_SEC_TALLY.IN x)
        else r.confd && decide (s.rd CNT_SEC_TALLY.IN x = 0) && decide (s.rd CNT_SEC_TALLY.OUT x = 0))

/-- The byte of handshake `k` of link `l` (R241). -/
def State.handshakeByte (s : State) (l k : Nat) : Nat :=
  let x := s.rd LOAF_LINK.SHARED (16 * l + k)
  s.rd CNT_SEC_STATE.STATE x * 64 + b2n (s.prepDone x) * 32

/-- The seed of the check (R243). -/
def frameSeed (contract : Nat) (fold : Bool) (dst src seq : Nat) : Nat :=
  if fold then contract ^^^ (dst % 256 * 2 ^ 24 + src % 256 * 2 ^ 16 + seq % 65536) else contract

/-- A frame: body and its check, most significant byte first (R239, R243). -/
def frameBytes (ctrl src cnt : Nat) (reports handshakes : List Nat) (seed : Nat) : List Nat :=
  let body := [ctrl, src] ++ toBytesBE 2 cnt ++ reports ++ handshakes
  body ++ toBytesBE 4 (crcFinal (crcRun seed body))

/-- FOLD of the frames this end sends (R244). -/
def State.folds (s : State) (l : Nat) : Bool := !(s.linkIsUp l && decide (s.mode = .service))

/-- The frame that link `l` sends now. -/
def State.txFrame (s : State) (l : Nat) : List Nat :=
  let own := s.rd NBL_GLB_STATUS.OWN_ID
  let fold := s.folds l
  let seq := s.rd NBL_SEQ.TX l
  let ctrl := 64 + b2n fold * 32 + b2n (s.confTx l) * 16 + smodeCode s.mode * 4 + l
  frameBytes ctrl own (if fold then seq else seq % 256)
    ((List.range (s.rd NBL_CFG.N_REP_TX l)).flatMap (s.reportBytes l))
    ((List.range (s.rd NBL_CFG.N_HS l)).map (s.handshakeByte l))
    (frameSeed (s.rd NBL_CONTRACT.CONTRACT l) fold (s.rd NBL_CFG.FAR_ID l) own seq)

/-- A frame has been sent: the sequence and the count go on (R240). -/
def frameSent (l : Nat) (s : State) : State := (s.inc NBL_SEQ.TX l).inc NBL_TX_CNT.COUNT l

/-- Link `l` starts its frame (R238): in use, not DOWN, in a mode that sends, with MDLL-A's bit clock. -/
def frameTransmit (l : Nat) (s : State) : State :=
  if s.linkUsed l ∧ s.linkState l ≠ linkDown ∧ s.linkMode ∧ s.mdllA then
    frameSent l (s.emit (.linkFrame l (s.txFrame l) (lineLevels (s.txFrame l))))
  else s

/-! ### Frames received (R245 to R251) -/

/-- The advance of a frame from the last accepted one (R247): over 16 bits where both are folded. -/
def advance (prev : Nat × Bool) (cnt : Nat) (fold : Bool) : Nat :=
  if prev.2 && fold then (cnt + 65536 - prev.1) % 65536 else (cnt % 256 + 256 - prev.1 % 256) % 256

/-- Some remote point in use takes slot `j` of link `l`: the slot is assigned. -/
def State.slotAssigned (s : State) (l j : Nat) : Bool :=
  anyUpTo (fun k => s.flag CNT_CP_CFG.USED (96 + k) && decide (s.rd CNT_CP_CFG.LINK (96 + k) = l)
    && decide (s.rd CNT_CP_CFG.SLOT (96 + k) = j)) 32

/-- The status byte of a report breaks check 4. -/
def badReport (assigned : Bool) (b : Nat) : Bool :=
  assigned && (decide (b % 16 ≠ 0) || decide (b / 64 = 3) || (bit b 4 && decide (b / 64 ≠ 1)))

/-- Check 4 (R245). -/
def State.malformed (s : State) (l : Nat) (bs : List Nat) (fold : Bool) : Bool :=
  let ctrl := bs.getD 0 0
  let n := s.rd NBL_CFG.N_REP_RX l
  decide (ctrl / 64 % 4 ≠ 1) || decide (ctrl / 4 % 4 = 3) || (!fold && decide (bs.getD 2 0 ≠ 0))
    || anyUpTo (fun j => badReport (s.slotAssigned l j) (bs.getD (6 + 3 * j) 0)) n
    || anyUpTo (fun k => decide (bs.getD (4 + 3 * n + k) 0 % 32 ≠ 0)) (s.rd NBL_CFG.N_HS l)

/-- The first check of R245 that a frame fails, if any. `coding` says that the line decoded to whole bytes; `t` is when the
frame ended. -/
def State.frameReject (s : State) (l : Nat) (coding : Bool) (bs : List Nat) (t : Nat) : Option Nat :=
  let k := s.link l
  let n := bs.length
  let ctrl := bs.getD 0 0
  let src := bs.getD 1 0
  let cnt := bs.getD 2 0 * 256 + bs.getD 3 0
  let fold := bit ctrl 5
  let conf := bit ctrl 4
  let up := s.linkIsUp l
  let seed := frameSeed (s.rd NBL_CONTRACT.CONTRACT l) fold (s.rd NBL_GLB_STATUS.OWN_ID) src cnt
  if !coding then some rejCoding
  else if n ≠ 8 + 3 * s.rd NBL_CFG.N_REP_RX l + s.rd NBL_CFG.N_HS l then some rejLength
  else if crcFinal (crcRun seed (bs.take (n - 4))) ≠ ofBytesBE (bs.drop (n - 4)) then some rejBadCheck
  else if s.malformed l bs fold then some rejMalformed
  else if src ≠ s.rd NBL_CFG.FAR_ID l ∨ ctrl % 4 ≠ s.rd NBL_CFG.FAR_PORT l then some rejWrongSource
  else if (match k.lastEnd with | some e => decide (t < e + 500000) | none => false) then some rejEarly
  else if !fold && !up then some rejNotFolded
  else
    match k.prev with
    | none => none
    | some p =>
      if up && fold && !conf then none
      else if advance p cnt fold = 0 then some rejRepeat
      else if up && decide (3 < advance p cnt fold) then some rejSequence
      else none

/-- The counter of a reason. -/
def countReject (l reason : Nat) (s : State) : State :=
  if reason = rejCoding then s.count NBL_ERR1.CODING l
  else if reason = rejLength then s.count NBL_ERR1.LENGTH l
  else if reason = rejBadCheck then s.count NBL_ERR0.BAD_CHECK l
  else if reason = rejMalformed then s.count NBL_ERR2.MALFORMED l
  else if reason = rejWrongSource then s.count NBL_ERR2.WRONG_SOURCE l
  else if reason = rejRepeat then s.count NBL_ERR2.REPEAT l
  else if reason = rejSequence then s.count NBL_ERR2.SEQUENCE l
  else if reason = rejEarly then s.count NBL_ERR3.EARLY l
  else s.count NBL_ERR3.NOT_FOLDED l

/-- RUN grows by a rejected or a missing frame, and ESTAB falls to 0 (R248, R251); RUN = 3 ends UP, and ESTABLISHING in
Commission and Service (R250). -/
def linkRun (l : Nat) (s : State) : State :=
  let s := (s.count NBL_STATE.RUN l).wr NBL_STATE.ESTAB 0 l
  let s := showConf l s
  if s.rd NBL_STATE.RUN l < 3 then s
  else if s.linkIsUp l then linkGo l linkLost leftBadRun s
  else if s.linkState l = linkEstablishing ∧ (s.mode = .commission ∨ s.mode = .service) then linkGo l linkLost 0 s
  else s

/-- A frame is rejected: counted, shown in `NBL_LAST_REJ`, and FOREIGN after 32 bad checks in a row (R245, R249). -/
def frameRejected (l reason : Nat) (bs : List Nat) (s : State) : State :=
  let s := countReject l reason s
  let s := ((s.wr NBL_LAST_REJ.REASON reason l).wr NBL_LAST_REJ.SPORT (bs.getD 0 0 % 4) l).wr NBL_LAST_REJ.SRC_ID (bs.getD 1 0) l
  let s := s.wr NBL_LAST_REJ.CNT (bs.getD 2 0 * 256 + bs.getD 3 0) l
  let run := if reason = rejBadCheck then (s.link l).badRun + 1 else 0
  let s := s.modLink l (fun k => { k with badRun := run })
  linkRun l (s.when (32 ≤ run) (fun s => s.wrFlag NBL_STATE.FOREIGN true l))

/-- ESTAB after an accepted frame (R251). -/
def State.estabAfter (s : State) (l cnt : Nat) (fold : Bool) : Nat :=
  let k := s.link l
  if s.linkState l = linkEstablishing ∧ k.first then 1
  else match k.prev with
    | some p => if fold && p.2 && decide (advance p cnt true = 1) then min 3 (s.rd NBL_STATE.ESTAB l + 1) else 0
    | none => 0

/-- The state a link enters with an accepted frame (R250). -/
def linkAccepted (l : Nat) (conf fold : Bool) (s : State) : State :=
  if s.linkState l = linkEstablishing ∧ s.rd NBL_STATE.ESTAB l = 3 ∧ conf then linkGo l linkUp 0 s
  else if s.linkIsUp l ∧ !conf then linkGo l linkEstablishing leftPeerRestart s
  else if s.linkState l = linkLost ∧ fold then
    linkGo l linkEstablishing 0 s
  else s

/-- An accepted advance of 2 or 3 on an UP link counts in SKIPPED (R247). -/
def countSkipped (l cnt : Nat) (fold : Bool) (s : State) : State :=
  match (s.link l).prev with
  | none => s
  | some p =>
    let d := advance p cnt fold
    s.when (s.linkIsUp l && (decide (d = 2) || decide (d = 3))) (fun s => s.count NBL_ERR3.SKIPPED l)

/-- A frame is accepted (R245 to R251): its reports and handshakes are kept for the next boundary. -/
def frameAccepted (l : Nat) (bs : List Nat) (t : Nat) (s : State) : State :=
  let ctrl := bs.getD 0 0
  let cnt := bs.getD 2 0 * 256 + bs.getD 3 0
  let fold := bit ctrl 5
  let conf := bit ctrl 4
  let e := s.estabAfter l cnt fold
  let n := s.rd NBL_CFG.N_REP_RX l
  let s := countSkipped l cnt fold s
  let s := ((s.wr NBL_STATE.ESTAB e l).wr NBL_STATE.RUN 0 l).wrFlag NBL_STATE.FOREIGN false l
  let s := ((s.wrFlag NBL_STATE.CONF_RX conf l).wr NBL_SEQ.RX_LAST cnt l).inc NBL_RX_OK.COUNT l
  let s := s.modLink l (fun k => { k with prev := some (cnt, fold), first := false, badRun := 0, lastAccept := t,
                                          reports := slice bs 4 (3 * n),
                                          handshakes := slice bs (4 + 3 * n) (s.rd NBL_CFG.N_HS l) })
  linkAccepted l conf fold (showConf l s)

/-- The receiver of link `l` judges frames: in use, not DOWN, with MDLL-A. -/
def State.linkListens (s : State) (l : Nat) : Bool :=
  s.linkUsed l && decide (s.linkState l ≠ linkDown) && s.mdllA

/-- A frame ends on link `l`, `after` nanoseconds after the last tick boundary; `lead` is the levels up to its delimiter and `line`
those after it, by half bit periods. In Dormant its start wakes the device (R253); otherwise it is judged (R245). -/
def frameReceived (l : Nat) (lead line : List Bool) (after : Nat) (s : State) : State :=
  let t := s.tickNs + after
  let bs := lineBytes line
  if !frameBegins lead then s
  else if s.mode = .dormant then (if s.linkUsed l then wakeEvent wakeLink s else s)
  else if !s.linkListens l then s
  else
    let r := s.frameReject l (lineWhole line) bs t
    let s := s.modLink l (fun k => { k with lastEnd := some t })
    match r with
    | some reason => frameRejected l reason bs s
    | none => frameAccepted l bs t s

/-- A missing frame is counted (R248). -/
def frameMissing (l : Nat) (s : State) : State :=
  if s.linkUsed l ∧ s.linkState l ≠ linkDown then linkRun l (s.count NBL_ERR0.MISSING l) else s

/-! ### Loopback in Proof item 9 (R254) -/

/-- Loopback frame `i` of link `l`, counted from 0: folded with SMODE 0b11 for the device itself; the third has bit 0 of its last
CHECK byte inverted. -/
def State.loopFrame (s : State) (l i : Nat) : List Nat :=
  let own := s.rd NBL_GLB_STATUS.OWN_ID
  let seq := (s.rd NBL_SEQ.TX l + i) % 65536
  let f := frameBytes (64 + 32 + 12 + l) own seq ((List.range (s.rd NBL_CFG.N_REP_TX l)).flatMap (s.reportBytes l))
    ((List.range (s.rd NBL_CFG.N_HS l)).map (s.handshakeByte l)) (frameSeed (s.rd NBL_CONTRACT.CONTRACT l) true own own seq)
  if i = 2 then f.take (f.length - 1) ++ [f.getD (f.length - 1) 0 ^^^ 1] else f

/-- The levels of a loopback frame as they come back: those that `flips` names are inverted. -/
def loopLine (flips : List LoopFlip) (l i : Nat) (frame : List Nat) : List Bool :=
  (byteLevels frame ++ [true, true]).mapIdx (fun h b =>
    if flips.any (fun p => decide (p.link.val = l) && decide (p.frame.val = i) && decide (p.half = h)) then !b else b)

/-- The first of checks 1 to 3 of R245 that a loopback frame fails, if any; the length is that of the frame sent. -/
def State.loopReject (s : State) (l i : Nat) (line : List Bool) : Option Nat :=
  let own := s.rd NBL_GLB_STATUS.OWN_ID
  let bs := lineBytes line
  let n := bs.length
  let cnt := bs.getD 2 0 * 256 + bs.getD 3 0
  let seed := frameSeed (s.rd NBL_CONTRACT.CONTRACT l) (bit (bs.getD 0 0) 5) own (bs.getD 1 0) cnt
  if !lineWhole line then some rejCoding
  else if n ≠ (s.loopFrame l i).length then some rejLength
  else if crcFinal (crcRun seed (bs.take (n - 4))) ≠ ofBytesBE (bs.drop (n - 4)) then some rejBadCheck
  else none

/-- The loopback of link `l` passes: frames 1, 2, 4 and 5 are accepted, frame 3 is rejected with BAD_CHECK, and the receiver reads
idle with the transmitter stopped. -/
def State.loopPasses (s : State) (flips : List LoopFlip) (idle l : Nat) : Bool :=
  bit idle l && allUpTo (fun i =>
    s.loopReject l i (loopLine flips l i (s.loopFrame l i)) == (if i = 2 then some rejBadCheck else none)) 5

/-- The loopback of link `l` ends: five frames were sent, which the frame counters of a link that is DOWN do not count (R250); a
failure keeps the link DOWN and records CHANNEL (R252, R54). -/
def linkLoopback (flips : List LoopFlip) (idle l : Nat) (s : State) : State :=
  if s.linkUsed l then
    let ok := s.loopPasses flips idle l
    let s := (s.upTo (fun _ s => s.inc NBL_SEQ.TX l) 5).wrFlag NBL_STATE.LOOP_FAIL (!ok) l
    (s.modLink l (fun k => { k with loopOk := ok })).when (!ok) (recordCause ⟨0x22, 5, l⟩)
  else s

end Sys2Proof.Machine
end

