-- ==== Sys2Proof/Machine/Cnt.lean ====
section
/-!
DEFINITION. Counting points and sections (06_section_counting.md): counts, states, resets, links lost, resume.
-/
namespace Sys2Proof.Machine

/-- The causes of R169. -/
def secPlausibility : Nat := 0x01
def secRestart : Nat := 0x02
def secResumeDamped : Nat := 0x03
def secPointFailed : Nat := 0x04
def secPointDisturbed : Nat := 0x05
def secCountRange : Nat := 0x06
def secRemoteJump : Nat := 0x07
def secLinkLost : Nat := 0x08
def secLinkMissed : Nat := 0x09
def secUndercount : Nat := 0x0A
def secPeerDisagree : Nat := 0x0B
def secResetTimeout : Nat := 0x0C
def secResetAbort : Nat := 0x0D
def secCount : Nat := 0x10
def secBoundary : Nat := 0x11
def secLinkHold : Nat := 0x12
def secPointRestart : Nat := 0x13
def secResetSweep : Nat := 0x20
def secResetConfirmed : Nat := 0x21
def secSweepDone : Nat := 0x30
def secConfirmed : Nat := 0x31

/-- The signed count of section `x`. -/
def State.secCountOf (s : State) (x : Nat) : Int := s.rdS CNT_SEC_STATE.COUNT x

/-- The points of section `x`'s boundaries, with IN_DIR as the direction code of a wheel that enters: 1 A_TO_B, 2 B_TO_A. -/
def State.bounds (s : State) (x : Nat) : List (Nat × Nat) :=
  (List.range (s.rd CNT_SEC_CFG.N_BOUND x)).map (fun b => (s.boundPoint x b % 128, if s.boundPoint x b < 128 then 1 else 2))

/-- A point is remote. -/
def remotePoint (p : Nat) : Bool := decide (96 ≤ p)

/-- Some boundary point of section `x` meets `f`. -/
def State.somePoint (s : State) (x : Nat) (f : Nat → Bool) : Bool := (s.bounds x).any (fun b => f b.1)

/-! ### State changes (R169, R171) -/

/-- The flags and the timer that `CNT_SEC_STATE` and `CNT_SEC_PREP` show. -/
def showSection (x : Nat) (s : State) : State :=
  let r := s.sec_ x
  let prep := decide (s.secState x = secPrepared)
  let tallies := decide (s.rd CNT_SEC_TALLY.IN x ≠ 0) || decide (s.rd CNT_SEC_TALLY.OUT x ≠ 0)
  let s := s.wrFlag CNT_SEC_STATE.SWEEPING (prep && tallies) x
  let s := s.wrFlag CNT_SEC_STATE.AWAIT_CONF (prep && decide (r.prepKind = 2) && !r.spoilt) x
  let s := s.wrFlag CNT_SEC_STATE.NEG (decide (s.secCountOf x < 0)) x
  s.wr CNT_SEC_PREP.ELAPSED (if prep then sat 16 ((s.cycles - r.prepCycle) / 1000) else 0) x

/-- A section takes a state with a cause; a change raises one section-state interrupt (R171). -/
def secGo (x st cause : Nat) (s : State) : State :=
  let changed := decide (s.secState x ≠ st)
  ((s.wr CNT_SEC_STATE.STATE st x).wr CNT_SEC_STATE.CAUSE cause x).when changed (irq 3)

/-- The reset in progress is over: kind, token and confirmation are cleared. -/
def endPrep (x : Nat) (s : State) : State :=
  (s.wr CNT_SEC_PREP.TOKEN 0 x).modSec x (fun r => { r with prepKind := 0, spoilt := false, confd := false })

/-- A cause of DISTURBED is decided (R169): a DISTURBED section keeps its first cause and shows the later one as last. -/
def disturbSection (x cause : Nat) (s : State) : State :=
  let s := s.wr CNT_SEC_CAUSE.LAST cause x
  if s.secState x = secDisturbed then s
  else
    let s := (s.wr CNT_SEC_CAUSE.FIRST cause x).count CNT_SEC_CAUSE.N_DIST x
    let s := (s.wrFlag CNT_SEC_STATE.LINK_HOLD false x).wr CNT_SEC_PEER.DISAGREE 0 x
    crumbEvent SNP_CFG.EN_SECTION CNT_SEC_STATE.reg (secGo x secDisturbed cause (endPrep x s))

/-- A cause of DISTURBED arises, to be decided in the evaluation of the boundary. -/
def addCause (x cause : Nat) (s : State) : State := s.modSec x (fun r => { r with causes := cause :: r.causes })

/-- A reset completes: the section becomes CLEAR. -/
def completeReset (x cause : Nat) (s : State) : State :=
  let s := endPrep x s
  secGo x secClear cause (s.modSec x (fun r => { r with doneCycle := some s.cycles }))

/-! ### Counting (R166 to R168, R173) -/

/-- One change of a section's count, with the tallies of a PREPARED section. -/
def applyCount (x : Nat) (d : Int) (s : State) : State :=
  let n := s.secCountOf x + d
  let s :=
    if n > 2047 ∨ n < -2047 then addCause x secCountRange s
    else (s.wrS CNT_SEC_STATE.COUNT n x).modSec x (fun r => { r with delta := r.delta + d })
  if s.secState x = secPrepared then
    if d > 0 then s.count CNT_SEC_TALLY.IN x else s.count CNT_SEC_TALLY.OUT x
  else s

/-- A wheel with direction `dir` at point `p` changes section `x` where the point bounds it. -/
def applyWheelAt (p dir x : Nat) (s : State) : State :=
  if s.secUsed x then
    match (s.bounds x).find? (fun b => decide (b.1 = p)) with
    | some b => applyCount x (if b.2 = dir then 1 else -1) s
    | none => s
  else s

/-- A wheel at point `p` in every section it bounds. -/
def applyWheel (p dir : Nat) (s : State) : State := s.upTo (applyWheelAt p dir) 64

/-- A record counts (R166): a WHEEL without HEAD_NOT_OK at the head of a local point in use. -/
def State.recordCounts (s : State) (r : ChRec) : Bool :=
  decide (r.kind = kindWheel) && decide (r.flags % 2 = 0) && decide (r.head < 96) && s.flag CNT_CP_CFG.USED r.head

/-- A record put into a list in order of event time, ties by head (R164). -/
def insertRecord (r : ChRec) : List ChRec → List ChRec
  | [] => [r]
  | q :: qs =>
    if r.timeNs < q.timeNs ∨ (r.timeNs = q.timeNs ∧ r.head < q.head) then r :: q :: qs else q :: insertRecord r qs

/-- The records in the order in which they are applied. -/
def sortRecords : List ChRec → List ChRec
  | [] => []
  | r :: rs => insertRecord r (sortRecords rs)

/-- The sections in use that a wheel with direction `dir` at point `p` enters (`true`) or leaves. -/
def State.sectionsAt (s : State) (p dir : Nat) (enters : Bool) : List Nat :=
  filterUpTo (fun x => s.secUsed x && (s.bounds x).any (fun b => decide (b.1 = p) && (decide (b.2 = dir) == enters))) 64

/-- The non-safety copy of a record (R298): R154's layout with the section entered and the section left. -/
def State.copyBytes (s : State) (r : ChRec) : List Nat :=
  r.bytes.take 0x1E ++ [(s.sectionsAt r.head r.dir true).headD 0xFF, (s.sectionsAt r.head r.dir false).headD 0xFF]

/-- Copies from section `x` have stopped (R36): it is DISTURBED, or the link that it is shared over is LOST. -/
def State.copyStopped (s : State) (x : Nat) : Bool :=
  decide (s.secState x = secDisturbed)
    || (s.flag CNT_SEC_CFG.SHARED x && decide (s.linkState (s.rd CNT_SEC_CFG.LINK x) = linkLost))

/-- A record whose copy any section concerned stops (R36): the sections that its wheel enters and leaves. -/
def State.copyStops (s : State) (r : ChRec) : Bool :=
  (s.sectionsAt r.head r.dir true ++ s.sectionsAt r.head r.dir false).any s.copyStopped

/-- The copy goes to Leaven's ring, where Leaven reads it, or is dropped and counted (R28, R298); one that R36 stops is not made. -/
def writeCopy (r : ChRec) (s : State) : State :=
  let ring := 8 + s.rd GFE_FF_CFG0.FF_RING
  if s.copyStops r then s
  else if s.ringOffers ring then
    let bs := s.copyBytes r
    let s := ringDeliver ring bs s
    { s with leaven := { s.leaven with copies := s.leaven.copies ++ [bs] } }
  else { s with counting := { s.counting with dropped := s.counting.dropped + 1 } }

/-- A counting local record is applied, and steps its point's counter (R160); its copy is written (R28). -/
def applyRecord (r : ChRec) (s : State) : State :=
  let s := writeCopy r (applyWheel r.head r.dir s)
  if r.dir = 1 then s.inc CNT_CP_STATE.CNT_AB r.head else s.inc CNT_CP_STATE.CNT_BA r.head

/-! ### Remote points (R158, R167, R181) -/

/-- The link of a remote point, and the report it takes at this boundary: while its link is UP, the last accepted one. -/
def State.pointLink (s : State) (p : Nat) : Nat := s.rd CNT_CP_CFG.LINK p
def State.pointReport (s : State) (p : Nat) : Option (List Nat) :=
  let l := s.pointLink p
  if s.linkIsUp l then
    let bs := slice (s.link l).reports (3 * s.rd CNT_CP_CFG.SLOT p) 3
    if bs.length = 3 then some bs else none
  else none

/-- The record of remote point `p`. -/
def State.point (s : State) (p : Nat) : Point := tget s.points p
def State.modPoint (s : State) (p : Nat) (f : Point → Point) : State := { s with points := tmod s.points p f }

/-- After a gating no report has been accepted yet that may be compared (R182). -/
def State.pointWaits (s : State) (p : Nat) : Bool :=
  match (s.point p).afterNs with | some t => decide ((s.link (s.pointLink p)).lastAccept < t) | none => false

/-- The first report after the link reached UP, or after a gating, shows whether the kept counters are equal (R181, R182). -/
def State.pointRestores (s : State) (p : Nat) : Option Bool :=
  match s.pointReport p with
  | none => none
  | some bs =>
    if s.pointWaits p then none
    else if (s.point p).afterNs.isNone ∧ (s.point p).epoch = some (s.link (s.pointLink p)).upCount then none
    else some (decide (bs.getD 0 0 = s.rd CNT_CP_STATE.CNT_AB p) && decide (bs.getD 1 0 = s.rd CNT_CP_STATE.CNT_BA p))

/-- LINK_HOLD of section `x` is judged on the first report after the loss (R181, R182). -/
def sectionRestore (x : Nat) (s : State) : State :=
  if s.secUsed x && s.flag CNT_SEC_STATE.LINK_HOLD x then
    let rs := (s.bounds x).filterMap (fun b =>
      if remotePoint b.1 ∧ s.flag CNT_CP_CFG.USED b.1 then s.pointRestores b.1 else none)
    if rs.isEmpty then s
    else
      let late := (s.sec_ x).holdNs + s.rd CNT_SEC_TIME1.T_LINKHOLD x * 100000000 < (s.link (s.rd CNT_SEC_CFG.LINK x)).lastAccept
      let s := s.wrFlag CNT_SEC_STATE.LINK_HOLD false x
      (s.when late (addCause x secLinkLost)).when (rs.any (fun b => !b)) (addCause x secLinkMissed)
  else s

/-- `n` wheels of one direction at a point. -/
def applyWheels (p dir : Nat) : Nat → State → State
  | 0, s => s
  | n + 1, s => applyWheels p dir n (applyWheel p dir s)

/-- Every section that a point bounds. -/
def eachSectionOf (p : Nat) (g : Nat → State → State) (s : State) : State :=
  s.upTo (fun x s => if s.secUsed x && s.somePoint x (fun q => decide (q = p)) then g x s else s) 64

/-- The deltas of remote point `p` (R167); the number of reports applied goes on. -/
def pointDeltas (p : Nat) (bs : List Nat) (s : State) : State :=
  let ab := (bs.getD 0 0 + 256 - s.rd CNT_CP_STATE.CNT_AB p) % 256
  let ba := (bs.getD 1 0 + 256 - s.rd CNT_CP_STATE.CNT_BA p) % 256
  if 1 < ab ∨ 1 < ba then eachSectionOf p (fun x s => addCause x secRemoteJump s) s
  else (applyWheels p 2 ba (applyWheels p 1 ab s)).count CNT_CYCLE.N_REM

/-- The report becomes the base, and gives the point's state (R158, R159). -/
def adoptReport (p : Nat) (bs : List Nat) (s : State) : State :=
  let b := bs.getD 2 0
  let s := (s.wr CNT_CP_STATE.CNT_AB (bs.getD 0 0) p).wr CNT_CP_STATE.CNT_BA (bs.getD 1 0) p
  let s := (s.wr CNT_CP_STATE.PSTATE (b / 64 % 4) p).wrFlag CNT_CP_STATE.PASSAGE (bit b 5) p
  s.wrFlag CNT_CP_STATE.RESTARTING (bit b 4 && decide (b / 64 % 4 = 1)) p

/-- Remote point `p` at a boundary (R164 steps 2 and 4). -/
def remoteBoundary (p : Nat) (s : State) : State :=
  if !s.flag CNT_CP_CFG.USED p then s
  else
    let l := s.link (s.pointLink p)
    let rep := s.pointReport p
    let s := s.when rep.isSome (fun s => s.modPoint p (fun r => { r with seen := true }))
    let s := s.wr CNT_CP_AGE.AGE (if (s.point p).seen then sat 16 ((s.tickNs - l.lastAccept) / 1000000) else 0xFFFF) p
    match rep with
    | none => ((s.wr CNT_CP_STATE.PSTATE 3 p).wrFlag CNT_CP_STATE.PASSAGE false p).wrFlag CNT_CP_STATE.RESTARTING false p
    | some bs =>
      if s.pointWaits p then s
      else
        let s := if (s.pointRestores p).isSome then s else pointDeltas p bs s
        adoptReport p bs (s.modPoint p (fun r => { r with epoch := some l.upCount, afterNs := none }))

/-- Local point `p` takes the state of its head (R158, R159); the age of a local point is 0, in use or not. -/
def localBoundary (p : Nat) (s : State) : State :=
  let s := s.wr CNT_CP_AGE.AGE 0 p
  if s.flag CNT_CP_CFG.USED p then
    let s := (s.wr CNT_CP_STATE.PSTATE (s.hstate p) p).wrFlag CNT_CP_STATE.PASSAGE (s.head p).passage.isSome p
    s.wrFlag CNT_CP_STATE.RESTARTING (s.restarting p) p
  else s

/-! ### Links lost (R181, R252) -/

/-- Section `x` has a remote boundary point on link `l`. -/
def State.secOnLink (s : State) (x l : Nat) : Bool :=
  s.secUsed x && s.somePoint x (fun p => remotePoint p && decide (s.pointLink p = l))

/-- Link `l` has left UP: section `x` holds, or loses its reset (R181). -/
def sectionLinkLost (l x : Nat) (s : State) : State :=
  if !s.secOnLink x l then s
  else
    let s := (s.wrFlag CNT_SEC_PEER.VALID false x).wr CNT_SEC_PEER.DISAGREE 0 x
    let st := s.secState x
    if (st = secClear ∨ st = secOccupied) ∧ !s.flag CNT_SEC_STATE.LINK_HOLD x then
      (s.wrFlag CNT_SEC_STATE.LINK_HOLD true x).modSec x (fun r => { r with holdNs := (s.link l).lossNs, holdStood := 0 })
    else if st = secPrepared then addCause x secLinkLost s
    else s

/-- The entry into UP that link `l` stands in, if it is UP. -/
def State.upEpoch (s : State) (l : Nat) : Option Nat := if s.linkIsUp l then some (s.link l).upCount else none

/-- What a boundary finds of link `l`: it left UP since the last one, if only for a moment. -/
def linkBoundary (l : Nat) (s : State) : State :=
  let was := (lookup s.counting.wasUp l).getD none
  let now := s.upEpoch l
  let s := s.when (was.isSome && decide (was ≠ now)) (fun s => s.upTo (sectionLinkLost l) 64)
  { s with counting := { s.counting with wasUp := insert s.counting.wasUp l now } }

/-- T_rec passes: a section that holds on a link not UP is to be DISTURBED at the next boundary (R63, R169, R182). -/
def recoveryLinkLost (x : Nat) (s : State) : State :=
  s.when (s.secUsed x && s.flag CNT_SEC_STATE.LINK_HOLD x && !s.linkIsUp (s.rd CNT_SEC_CFG.LINK x)) (addCause x secLinkLost)

/-- A link that failed its loopback is as one declared LOST at the first cycle of Recovery: it ends LINK_HOLD there (R252). -/
def loopFailLost (x : Nat) (s : State) : State :=
  s.when (s.secUsed x && s.flag CNT_SEC_STATE.LINK_HOLD x && s.flag NBL_STATE.LOOP_FAIL (s.rd CNT_SEC_CFG.LINK x))
    (addCause x secLinkLost)

/-- The handshake `k` of link `l` is the peer's last accepted one (R179). -/
def takeHandshake (l k : Nat) (s : State) : State :=
  match (s.link l).handshakes[k]? with
  | none => s
  | some b =>
    let x := s.rd LOAF_LINK.SHARED (16 * l + k)
    ((s.wr CNT_SEC_PEER.PSTATE (b / 64 % 4) x).wrFlag CNT_SEC_PEER.PREP_DONE (bit b 5) x).wrFlag CNT_SEC_PEER.VALID true x

/-- The handshakes of link `l` while it is UP. -/
def takeHandshakes (l : Nat) (s : State) : State :=
  if s.linkUsed l ∧ s.linkIsUp l then s.upTo (takeHandshake l) (s.rd NBL_CFG.N_HS l) else s

/-! ### The evaluation of a section (R164 step 6) -/

/-- The peer's condition of R174 and R175. -/
def State.peerDone (s : State) (x : Nat) : Bool :=
  !s.flag CNT_SEC_CFG.SHARED x
    || (s.flag CNT_SEC_PEER.VALID x && (decide (s.rd CNT_SEC_PEER.PSTATE x = secClear)
      || (decide (s.rd CNT_SEC_PEER.PSTATE x = secPrepared) && s.flag CNT_SEC_PEER.PREP_DONE x)))

/-- The disagreement of R180 holds now. -/
def State.disagrees (s : State) (x : Nat) : Bool :=
  s.flag CNT_SEC_CFG.SHARED x && s.flag CNT_SEC_PEER.VALID x && s.linkIsUp (s.rd CNT_SEC_CFG.LINK x)
    && ((decide (s.secState x = secClear) && decide (s.rd CNT_SEC_PEER.PSTATE x ≠ secClear))
      || (decide (s.secState x = secPrepared) && decide (s.rd CNT_SEC_PEER.PSTATE x = secDisturbed) && s.prepDone x))

/-- A confirmed reset that is not spoilt is in progress. -/
def State.awaitsConf (s : State) (x : Nat) : Bool :=
  decide (s.secState x = secPrepared) && decide ((s.sec_ x).prepKind = 2) && !(s.sec_ x).spoilt

/-- The time of R174 or R175 has passed. -/
def State.resetLate (s : State) (x : Nat) : Bool :=
  let lim := if s.awaitsConf x then s.rd CNT_SEC_TIME0.T_CONF_MAX x else s.rd CNT_SEC_TIME0.T_PREP x
  decide (s.secState x = secPrepared) && decide (lim * 1000 < s.cycles - (s.sec_ x).prepCycle)

/-- LINK_HOLD has lasted longer than T_LINKHOLD, outside Recovery (R181), the time in Hold not counted (R165). -/
def State.holdLate (s : State) (x : Nat) : Bool :=
  s.flag CNT_SEC_STATE.LINK_HOLD x && decide (s.mode ≠ .recovery)
    && decide ((s.sec_ x).holdNs + 1000000 * (s.sec_ x).holdStood + s.rd CNT_SEC_TIME1.T_LINKHOLD x * 100000000 < s.tickNs)

/-- The boundary points of `x` that meet `f`, each with a cause. -/
def State.pointCauses (s : State) (x cause : Nat) (f : Nat → Bool) : List (Nat × Nat) :=
  (s.bounds x).filterMap (fun b => if f b.1 then some (cause, b.1) else none)

/-- Some boundary point of `x` is UNKNOWN; has a passage open. -/
def State.someUnknown (s : State) (x : Nat) : Bool := s.somePoint x (fun p => decide (s.rd CNT_CP_STATE.PSTATE p = 3))
def State.somePassage (s : State) (x : Nat) : Bool := s.somePoint x (fun p => s.flag CNT_CP_STATE.PASSAGE p)

/-- The lasting conditions that are causes of DISTURBED (R169), each with the point where it holds (128: the section itself). -/
def State.conditions (s : State) (x : Nat) : List (Nat × Nat) :=
  let r := s.sec_ x
  s.pointCauses x secPointFailed (fun p => decide (s.rd CNT_CP_STATE.PSTATE p = 2))
    ++ s.pointCauses x secPointDisturbed (fun p => decide (s.rd CNT_CP_STATE.PSTATE p = 1) && !s.flag CNT_CP_STATE.RESTARTING p)
    ++ (if s.rd CNT_SEC_TIME1.NEG_HOLD x ≤ r.negRun then [(secUndercount, 128)] else [])
    ++ (if s.holdLate x || (decide (s.secState x = secPrepared) && s.someUnknown x) then [(secLinkLost, 128)] else [])
    ++ (if s.resetLate x then [(secResetTimeout, 128)] else [])
    ++ (if s.disagrees x && decide (s.rd CNT_SEC_TIME1.T_AGREE x ≤ s.rd CNT_SEC_PEER.DISAGREE x) then [(secPeerDisagree, 128)]
        else [])

/-- The causes that hold for OCCUPIED (R169). -/
def State.occupiedCauses (s : State) (x : Nat) : List Nat :=
  (if s.rd CNT_SEC_STATE.COUNT x ≠ 0 then [secCount] else [])
    ++ (if s.somePassage x then [secBoundary] else [])
    ++ (if s.someUnknown x || s.flag CNT_SEC_STATE.LINK_HOLD x then [secLinkHold] else [])
    ++ (if s.somePoint x (fun p => s.flag CNT_CP_STATE.RESTARTING p) then [secPointRestart] else [])

/-- A confirmed reset is spoilt at this boundary (R176). -/
def State.spoils (s : State) (x : Nat) : Bool :=
  s.awaitsConf x && (decide (s.rd CNT_SEC_TALLY.IN x ≠ 0) || decide (s.rd CNT_SEC_TALLY.OUT x ≠ 0) || s.somePassage x)

/-- A PREPARED section completes where its conditions and its peer's hold (R174, R175). -/
def finishReset (x : Nat) (s : State) : State :=
  if s.prepDone x && s.peerDone x then
    completeReset x (if s.awaitsConf x then secConfirmed else secSweepDone) s
  else s

/-- The progress of a reset at a boundary without a cause of DISTURBED (R174 to R176). -/
def resetProgress (x : Nat) (s : State) : State :=
  if s.spoils x then
    if s.flag CNT_SEC_CFG.SWEEP_OK x then
      let s := (s.wr CNT_SEC_STATE.CAUSE secResetSweep x).wr CNT_SEC_PREP.TOKEN 0 x
      finishReset x (s.modSec x (fun r => { r with spoilt := true, confd := false }))
    else disturbSection x secResetAbort s
  else finishReset x s

/-- OCCUPIED or CLEAR by what holds (R169, R170). -/
def occupancy (x : Nat) (s : State) : State :=
  match lowestCause (s.occupiedCauses x) with
  | some c => secGo x secOccupied c s
  | none => if s.secState x = secOccupied then secGo x secClear 0 s else s

/-- The runs of R168 and R180 at this boundary. -/
def sectionRuns (x : Nat) (s : State) : State :=
  let s := s.modSec x (fun r => { r with negRun := if s.secCountOf x < 0 then r.negRun + 1 else 0 })
  if s.disagrees x then s.count CNT_SEC_PEER.DISAGREE x else s.wr CNT_SEC_PEER.DISAGREE 0 x

/-- The evaluation of section `x`: causes of DISTURBED first, then OCCUPIED and CLEAR, then the reset (R164, R169). A
condition that goes on holding decides again only while the section is not DISTURBED. -/
def evaluateSection (x : Nat) (s : State) : State :=
  if !s.secUsed x then s
  else
    let s := sectionRuns x s
    let r := s.sec_ x
    let cond := s.conditions x
    let fresh := if s.secState x = secDisturbed then cond.filter (fun c => !r.held.contains c) else cond
    let s := s.modSec x (fun r => { r with held := cond, causes := [] })
    let s := match lowestCause (fresh.map (·.1) ++ r.causes) with
      | some c => disturbSection x c s
      | none =>
        if s.secState x = secDisturbed then s
        else if s.secState x = secPrepared then resetProgress x s
        else occupancy x s
    showSection x (s.wrS CNT_SEC_DELTA.DELTA (clipSigned 8 (s.sec_ x).delta) x)

/-! ### Reset commands (R172 to R177, R468) -/

/-- The operations of `CNT_RESET_CMD.OP`. -/
def opSweep : Nat := 1
def opConfirmed : Nat := 2
def opConfirm : Nat := 3
def opAbort : Nat := 4

/-- The status of `CNT_RESET_RESULT` for a status of a response. -/
def cntStatusCode : Status → Nat
  | .ok => 1 | .refusedMode => 2 | .refusedState => 3 | .refusedKind => 4 | .refusedPoint => 5 | .refusedToken => 6
  | .tooEarly => 7 | .alreadyDone => 8
  | .refusedGuard => 0 | .busy => 0 | .deferred => 0 | .preempted => 0 | .loafEmpty => 0 | .refusedRange => 0
  | .truncated => 0 | .failed => 0 | .timeout => 0 | .unknownCmd => 0 | .badLength => 0

/-- A token from an unknown value: never 0, never the previous one (R172). -/
def pickToken (v last : Nat) : Nat :=
  if v ≠ 0 ∧ v ≠ last then v
  else if (v + 1) % 65536 ≠ 0 ∧ (v + 1) % 65536 ≠ last then (v + 1) % 65536
  else (v + 2) % 65536

/-- The section becomes PREPARED (R172). -/
def acceptReset (x op : Nat) (s : State) : State :=
  let tok := pickToken (s.freeVal 16) s.counting.lastToken
  let s := ((s.wr CNT_SEC_STATE.COUNT 0 x).wr CNT_SEC_TALLY.IN 0 x).wr CNT_SEC_TALLY.OUT 0 x
  let s := s.wr CNT_SEC_PEER.DISAGREE 0 x
  let s := s.modSec x (fun r =>
    { r with negRun := 0, prepCycle := s.cycles, prepKind := op, spoilt := false, confd := false })
  let s := if op = opConfirmed then
      { (s.wr CNT_SEC_PREP.TOKEN tok x).nextFree with counting := { s.counting with lastToken := tok } }
    else s.wr CNT_SEC_PREP.TOKEN 0 x
  showSection x (secGo x secPrepared (if op = opSweep then secResetSweep else secResetConfirmed) s)

/-- SWEEP or CONFIRMED at a boundary (R172). -/
def resetStart (x op : Nat) (s : State) : State × Status :=
  if !s.secUsed x ∨ s.secState x ≠ secDisturbed then (s, .refusedState)
  else if !(if op = opSweep then s.flag CNT_SEC_CFG.SWEEP_OK x else s.flag CNT_SEC_CFG.CONF_OK x) then (s, .refusedKind)
  else if !s.pointsOk x then (s, .refusedPoint)
  else (acceptReset x op s, .ok)

/-- Every condition of R170 holds, with the tallies still 0 (R175); no cause of DISTURBED has arisen, else the section would
not be PREPARED. -/
def State.confReady (s : State) (x : Nat) : Bool :=
  decide (s.rd CNT_SEC_STATE.COUNT x = 0) && s.pointsOk x && decide (s.rd CNT_SEC_TALLY.IN x = 0)
    && decide (s.rd CNT_SEC_TALLY.OUT x = 0)

/-- CONFIRM at a boundary (R175). -/
def resetConfirm (x token : Nat) (s : State) : State × Status :=
  if !s.secUsed x ∨ !s.awaitsConf x then (s, .refusedState)
  else if token ≠ s.rd CNT_SEC_PREP.TOKEN x then (s, .refusedToken)
  else if s.cycles - (s.sec_ x).prepCycle < s.rd CNT_SEC_TIME0.T_CONF_MIN x * 1000 then (s, .tooEarly)
  else if !s.confReady x then (s, .refusedState)
  else if s.peerDone x then (showSection x (completeReset x secConfirmed s), .ok)
  else (s.modSec x (fun r => { r with confd := true }), .ok)

/-- ABORT at a boundary (R177): a completion at the same boundary wins. -/
def resetAbort (x : Nat) (s : State) : State × Status :=
  if (s.sec_ x).doneCycle = some s.cycles then (s, .alreadyDone)
  else if !s.secUsed x ∨ s.secState x ≠ secPrepared then (s, .refusedState)
  else (showSection x (disturbSection x secResetAbort s), .ok)

/-- A reset command evaluated at a boundary. -/
def resetEvaluate (q : ResetReq) (s : State) : State × Status :=
  let op := q.op
  if op = opSweep ∨ op = opConfirmed ∨ op = opConfirm ∨ op = opAbort then
    if s.mode ≠ .service ∧ s.mode ≠ .recovery then (s, .refusedMode)
    else if op = opSweep ∨ op = opConfirmed then resetStart q.section_ op s
    else if op = opConfirm then resetConfirm q.section_ q.token s
    else resetAbort q.section_ s
  else (s, .refusedState)

/-- The outcome of a reset command: `CNT_RESET_RESULT`, and the response where a host asked (R434). -/
def resetOutcome (q : ResetReq) (st : Status) (s : State) : State :=
  let s := s.outcome CNT_RESET_RESULT.GEN CNT_RESET_RESULT.VALID
  let s := ((s.wrFlag CNT_RESET_RESULT.IGNORED false).wr CNT_RESET_RESULT.STATUS (cntStatusCode st)).wr
    CNT_RESET_RESULT.SECTION q.section_
  let s := { s with counting := { s.counting with request := none } }
  let tok := if q.op = opConfirmed ∧ st = .ok then s.rd CNT_SEC_PREP.TOKEN q.section_ else 0
  match q.channel with
  | none => s
  | some ch => respond ch st 0 ([q.section_, s.secState q.section_] ++ toBytesLE 2 tok) s

/-- The pending reset command is evaluated at the boundary. -/
def resetBoundary (s : State) : State :=
  match s.counting.request with
  | none => s
  | some q => match resetEvaluate q s with
    | (s, st) => resetOutcome q st s

/-- The pending reset command is answered REFUSED_MODE at a mode change out of Service and Recovery (R172). -/
def resetRefuse (s : State) : State :=
  match s.counting.request with
  | none => s
  | some q => resetOutcome q .refusedMode s

/-- A write of `CNT_RESET_CMD` with GO (R468). -/
def resetWrite (q : ResetReq) (s : State) : State :=
  match s.counting.request with
  | some p => ((s.wrFlag CNT_RESET_RESULT.VALID false).wrFlag CNT_RESET_RESULT.IGNORED true).wr CNT_RESET_RESULT.SECTION p.section_
  | none =>
    let s := (s.wrFlag CNT_RESET_RESULT.VALID false).wr CNT_RESET_RESULT.SECTION q.section_
    { s with counting := { s.counting with request := some q } }

/-- A host's SECTION_RESET as the pair takes it (R172, R468): BUSY while a command is pending. -/
def resetCommand (ch op x token : Nat) (s : State) : State :=
  match s.counting.request with
  | some _ => respond ch .busy 0 ([x % 64, s.secState (x % 64)] ++ [0, 0]) s
  | none => resetWrite ⟨op, x % 64, token, some ch⟩ s

/-- A write of `CNT_FORCE` with GO: PLAUSIBILITY at the next boundary (R165). -/
def cntForce (x : Nat) (s : State) : State := addCause x secPlausibility s

/-! ### The boundary (R164, R165) -/

/-- The count before this boundary's changes. -/
def sectionBegin (x : Nat) (s : State) : State :=
  if s.secUsed x then (s.wr CNT_SEC_DELTA.PREV (s.rd CNT_SEC_STATE.COUNT x) x).modSec x (fun r => { r with delta := 0 }) else s

/-- A publication steps GEN; an output whose section it takes out of CLEAR drops at once (R164, R183, R221). -/
def published (s : State) : State := breakPulses (s.inc CNT_CYCLE.GEN)

/-- A publication at which no record and no report is applied: every count stands (R183). -/
def publishedStill (s : State) : State :=
  let still := fun x (s : State) => s.when (s.secUsed x)
    (fun s => (s.wr CNT_SEC_DELTA.PREV (s.rd CNT_SEC_STATE.COUNT x) x).wr CNT_SEC_DELTA.DELTA 0 x)
  published (((s.upTo still 64).wr CNT_CYCLE.N_REC 0).wr CNT_CYCLE.N_REM 0)

/-- The engine's work at a cycle boundary while it runs. -/
def countingWork (s : State) : State :=
  let recs := sortRecords (s.chafer.posted.filter s.recordCounts)
  let s := (consumeRecords s).upTo sectionBegin 64
  let s := s.upTo linkBoundary 4
  let s := s.each applyRecord recs
  let s := s.wr CNT_CYCLE.N_REM 0
  let s := s.upTo sectionRestore 64
  let s := s.upTo (fun k => remoteBoundary (96 + k)) 32
  let s := s.upTo localBoundary 96
  let s := s.upTo takeHandshakes 4
  let s := s.upTo evaluateSection 64
  published (resetBoundary (s.wr CNT_CYCLE.N_REC (sat 8 recs.length)))

/-- A boundary in Hold: the timers of section `x` stand (R165). -/
def holdTimers (x : Nat) (s : State) : State :=
  s.when (s.secUsed x) (fun s => s.modSec x (fun r => { r with prepCycle := r.prepCycle + 1, holdStood := r.holdStood + 1 }))

/-- Entry to Hold ends the reset of section `x` without completion; no confirmed reset is in progress, and the rest of its registers
is frozen as it stands (R165, R177, R183). -/
def holdEndsReset (x : Nat) (s : State) : State := s.when (decide (s.secState x = secPrepared)) (endPrep x)

/-- The engine at a cycle boundary (R165): it works; or is frozen, lets Chafer's records go, and refuses a command by the mode
(R172); while MDLL-A is gated it stands still. -/
def countingBoundary (s : State) : State :=
  if s.countingRuns then countingWork s
  else
    match s.mode with
    | .commission => s | .service => s | .recovery => s
    | .resetSeq => s | .dormant => s
    | .proof => resetBoundary (consumeRecords s) | .hold => resetBoundary ((consumeRecords s).upTo holdTimers 64) | .reserved => s

/-! ### Save, restart, resume (R57, R58, R182, R205) -/

/-- A section as the Firefly retention store holds it. -/
def State.savedSection (s : State) (x : Nat) : SavedSection :=
  ⟨s.secState x, s.rd CNT_SEC_STATE.COUNT x, s.rd CNT_SEC_TALLY.IN x, s.rd CNT_SEC_TALLY.OUT x⟩

/-- Service or Recovery is left with the sections to resume: states, counts and counters go into the retention store, and
the record of crossings begins anew (R58, R160). -/
def saveSections (kind : SaveKind) (s : State) : State :=
  { s with kept := { kind := kind, sections := (filterUpTo s.secUsed 64).map (fun x => (x, s.savedSection x)),
                     points := (filterUpTo (fun p => s.flag CNT_CP_CFG.USED p) 128).map
                       (fun p => (p, s.rd CNT_CP_STATE.CNT_AB p, s.rd CNT_CP_STATE.CNT_BA p)),
                     crossed := [] } }

/-- Section `x` after a reset, or a Proof from Hold or Commission: DISTURBED with RESTART, everything else at its reset value
but N_DIST, which counts the entry after a Proof (R57). -/
def restartSection (counts : Bool) (x : Nat) (s : State) : State :=
  let changed := s.secUsed x && decide (s.secState x ≠ secDisturbed)
  let s := ((s.clr CNT_SEC_STATE.COUNT x).clr CNT_SEC_STATE.LINK_HOLD x).clr CNT_SEC_STATE.NEG x
  let s := ((s.clr CNT_SEC_STATE.SWEEPING x).clr CNT_SEC_STATE.AWAIT_CONF x).clr CNT_SEC_STATE.CAUSE x
  let s := ((s.clr CNT_SEC_TALLY.IN x).clr CNT_SEC_TALLY.OUT x).clr CNT_SEC_PREP.TOKEN x
  let s := ((s.clr CNT_SEC_PREP.ELAPSED x).clr CNT_SEC_DELTA.PREV x).clr CNT_SEC_DELTA.DELTA x
  let s := ((s.clr CNT_SEC_PEER.PSTATE x).clr CNT_SEC_PEER.PREP_DONE x).clr CNT_SEC_PEER.VALID x
  let s := ((s.clr CNT_SEC_PEER.DISAGREE x).clr CNT_SEC_CAUSE.FIRST x).clr CNT_SEC_CAUSE.LAST x
  let s := (s.clr CNT_SEC_STATE.STATE x).modSec x (fun _ => default)
  (s.when (counts && s.secUsed x) (fun s => s.count CNT_SEC_CAUSE.N_DIST x)).when changed (irq 3)

/-- Section `x` as it was saved. -/
def restoreSection (p : Nat × SavedSection) (s : State) : State :=
  let s := (s.wr CNT_SEC_STATE.STATE p.2.state p.1).wr CNT_SEC_STATE.COUNT p.2.count p.1
  (s.wr CNT_SEC_TALLY.IN p.2.tallyIn p.1).wr CNT_SEC_TALLY.OUT p.2.tallyOut p.1

/-- A point's counters as they were saved (R160). -/
def restorePoint (p : Nat × Nat × Nat) (s : State) : State :=
  (s.wr CNT_CP_STATE.CNT_AB p.2.1 p.1).wr CNT_CP_STATE.CNT_BA p.2.2 p.1

/-- A system of a local boundary head of section `x` crossed while the engine stood. -/
def State.crossedMeanwhile (s : State) (x : Nat) : Bool :=
  s.somePoint x (fun p => !remotePoint p && (s.kept.crossed.contains (2 * p) || s.kept.crossed.contains (2 * p + 1)))

/-- Section `x` resumes at the first cycle of Recovery (R58, R182). Of RESTART and RESUME_DAMPED the lower code, RESTART, is
recorded (R169). -/
def resumeSection (kind : SaveKind) (x : Nat) (s : State) : State :=
  if !s.secUsed x then s
  else
    let l := s.rd CNT_SEC_CFG.LINK x
    let remote := s.somePoint x remotePoint
    let s := (s.wrFlag CNT_SEC_PEER.VALID false x).wr CNT_SEC_PEER.DISAGREE 0 x
    let held := s.flag CNT_SEC_STATE.LINK_HOLD x
    let s := s.wrFlag CNT_SEC_STATE.LINK_HOLD false x
    if s.secState x = secPrepared ∧ kind ≠ .dormant then disturbSection x secRestart s
    else if (kind = .proof ∨ kind = .rejoin) ∧ s.crossedMeanwhile x then disturbSection x secResumeDamped s
    else if remote ∧ (s.secState x = secClear ∨ s.secState x = secOccupied) then
      let t := if held then (s.sec_ x).holdNs else if s.linkIsUp l then (s.link l).lastAccept else (s.link l).lossNs
      let s := s.modSec x (fun r => { r with holdNs := t, holdStood := 0 })
      loopFailLost x (secGo x secOccupied secLinkHold (s.wrFlag CNT_SEC_STATE.LINK_HOLD true x))
    else s

/-- After a gating that the links survived, the first report accepted since is the one compared (R182). -/
def pointAfterGate (k : Nat) (s : State) : State :=
  if s.flag CNT_CP_CFG.USED (96 + k) then s.modPoint (96 + k) (fun r => { r with afterNs := some s.tickNs }) else s

/-- The sections at the first cycle of Recovery: restarted after a Proof from Hold or Commission and after a reset, else
resumed from the retention store (R57, R58, R205). -/
def resumeSections (s : State) : State :=
  let kind := s.kept.kind
  if kind = .none ∨ kind = .restart then
    { s.upTo (restartSection (decide (kind = .restart))) 64 with kept := default }
  else
    let s := s.each restoreSection s.kept.sections
    let s := s.each restorePoint s.kept.points
    let s := s.upTo (resumeSection kind) 64
    let s := s.when (kind = .gating) (fun s => s.upTo pointAfterGate 32)
    { s with kept := default }

/-- The first cycle of Recovery after a wake begins: the sections resume with it (R58, R182). -/
def wakeResume (s : State) : State :=
  s.when (decide (s.mode = .recovery) && decide (s.kept.kind = .dormant) && s.mdllA) resumeSections

/-! ### Single events of a section -/

/-- A boundary finds the sweep conditions of section `x` met (R174). -/
def sweepDone (x : Nat) (s : State) : State :=
  s.when (s.countingRuns && s.prepDone x && !s.awaitsConf x && s.peerDone x) (fun s =>
    publishedStill (showSection x (completeReset x secSweepDone s)))

/-- A boundary finds an accepted confirmation of section `x` complete (R175). -/
def confirmedDone (x : Nat) (s : State) : State :=
  s.when (s.countingRuns && s.prepDone x && s.awaitsConf x && s.peerDone x) (fun s =>
    publishedStill (showSection x (completeReset x secConfirmed s)))

/-- An event that disturbs section `x` where `p` holds and the engine runs. -/
def sectionEvent (p : State → Bool) (cause x : Nat) (s : State) : State :=
  s.when (s.countingRuns && s.secUsed x && p s) (fun s => publishedStill (showSection x (disturbSection x cause s)))

/-- T_PREP passes in a sweep (R174). -/
def tPrepExpiry (x : Nat) : State → State :=
  sectionEvent (fun s => decide (s.secState x = secPrepared) && !s.awaitsConf x) secResetTimeout x

/-- T_CONF_MAX passes without a completed confirmation (R175). -/
def tConfMaxExpiry (x : Nat) : State → State := sectionEvent (fun s => s.awaitsConf x) secResetTimeout x

/-- The count has been below 0 for NEG_HOLD boundaries (R168). -/
def undercount (x : Nat) : State → State :=
  sectionEvent (fun s => decide (s.secCountOf x < 0) && decide (s.secState x ≠ secDisturbed)) secUndercount x

/-- T_LINKHOLD passes outside Recovery (R181). -/
def linkHoldExpiry (x : Nat) : State → State :=
  sectionEvent (fun s => s.flag CNT_SEC_STATE.LINK_HOLD x && decide (s.mode ≠ .recovery)) secLinkLost x

/-- The disagreement with the peer reaches T_AGREE (R180). -/
def peerDisagree (x : Nat) : State → State := sectionEvent (fun s => s.disagrees x) secPeerDisagree x

end Sys2Proof.Machine
end

