-- ==== Sys2Proof/Machine/ExecHeads.lean ====
section
/-!
DEFINITION. The meanings of the commands of the head front end, of Chafer and of the counting engine.
-/
namespace Sys2Proof.Machine

/-! ### Head front end (R100 to R124) -/

/-- A converter delivers a sample. -/
def converterDelivers (c : Converter) (code : Int) (s : State) : State :=
  match c with
  | .system q low => systemSample q.val code low s
  | .rrc c => rrcSample c.val code s

/-- CONVERSION_DONE (R100, R101). -/
def execConversionDone (c : Converter) (code : BitVec 16) (s : State) : Answer := .next (converterDelivers c code.toInt s)

/-- A converter delivers nothing. -/
def converterMisses (c : Converter) (s : State) : State :=
  match c with
  | .system q _ => systemMissed q.val s
  | .rrc c => rrcMissed c.val s

/-- CONVERSION_MISSED (R103). -/
def execConversionMissed (c : Converter) (s : State) : Answer := .next (converterMisses c s)

/-- TEST_SLOT_START (R110). -/
def execTestSlotStart (s : State) : Answer := .next (testSlotStart s)

/-- TEST_PULSE_END (R111). -/
def execTestPulseEnd (s : State) : Answer := .next (testPulseEnd s)

/-- TEST_RESTART_CHECK (R111, R112). -/
def execTestRestartCheck (s : State) : Answer := .next (testRestartCheck s)

/-- TEST_SLOT_END (R108). -/
def execTestSlotEnd (s : State) : Answer := .next (testSlotEnd s)

/-- TEST_LATE (R113). -/
def execTestLate (q : Fin 192) (s : State) : Answer := .next (testLate q.val s)

/-- CANCELLER_CORRECTION (R117). -/
def execCancellerCorrection (q : Fin 192) (tick : Nat) (corr : BitVec 16) (s : State) : Answer :=
  .next (correctionArrives q.val tick corr.toInt s)

/-- CANCELLER_REQUALIFY (R118). -/
def execCancellerRequalify (q : Fin 192) (s : State) : Answer := .next (cancellerRequalify q.val s)

/-- RECORDER_ENABLE (R122). -/
def execRecorderEnable (s : State) : Answer := .next (recEnable s)

/-- RECORDER_ARM (R123). -/
def execRecorderArm (s : State) : Answer := .next (recArm s)

/-- RECORDER_BLOCK (R121, R124). -/
def execRecorderBlock (lost : Bool) (s : State) : Answer := .next (recBlock lost s)

/-! ### Chafer (R131, R136, R147, R149, R153) -/

/-- CHAFER_TICK (R131). -/
def execChaferTick (h : Fin 96) (s : State) : Answer := .next (chaferTick h.val s)

/-- DISCREPANCY_TIMEOUT (R147). -/
def execDiscrepancyTimeout (h : Fin 96) (s : State) : Answer := .next (discrepancyTimeout h.val s)

/-- STANDING (R136). -/
def execStanding (h : Fin 96) (s : State) : Answer := .next (standing h.val s)

/-- HEAD_QUIET (R149). -/
def execHeadQuiet (h : Fin 96) (s : State) : Answer := .next (headQuiet h.val s)

/-- RECORD_POST (R153). -/
def execRecordPost (s : State) : Answer := .next (recordPost s)

end Sys2Proof.Machine
end

