-- ==== Sys2Proof/Machine/Guard.lean ====
section
/-!
DEFINITION. The time guard (R383 to R390): its states, the widening, the judging of a measurement, the acquisition and the
step of the time base.
-/
namespace Sys2Proof.Machine

/-- The codes of `ETH_SRV_STATUS.CAUSE` (R384). -/
def gcCold : Nat := 1
def gcReset : Nat := 2
def gcMode : Nat := 3
def gcClock : Nat := 4
def gcMasterLost : Nat := 5
def gcMasterChange : Nat := 6
def gcJumpRefused : Nat := 7

/-- The record of the guard and the offset engine changed. -/
def State.modEth (s : State) (f : Eth → Eth) : State := { s with eth := f s.eth }

/-- A change of the guard's state: GEN, and one interrupt (R384). -/
def guardGo (st : Nat) (s : State) : State := irq 6 ((s.wr ETH_SRV_STATUS.STATE st).inc ETH_SRV_STATUS.GEN)

/-- T_J + W in nanoseconds. -/
def State.jumpLimit (s : State) : Nat := 1000 * s.rd ETH_SRV_CFG0.T_J + s.wide50 / 50

/-- A cause of R384: out of LOCKED into HOLDOVER, with the applied offset frozen as the holdover value (R388); in HOLDOVER
and UNSYNC it replaces CAUSE. The count of an acquisition begins anew. -/
def guardCause (cause : Nat) (s : State) : State :=
  let s := s.wr ETH_SRV_STATUS.CAUSE cause
  if s.guard = guardLocked then
    guardGo guardHoldover (s.modEth (fun e =>
      { e with hoTick := s.ticks, holdover := s.rdS CLK_TS_APPLIED.OFFSET, written := false, nAccepted := 0 }))
  else s

/-- The counted measurements are discarded (R389, R390). -/
def guardDiscard (s : State) : State := s.modEth (fun e => { e with acq := [], nAccepted := 0 })

/-- Entry to Dormant or Proof (R384, R390): the Sync under way gives no measurement. -/
def guardModeEntry (s : State) : State :=
  (guardDiscard (guardCause gcMode s)).modEth (fun e => { e with sync := none })

/-- The guard enters LOCKED: W keeps its value, and the holdover value applies until `CLK_TS_FREQ` is written (R383, R385). -/
def guardLock (s : State) : State :=
  let w := s.wide50
  let s := s.modEth (fun e => { e with kept50 := w, nAccepted := 0, lastTick := s.ticks, lost := false })
  if s.guard = guardLocked then s else guardGo guardLocked (s.modEth (fun e => { e with written := false }))

/-! ### Acquisition and step (R386) -/

/-- An integer put into a list that rises. -/
def insertInt (x : Int) : List Int → List Int
  | [] => [x]
  | y :: ys => if x ≤ y then x :: y :: ys else y :: insertInt x ys

/-- A list of integers in rising order. -/
def sortInts (xs : List Int) : List Int := xs.foldr insertInt []

/-- Twice the median. -/
def median2 (xs : List Int) : Int :=
  let ys := sortInts xs
  let n := ys.length
  if n % 2 = 1 then 2 * ys.getD (n / 2) 0 else ys.getD (n / 2 - 1) 0 + ys.getD (n / 2) 0

/-- N_ACQ; 0 stands for 16. -/
def State.nAcq (s : State) : Nat := if s.rd ETH_SRV_CFG1.N_ACQ = 0 then 16 else s.rd ETH_SRV_CFG1.N_ACQ

/-- The last N_ACQ measurements lie within ACQ_TOL of their median: an acquisition, and its median. -/
def State.acquisition (s : State) (xs : List Int) : Option Int :=
  let ys := xs.take s.nAcq
  let m := median2 ys
  if ys.length = s.nAcq ∧ ys.all (fun x => decide ((2 * x - m).natAbs ≤ 2000 * s.rd ETH_SRV_CFG1.ACQ_TOL)) then some (roundQ m 2)
  else none

/-- The time base steps forward; the step is recorded and raises one interrupt; the first one sets ACQUIRED. -/
def timeStep (ns : Nat) (s : State) : State :=
  let s := { s with timeNs := s.timeNs + ns, eth := { s.eth with stepped := s.eth.stepped + ns } }
  let s := (s.wr ETH_SRV_STEP0.NS (ns % 1000000000)).wr ETH_SRV_STEP1.SEC (ns / 1000000000 % 2 ^ 32)
  irq 6 ((s.count ETH_SRV_CNT.N_STEP).wrFlag ETH_SRV_STATUS.ACQUIRED true)

/-- The arming ends. -/
def guardDisarm (s : State) : State :=
  (s.wrFlag ETH_SRV_STATUS.ARMED false).modEth (fun e => { e with armTick := none, acq := [] })

/-- A measurement is published (R382): its offset, its delay, GEN, VALID and REFUSED. -/
def publishOffset (off : Int) (delay : Int) (refused : Bool) (s : State) : State :=
  let v := ofSigned 64 off
  let s := (s.wr ETH_SRV_OFFSET0.OFFSET (v % 2 ^ 32)).wr ETH_SRV_OFFSET1.OFFSET (v / 2 ^ 32)
  let s := (s.inc ETH_SRV_OFFSET2.GEN).wrFlag ETH_SRV_OFFSET2.VALID true
  let s := s.wrFlag ETH_SRV_OFFSET2.REFUSED refused
  let s := s.wr ETH_SRV_DELAY.D_MEAN (clampInt 0 4294967295 delay).toNat
  s.when refused (fun s => s.count ETH_SRV_CNT.N_REFUSED)

/-- A refused measurement (R385, R439): nothing is removed; LOCKED is left. -/
def guardRefuse (s : State) : State := crumbEvent SNP_CFG.EN_JUMP ETH_SRV_STATUS.reg ((guardCause gcJumpRefused s).modEth (fun e => { e with nAccepted := 0 }))

/-- An accepted measurement (R385): W ends at the first one within T_J; N_ACQ in a row end HOLDOVER. -/
def guardAccept (off : Int) (s : State) : State :=
  if s.guard = guardLocked then
    s.when (decide (off.natAbs ≤ 1000 * s.rd ETH_SRV_CFG0.T_J)) (fun s => s.modEth (fun e => { e with kept50 := 0 }))
  else
    let s := s.modEth (fun e => { e with nAccepted := e.nAccepted + 1 })
    if s.guard = guardHoldover ∧ s.nAcq ≤ s.eth.nAccepted then guardLock s else s

/-- A measurement reaches the guard (R385, R386): an acquisition is decided by its median, any other measurement by itself. -/
def guardJudge (off delay : Int) (s : State) : State :=
  let armed := s.flag ETH_SRV_STATUS.ARMED
  let s := s.modEth (fun e => { e with lastTick := s.ticks, lost := false, acq := if armed then (off :: e.acq).take 16 else [] })
  let lim : Int := (s.jumpLimit : Nat)
  match (if armed then s.acquisition s.eth.acq else none) with
  | some m =>
    if lim < m then (guardRefuse (publishOffset off delay true s)).modEth (fun e => { e with acq := [] })
    else
      let s := publishOffset off delay false s
      let s := s.when (decide (m < -lim)) (timeStep m.natAbs)
      guardDisarm (guardLock s)
  | none =>
    if off.natAbs ≤ s.jumpLimit then guardAccept off (publishOffset off delay false s)
    else guardRefuse (publishOffset off delay true s)

/-! ### Commands and time -/

/-- STEP_ARM (R387). -/
def State.stepArmRefused (s : State) : Option Nat :=
  if s.mode = .dormant ∨ s.mode = .proof then some 0x02
  else if !s.flag ETH_PTP_CFG.EN then some 0x03
  else none

/-- An accepted STEP_ARM: ARMED, and the 600 s and the search begin. -/
def guardArm (s : State) : State :=
  (s.wrFlag ETH_SRV_STATUS.ARMED true).modEth (fun e => { e with armTick := some s.ticks, acq := [] })

/-- The 600 s of an accepted STEP_ARM have passed; the arming of a cold reset has no such end. -/
def State.armOver (s : State) : Bool :=
  match s.eth.armTick with
  | some t => decide (30000000 ≤ s.ticks - t)
  | none => false

/-- The arming ends once its 600 s are over. -/
def armExpiry (s : State) : State := s.when s.armOver guardDisarm

/-- SYNC_TO has passed without a measurement (R384), for the first time since the last one; in Dormant and Proof the guard takes
none. -/
def State.syncOver (s : State) : Bool :=
  s.flag ETH_PTP_CFG.EN && !s.eth.lost && decide (s.mode ≠ .dormant) && decide (s.mode ≠ .proof) && decide (s.mode ≠ .resetSeq)
    && decide (5000 * s.rd ETH_SRV_CFG0.SYNC_TO ≤ s.ticks - s.eth.lastTick)

/-- The master is lost: LOCKED ends; in HOLDOVER and UNSYNC the cause replaces CAUSE. -/
def masterLost (s : State) : State :=
  s.when s.syncOver (fun s => (guardCause gcMasterLost s).modEth (fun e => { e with lost := true }))

/-- The guard's intervals at a tick: 600 s of an arming, SYNC_TO. -/
def guardTick (s : State) : State := masterLost (armExpiry s)

/-- A cold reset (R384, R386): UNSYNC, armed. -/
def guardCold (s : State) : State := { s with eth := default }

/-- A warm reset (R384, R387): HOLDOVER with cause RESET, no arming; ACQUIRED and the count of steps stay (R373). Its
registers stand at their reset values already. -/
def guardWarm (applied : Int) (s : State) : State :=
  let s := (s.wr ETH_SRV_STATUS.STATE guardHoldover).wr ETH_SRV_STATUS.CAUSE gcReset
  let s := s.wrFlag ETH_SRV_STATUS.ARMED false
  { s with eth := { (default : Eth) with stepped := s.eth.stepped, hoTick := s.ticks, holdover := applied } }

end Sys2Proof.Machine
end

