-- ==== Sys2Proof/Machine/Eth.lean ====
section
/-!
DEFINITION. The Ethernet block (15_network_time.md): received frames, the offset engine, the transmit timestamp queues, the
egress outcomes. Places of fields in a PTP message are those of IEEE 1588-2019 (PRESUMED: the manual names the fields only).
-/
namespace Sys2Proof.Machine

/-- The record of a port changed. -/
def State.modPort (s : State) (p : Nat) (f : EthPort → EthPort) : State := { s with ports := tmod s.ports p f }

/-! ### PTP messages -/

/-- The PTP message of a frame: after the Ethernet header with EtherType 0x88F7, or in UDP over IPv4 to port 319 or 320. -/
def State.ptpMessage (s : State) (f : List Nat) : Option (List Nat) :=
  if s.flag ETH_PTP_CFG.UDP4 && decide (s.rd ETH_PTP_CFG.PROFILE ≠ 3) then
    let port := ofBytesBE (slice f 36 2)
    if ofBytesBE (slice f 12 2) = 0x0800 ∧ f.getD 23 0 = 17 ∧ (port = 319 ∨ port = 320) then some (f.drop 42) else none
  else if ofBytesBE (slice f 12 2) = 0x88F7 then some (f.drop 14) else none

/-- messageType, domainNumber, twoStepFlag, correctionField, sourcePortIdentity, sequenceId and the timestamp of the body. -/
def ptpType (m : List Nat) : Nat := m.getD 0 0 % 16
def ptpDomain (m : List Nat) : Nat := m.getD 4 0
def ptpTwoStep (m : List Nat) : Bool := bit (m.getD 6 0) 1
def ptpCorrection (m : List Nat) : Int := toSigned 64 (ofBytesBE (slice m 8 8))
def ptpSource (m : List Nat) : List Nat := slice m 20 10
def ptpSeq (m : List Nat) : Nat := ofBytesBE (slice m 30 2)
def ptpTime (m : List Nat) : Nat := ofBytesBE (slice m 34 6) * 1000000000 + ofBytesBE (slice m 40 4)

/-- Every message with a body begins it with a timestamp; one with 10^9 nanoseconds or more there is malformed (R7). -/
def ptpMalformed (m : List Nat) : Bool := decide (1000000000 ≤ ofBytesBE (slice m 40 4))

/-- The parent port identity of `ETH_SRV_PARENT0` to `2`. -/
def State.parentId (s : State) : List Nat :=
  toBytesBE 4 (s.rd ETH_SRV_PARENT0.ID) ++ toBytesBE 4 (s.rd ETH_SRV_PARENT1.ID) ++ toBytesBE 2 (s.rd ETH_SRV_PARENT2.PORT)

/-- The offset engine listens on port `p`: enabled, while Ethernet works, so not in Dormant or Proof (R382, R384). -/
def State.engineOn (s : State) (p : Nat) : Bool :=
  s.flag ETH_PTP_CFG.EN && s.flag ETH_SRV_CTRL.ENABLE && decide (s.rd ETH_SRV_CTRL.SLAVE_PORT = p) && s.flag ETH_P_CFG.PTP p
    && s.ethOn

/-! ### The offset engine's exchanges (R382) -/

/-- A Sync of the parent: the newest one waits, with the ASYM of its moment (R375), with t1 at once where the master is one-step (R371). -/
def engineSync (p : Nat) (m : List Nat) (t2 : Nat) (s : State) : State :=
  s.modEth (fun e =>
    { e with sync := some ⟨t2, ptpSeq m, ptpCorrection m, s.rdS ETH_P_ASYM.ASYM p, if ptpTwoStep m then none else some (ptpTime m, 0)⟩ })

/-- Its Follow_Up brings t1 and a further correction. -/
def engineFollowUp (m : List Nat) (s : State) : State :=
  s.modEth (fun e => { e with sync :=
    match e.sync with
    | some w => if w.seq = ptpSeq m ∧ w.t1.isNone then some { w with t1 := some (ptpTime m, ptpCorrection m) } else some w
    | none => none })

/-- A Delay_Resp with the sequenceId of a Delay_Req that was sent completes an E2E exchange. -/
def engineDelayResp (m : List Nat) (s : State) : State :=
  match s.eth.delayReqs.find? (fun r => decide (r.1 = ptpSeq m)) with
  | some r => s.modEth (fun e => { e with
      endToEnd := some (r.2, ptpTime m, ptpCorrection m), delayReqs := e.delayReqs.takeWhile (fun q => decide (q.1 ≠ r.1)) })
  | none => s

/-- The answers to an own Pdelay_Req on port `p`: the response, then its Follow_Up. -/
def peerResponse (p : Nat) (m : List Nat) (t4 : Nat) (s : State) : State :=
  s.modPort p (fun r =>
    match r.peer.req with
    | some (q, t1) =>
      if q ≠ ptpSeq m then r
      else if ptpTwoStep m then { r with peer := { r.peer with resp := some (t4, ptpTime m, ptpCorrection m) } }
      else { r with peer := { r.peer with resp := none,
                                          delay2 := some (((t4 : Int) - t1) * 65536 - ptpCorrection m) } }
    | none => r)

/-- The Follow_Up completes the exchange: twice the link delay is (t4 - t1) - (t3 - t2) less both corrections. -/
def peerFollowUp (p : Nat) (m : List Nat) (s : State) : State :=
  s.modPort p (fun r =>
    match r.peer.req, r.peer.resp with
    | some (q, t1), some (t4, t2, c) =>
      if q ≠ ptpSeq m then r
      else { r with peer := ⟨none, none,
        some (((t4 : Int) - t1 - ((ptpTime m : Int) - t2)) * 65536 - c - ptpCorrection m)⟩ }
    | _, _ => r)

/-- The exchange under way on port `p` takes the message: an answer to its Pdelay_Req, or the Follow_Up to one. -/
def State.peerTakes (s : State) (p : Nat) (m : List Nat) : Bool :=
  match (s.port p).peer.req with
  | some (q, _) => decide (q = ptpSeq m) && (decide (ptpType m = 3) || (s.port p).peer.resp.isSome)
  | none => false

/-- The engine takes the Follow_Up or the Delay_Resp: the Sync that waits, or a Delay_Req that was sent, has its sequenceId. -/
def State.engineTakes (s : State) (m : List Nat) : Bool :=
  if ptpType m = 8 then
    match s.eth.sync with
    | some w => decide (w.seq = ptpSeq m) && w.t1.isNone
    | none => false
  else s.eth.delayReqs.any (fun r => decide (r.1 = ptpSeq m))

/-- The engine's part in a received PTP message of the domain, and whether it uses it (R376, R382). A malformed message is not used. A
Sync from elsewhere than the parent on the slave port is counted. -/
def enginePtp (p : Nat) (m : List Nat) (stamp : Nat) (s : State) : State × Bool :=
  let ty := ptpType m
  let parents := s.engineOn p && decide (ptpSource m = s.parentId)
  if ty = 0 ∧ !parents then (s.when (s.flag ETH_SRV_CTRL.ENABLE && s.ethOn) (fun s => s.count ETH_SRV_CNT.N_FOREIGN), false)
  else if ptpMalformed m then (s, false)
  else if ty = 3 then (peerResponse p m stamp s, s.peerTakes p m)
  else if ty = 10 then (peerFollowUp p m s, s.peerTakes p m)
  else if !parents then (s, false)
  else if ty = 0 then (engineSync p m stamp s, true)
  else if ty = 8 then (engineFollowUp m s, s.engineTakes m)
  else if ty = 9 ∧ !s.flag ETH_PTP_CFG.P2P then (engineDelayResp m s, s.engineTakes m)
  else (s, false)

/-- The FLAGS of a PTP message's header (R376): event or general, used by the engine, from another source than the parent. -/
def State.ptpFlags (s : State) (m : List Nat) (used : Bool) : Nat :=
  (if ptpType m < 4 then 1 else 2) + 4 * b2n used + 8 * b2n (decide (ptpSource m ≠ s.parentId))

/-! ### The measurement (R382) -/

/-- Twice the delay that a measurement uses, in 2^-16 ns: of the E2E exchange, or of the slave port's link. -/
def State.delay2 (s : State) (w : SyncWait) (t1 : Nat) (c : Int) : Option Int :=
  if s.flag ETH_PTP_CFG.P2P then (s.port (s.rd ETH_SRV_CTRL.SLAVE_PORT)).peer.delay2
  else
    match s.eth.endToEnd with
    | some (t3, t4, cd) => some (((w.t2 : Int) - t1) * 65536 - c + (((t4 : Int) - t3) * 65536 - cd))
    | none => none

/-- The Sync that waits yields its measurement while the engine runs; without t1 or a usable delay it yields none. -/
def syncMeasurement (s : State) : State :=
  match (if s.engineOn (s.rd ETH_SRV_CTRL.SLAVE_PORT) then s.eth.sync else none) with
  | some w =>
    match w.t1 with
    | some (t1, cf) =>
      let c := w.corr + cf
      match s.delay2 w t1 c with
      | some d2 =>
        let off := roundQ (2 * (((w.t2 : Int) - t1 - w.asym) * 65536 - c) - d2) 131072
        guardJudge off (roundQ d2 131072) (s.modEth (fun e => { e with sync := none }))
      | none => s.modEth (fun e => { e with sync := none })
    | none => s
  | none => s

/-! ### Received frames (R376, R377) -/

/-- The receive ring of port `p`: of rings 16 to 23, the first IN ring of that port that can take data. -/
def State.rxRing (s : State) (p : Nat) : Option Nat :=
  ((List.range 8).map (· + 16)).find? (fun r =>
    decide (s.rd DMA_RING_CFG.KIND r = kindIn) && s.ringOffers r && decide (s.rd DMA_RING_CFG.PORT r = (Config.ethPort p).toNat))

/-- The header in front of a received frame (R376). -/
def rxHeader (p flags stamp len : Nat) : List Nat := timeBytes stamp ++ [p, flags] ++ toBytesLE 2 len ++ [0, 0]

/-- The time at which a timestamp point passes the pins of port `p`, as the row names it (R374): between the last tick and the next, by
whose ends the time base is known, within 4 ns, and in the order of the port's frames. -/
def State.pinTime (s : State) (p pin : Nat) : Nat :=
  max (max (s.port p).lastPin (s.timeNs - 4)) (min (s.timeNs + 20014) pin)

/-- A Pdelay_Resp leaves the pins now, and its Follow_Up carries the stamp of that (R377). -/
def pdelaySend (p : Nat) (w : PdelayWait) (s : State) : State :=
  let at0 := s.pinTime p s.timeNs
  ((s.modPort p (fun r => { r with lastPin := at0 })).count ETH_P_PTP_CNT.PDELAY_ANS p).emit
    (.pdelay p w.seq w.requester w.correction 0 (at0 + s.rd ETH_P_LAT.LAT_OUT p))

/-- Answers leave one after another. -/
def pdelaySendAll (p : Nat) : List PdelayWait → State → State
  | [], s => s
  | w :: ws, s => pdelaySendAll p ws (pdelaySend p w s)

/-- The answers of port `p` whose time has come leave; all are lost where Ethernet does not work. -/
def pdelayServe (p : Nat) (s : State) : State :=
  let ws := if s.ethOn then (s.port p).answers else []
  pdelaySendAll p (ws.filter (fun w => decide (w.ticks = 0)))
    (s.modPort p (fun r => { r with answers := ws.filter (fun w => decide (w.ticks ≠ 0)) }))

/-- A tick brings the answers of every port one tick nearer. -/
def pdelayTick (s : State) : State :=
  s.upTo (fun p s =>
    if (s.port p).answers = [] then s
    else pdelayServe p (s.modPort p (fun r => { r with answers := r.answers.map (fun w => { w with ticks := w.ticks - 1 }) }))) 3

/-- The hardware answers a Pdelay_Req: its response leaves at once or at one of the next four ticks, within 100 µs (R377). -/
def pdelayAnswer (p : Nat) (m : List Nat) (stamp : Nat) (s : State) : State :=
  let w : PdelayWait := ⟨s.freeVal 3 % 5, ptpSeq m, ptpSource m, ofSigned 64 (ptpCorrection m + stamp * 65536)⟩
  pdelayServe p (s.nextFree.modPort p (fun r => { r with answers := r.answers ++ [w] }))

/-- The PTP part of a received frame: the domain's messages are counted, used and answered; messages of other domains pass
through. The FLAGS of the header come with it. -/
def receivePtp (p : Nat) (m : List Nat) (stamp : Nat) (s : State) : State × Nat :=
  if !s.flag ETH_PTP_CFG.EN || !s.flag ETH_P_CFG.PTP p || decide (ptpDomain m ≠ s.rd ETH_PTP_CFG.DOMAIN) then
    (s, if ptpType m < 4 then 1 else 2)
  else
    let s := s.when (decide (ptpType m < 4)) (fun s => s.count ETH_P_PTP_CNT.RX_EVENT p)
    if ptpType m = 2 ∧ s.flag ETH_PTP_CFG.P2P then (pdelayAnswer p m stamp s, s.ptpFlags m false)
    else
      let r := enginePtp p m stamp s
      (r.1, s.ptpFlags m r.2)

/-- A frame is received on port `p`, its timestamp point passing the pins at `pin`: stamped, used where it is a PTP message,
and written with its header to the port's receive ring, if one can take it. -/
def frameReceivedEth (p pin : Nat) (f : List Nat) (s : State) : State :=
  if !s.flag ETH_P_CFG.USED p || !s.ethOn then s
  else
    let at0 := s.pinTime p pin
    let stamp := at0 - s.rd ETH_P_LAT.LAT_IN p
    let s := s.modPort p (fun r => { r with lastPin := at0 })
    let r := match s.ptpMessage f with
      | some m => receivePtp p m stamp s
      | none => (s, 0)
    match r.1.rxRing p with
    | some q => ringDeliver q (rxHeader p r.2 stamp f.length ++ f) r.1
    | none => r.1

/-! ### The transmit timestamp queue (R378 to R380) -/

/-- The TAG of the frame that leaves: that of the descriptor whose frame it is (R378, R408); the row's own where no descriptor of the
model's is on its way. -/
def State.markTag (s : State) (p ty seq tag : Nat) : Nat :=
  match (s.port p).marks.find? (fun m => decide (m.ty = ty % 16) && decide (m.seq = seq % 65536)) with
  | some m => m.tag
  | none => tag

/-- A marked frame leaves the pins of a port that works: its entry is kept, or dropped where 8 are held. An own Delay_Req or Pdelay_Req also begins
an exchange of the engine. -/
def txTimestamp (p ty seq tag pin : Nat) (s : State) : State :=
  if !s.flag ETH_P_CFG.USED p || !s.ethOn then s
  else
  let at0 := s.pinTime p pin
  let t := at0 + s.rd ETH_P_LAT.LAT_OUT p
  let tag := s.markTag p ty seq tag
  let s := s.modPort p (fun r => { r with
    lastPin := at0, marks := r.marks.eraseP (fun m => decide (m.ty = ty % 16) && decide (m.seq = seq % 65536)) })
  let s :=
    if ty = 1 then s.when (decide (s.rd ETH_SRV_CTRL.SLAVE_PORT = p))
      (fun s => s.modEth (fun e => { e with delayReqs := (seq, t) :: e.delayReqs }))
    else if ty = 2 then s.modPort p (fun r => { r with peer := { r.peer with req := some (seq, t), resp := none } })
    else s
  if 8 ≤ (s.port p).stamps.length then (s.wrFlag ETH_P_TXTS_STAT.OVF true p).count ETH_P_TXTS_STAT.DROP p
  else s.modPort p (fun r => { r with stamps := r.stamps ++ [⟨ty % 16 * 2 ^ 24 + seq % 65536 * 256 + tag % 256, t⟩] })

/-- A read of `ETH_P_TXTS0[p]` pops the oldest entry and latches its time; on an empty queue it counts (R379). -/
def txtsPop (p : Nat) (s : State) : State :=
  match (s.port p).stamps with
  | e :: es =>
    (s.wrTime ETH_P_TXTS1.NS ETH_P_TXTS2.SEC_LO ETH_P_TXTS3.SEC_HI e.timeNs p).modPort p (fun r => { r with stamps := es })
  | [] => s.count ETH_P_TXTS_STAT.UNDERFLOW p

/-! ### The engine's registers (R382, R384) -/

/-- A write of `ETH_SRV_CTRL` (k = 0) or of `ETH_SRV_PARENT0` to `2` (k = 1 to 3): a changed slave port or parent is a master
change; switching the engine on clears VALID. -/
def srvWrite (k v : Nat) (s : State) : State :=
  let before := (s.rd ETH_SRV_CTRL.SLAVE_PORT, s.parentId)
  let was := s.flag ETH_SRV_CTRL.ENABLE
  let s :=
    if k = 0 then (s.wr ETH_SRV_CTRL.ENABLE (v / 4)).wr ETH_SRV_CTRL.SLAVE_PORT v
    else if k = 1 then s.wr ETH_SRV_PARENT0.ID v
    else if k = 2 then s.wr ETH_SRV_PARENT1.ID v
    else s.wr ETH_SRV_PARENT2.PORT v
  let s := s.when (!was && s.flag ETH_SRV_CTRL.ENABLE) (fun s => s.wrFlag ETH_SRV_OFFSET2.VALID false)
  if before = (s.rd ETH_SRV_CTRL.SLAVE_PORT, s.parentId) then s
  else (guardDiscard (guardCause gcMasterChange s)).modEth (fun e => { e with sync := none, delayReqs := [], endToEnd := none })

/-- A read of `ETH_SRV_OFFSET0` latches the two words that go with it. -/
def latchOffset (s : State) : State :=
  s.modEth (fun e => { e with latched := some (s.rd ETH_SRV_OFFSET1.OFFSET,
    s.rd ETH_SRV_OFFSET2.GEN * 65536 + b2n (s.flag ETH_SRV_OFFSET2.VALID) * 32768 + b2n (s.flag ETH_SRV_OFFSET2.REFUSED) * 16384) })

/-! ### Egress (R381) -/

/-- The limit of an egress queue in µs; queue 3 has its deadline instead. -/
def egressLimit (q : Nat) : Option Nat :=
  if q = 0 then some 20 else if q = 1 then some 1000 else if q = 2 then some 100000 else none

/-- A frame as it leaves a port that is a master (portState 6): ASYM stands in the correctionField of its Follow_Up and
Delay_Resp messages (R375). -/
def State.asymFrame (s : State) (p : Nat) (f : List Nat) : List Nat :=
  match s.ptpMessage f with
  | none => f
  | some m =>
    if s.rd ETH_P_CTRL.PORT_STATE p = 6 ∧ (ptpType m = 8 ∨ ptpType m = 9) then
      let at0 := f.length - m.length + 8
      f.take at0 ++ toBytesBE 8 (ofSigned 64 (ptpCorrection m + s.rdS ETH_P_ASYM.ASYM p * 65536)) ++ f.drop (at0 + 8)
    else f

/-- Port `p` has something to send that is served earlier (R381): a Pdelay answer of its own, which goes through queue 0, or a frame at
the head of another ring in an earlier queue. A frame behind another of its ring is not eligible yet (R407). -/
def State.egressBehind (s : State) (r p : Nat) (d : Desc) : Bool :=
  (decide (d.ctrl / 64 % 4 ≠ 0) && !(s.port p).answers.isEmpty)
    || anyUpTo (fun q => decide (q ≠ r) && (decide (s.egressPort q = some p) && (match s.inService q with
      | some e => decide (e.ctrl / 64 % 4 < d.ctrl / 64 % 4)
      | none => false))) 24

/-- The microseconds from its posting until a descriptor that is at the head of its ring became eligible (R407). -/
def State.eligibleUs (s : State) (r : Nat) (d : Desc) : Nat := 20 * ((s.ring r).doneTick - d.postedTick)

/-- The outcome of a frame that starts transmission `delay` µs after its posting (R381, R410, R413): later than its queue's limit, or
than class T's bound from its eligibility on. One that had begun keeps its own (R416). -/
def State.egressBegin (s : State) (r delay : Nat) (d : Desc) : Desc :=
  if d.started then d
  else
    let since := delay - s.eligibleUs r d
    let beyond := match egressLimit (d.ctrl / 64 % 4) with
      | some l => decide (l < delay)
      | none => false
    { d with started := true, delay := since,
             late := if beyond then some reasonEgress else lateReason 2 since false }

/-- The frame at the head of a ring is refused with LOAD: a queue-3 frame that has not started by its deadline (R381). -/
def egressRefuse (r p : Nat) (d : Desc) (s : State) : State := ringFinish r d refused reasonLoad (s.count ETH_P_EGRESS.REFUSED p)

/-- A frame whose descriptor asks for a time stamp is on its way to the pins (R378, R408). -/
def egressMark (p : Nat) (d : Desc) (f : List Nat) (s : State) : State :=
  match (if bit d.ctrl 5 then s.ptpMessage f else none) with
  | some m => s.modPort p (fun r => { r with marks := r.marks ++ [⟨ptpType m, ptpSeq m, d.tag % 256⟩] })
  | none => s

/-- The frame `d` at the head of egress ring `r` starts transmission at port `p`: its bytes are read after those of the rings that outrank
`r` (R412), judged against its queue, sent and completed. -/
def egressSend (r p delay : Nat) (d : Desc) (s : State) : State :=
  let isOver := s.overBudget r
  let d := s.egressBegin r delay d
  let v : Service := ⟨delay, false, [], [], .all⟩
  match moveBeats r d d.len v (d.len - d.done + 1) d.done (0, 0) (0, 0) (grantRivals r d isOver s) with
  | (s, m) =>
    let d := { d with done := m.pos }
    let s := meterBytes r m.out.length (s.modRing r (fun g => { g with queue := d :: g.queue.tail, held := g.held ++ m.out }))
    match m.stop with
    | some (write, f) => ringPause r (d.src + d.done) d.done write f s
    | none =>
      let f := s.asymFrame p (s.ring r).held
      let s := (egressMark p d f (s.emit (.ethFrame p f))).when (d.late = some reasonEgress) (fun s => s.count ETH_P_EGRESS.LATE p)
      descFinish r d .all (s.modRing r (fun g => { g with held := [] }))

/-- The frame at the head of egress ring `r` starts transmission `delay` µs after posting, unless a frame of an earlier queue waits at
its port, or its deadline has passed. -/
def egressComplete (r delay : Nat) (s : State) : State :=
  if s.ringState r ≠ ringRun then s
  else
    let s := ringDrain r s
    match s.egressPort r, s.inService r with
    | some p, some d =>
      if !s.ethOn || s.egressBehind r p d then s
      else if s.overdue r d then egressRefuse r p d s
      else egressSend r p delay d s
    | _, _ => s

/-- A queue-3 frame has not started by its deadline (R381): refused with LOAD. -/
def egressDeadline (r : Nat) (s : State) : State :=
  if s.ringState r ≠ ringRun then s
  else
    let s := ringDrain r s
    match s.egressPort r, (s.ring r).queue with
    | some p, d :: _ => if s.overdue r d && !d.ended then egressRefuse r p d s else s
    | _, _ => s

/-- An Ethernet link goes down (R427): the rings of its port abort their descriptors with reason LINK. -/
def ethLinkDown (p : Nat) (s : State) : State :=
  s.upTo (fun r s =>
    if s.rd DMA_RING_CFG.PORT (16 + r) = (Config.ethPort p).toNat then linkDownRing Desc.portSide (16 + r) s else s) 8

end Sys2Proof.Machine
end

