-- ==== Sys2Proof/Machine/Carrier.lean ====
section
/-!
DEFINITION. The carriers and the leg logic of the PWM unit (R308 to R310). The events of a carrier say where it stands; between
them it runs on by an open time, short of the next event.
-/
namespace Sys2Proof.Machine

/-- The record of generator `g`; the records changed. -/
def State.gen (s : State) (g : Nat) : Gen := tget s.gens g
def State.modBridge (s : State) (j : Nat) (f : BridgePwm → BridgePwm) : State := { s with bridges := tmod s.bridges j f }
def State.modLeg (s : State) (m : Nat) (f : Leg → Leg) : State := { s with legs := tmod s.legs m f }
def State.modGen (s : State) (g : Nat) (f : Gen → Gen) : State := { s with gens := tmod s.gens g f }

/-! ### The carrier of a bridge (R308) -/

/-- The generator of bridge `j`; the period in force; the mode is SAW, TRI2. -/
def State.genOf (s : State) (j : Nat) : Nat := s.rd PWM_BR_CFG0.GEN j
def State.period (s : State) (g : Nat) : Nat := s.rd PWM_GEN_PERIOD.PERIOD g
def State.isSaw (s : State) (g : Nat) : Bool := decide (s.rd PWM_GEN_CFG0.MODE g = 2)
def State.isTri2 (s : State) (g : Nat) : Bool := decide (s.rd PWM_GEN_CFG0.MODE g = 1)

/-- How far the carrier of bridge `j` has come from its valley or period start: the generator's position, shifted by PHASE. -/
def State.carPos (s : State) (j : Nat) : Nat :=
  let g := s.genOf j
  let p := s.period g
  let shift := s.rd PWM_BR_CFG0.PHASE j * p / 256
  if p = 0 then 0 else ((s.gen g).pos + (if Config.phaseLeads then shift else p - shift)) % p

/-- The bridges in use of generator `g`, upward. -/
def State.genBridges (s : State) (g : Nat) : List Nat := filterUpTo (fun j => s.bridgeUsed j && decide (s.genOf j = g)) 12

/-- From position `c` of a period of `p` to the next valley or period start, and in TRI2 to the peak (R308). -/
def toPoint (tri2 : Bool) (p c : Nat) : Nat := if tri2 ∧ c < p / 2 then p / 2 - c else p - c

/-- The free way of generator `g`: to its own period start, or to the nearest update point of a bridge. -/
def State.freeWay (s : State) (g : Nat) : Nat :=
  let p := s.period g
  (s.genBridges g).foldl (fun n j => min n (toPoint (s.isTri2 g) p (s.carPos j))) (p - (s.gen g).pos)

/-! ### The leg logic (R309, R310) -/

/-- What the leg logic of a leg goes by: the period; where on the generator's circle S falls and where it rises, on the grid; S where
the two fall together; DT, PULSE_MIN. -/
structure LegCfg where
  period : Nat
  fall : Nat
  rise : Nat
  full : Bool
  dt : Nat
  pulseMin : Nat
  deriving DecidableEq, Repr

/-- A point of bridge `j`'s carrier on its generator's circle, on the nearest point of the grid (R309): `x` is its exact place from the
valley or period start in 2^-25 of a unit of 78.125 ps. -/
def State.onGrid (s : State) (j x : Nat) : Nat :=
  let p := s.period (s.genOf j)
  let shift := s.rd PWM_BR_CFG0.PHASE j * p * 2 ^ 17
  (roundNear (if Config.phaseLeads then x + p * 2 ^ 25 - shift else x + shift : Nat) (2 ^ 25)).toNat % p

/-- The logic of leg `m` of bridge `j`: the carrier rises past the duty D·p, or D·p/2 in a triangle, and falls below it as far before the
period's end; a saw returns at the period start. -/
def State.legCfg (s : State) (j m : Nat) : LegCfg :=
  let g := s.genOf j
  let p := s.period g
  let d := (s.leg m).duty
  { period := p, fall := s.onGrid j (if s.isSaw g then 2 * (d * p) else d * p),
    rise := s.onGrid j (if s.isSaw g then 0 else p * 2 ^ 25 - d * p), full := decide (2 ^ 23 ≤ d),
    dt := s.rd PWM_BR_CFG1.DT j, pulseMin := s.rd PWM_BR_CFG1.PULSE_MIN j }

/-- From `c` on to `x` on the circle. -/
def LegCfg.way (k : LegCfg) (c x : Nat) : Nat := (x + k.period - c % k.period) % k.period

/-- The carrier lies below the duty where the generator stands at `c` (R309). -/
def LegCfg.below (k : LegCfg) (c : Nat) : Bool :=
  if k.fall = k.rise then k.full else decide (k.way k.rise c < k.way k.rise k.fall)

/-- From position `c` to the next edge of S; where S has none, a period. -/
def LegCfg.toEdge (k : LegCfg) (c : Nat) : Nat :=
  if k.fall = k.rise then k.period else if k.below c then k.way c k.fall else k.way c k.rise

/-- Leg `m` of bridge `j` would have S 1 by its duty where its carrier now stands (R309). -/
def State.legBelow (s : State) (j m : Nat) : Bool := (s.legCfg j m).below (s.gen (s.genOf j)).pos

/-- S stands for `d` more, with `rest` to its next edge: the gate comes on DT after the edge (the high side DT after the low
side last went off), unless its interval would then be shorter than PULSE_MIN, which leaves it off for the whole interval (R310). -/
def Leg.stay (r : Leg) (k : LegCfg) (d rest : Nat) : Leg :=
  let waited := if r.s then r.lowOff else r.age
  let due := !r.on && !r.dropped && decide (k.dt ≤ waited + d)
  let long := decide (k.pulseMin ≤ d + rest - (k.dt - waited))
  { r with age := r.age + d, lowOff := r.lowOff + d, on := r.on || (due && long), dropped := r.dropped || (due && !long) }

/-- S changes: the gate that was on goes off at the edge (R310). -/
def Leg.flip (r : Leg) : Leg :=
  { r with s := !r.s, age := 0, lowOff := if !r.s && r.on then 0 else r.lowOff, on := false, dropped := false }

/-- The generator runs on by `d` from position `c`: the edges that it meets, and what follows the last. -/
def Leg.run (k : LegCfg) : Nat → Nat → Nat → Leg → Leg
  | 0, _, _, r => r
  | n + 1, d, c, r =>
    let e := k.toEdge c
    if d < e ∨ k.fall = k.rise then r.stay k d (e - d)
    else Leg.run k n (d - e) ((c + e) % k.period) (r.stay k e 0).flip

/-- Leg `m` of bridge `j` while its carrier runs on by `d`: a forced state meets no edge (R317). -/
def legRun (j d m : Nat) (s : State) : State :=
  let k := s.legCfg j m
  let c := (s.gen (s.genOf j)).pos
  if s.flag PWM_LEG_STATE.FORCED m then s.modLeg m (fun r => r.stay k d k.period)
  else s.modLeg m (Leg.run k (2 * (d / k.period) + 4) d c)

/-- S of leg `m` follows where the carrier stands, or the force: after a new duty, a new period, and a force's begin or end. -/
def legEval (j m : Nat) (s : State) : State :=
  let v := if s.flag PWM_LEG_STATE.FORCED m then (s.leg m).forceS else s.legBelow j m
  s.when (decide ((s.leg m).s ≠ v)) (fun s => s.modLeg m Leg.flip)

/-- The gates of leg `m` have been off: a turn-on waits DT from now (R310). -/
def legRestart (m : Nat) (s : State) : State := s.modLeg m (fun r => { r with age := 0, lowOff := 0, on := false, dropped := false })

/-! ### The run of a generator -/

/-- The periods of a dwell of generator `g`, HOLD (R314). -/
def State.dwell (s : State) (g : Nat) : Nat := s.rd PWM_GEN_CFG1.HOLD g + 1

/-- Generator `g` dithers. -/
def State.dithers (s : State) (g : Nat) : Bool := s.flag PWM_GEN_CFG0.DITHER_EN g && decide (s.rd PWM_GEN_STATUS.N_ALLOWED g ≠ 0)

/-- How far generator `g` is from the period start at which it hops. -/
def State.toHop (s : State) (g : Nat) : Nat :=
  s.period g - (s.gen g).pos + (s.dwell g - 1 - (s.gen g).periods) * s.period g

/-- Generator `g` runs on by `d`. -/
def genRun (g d : Nat) (s : State) : State :=
  if d = 0 ∨ s.period g = 0 then s
  else
    let s := s.each (fun j s => (s.each (legRun j d) (s.bridgeLegs j)).modBridge j (fun b => { b with taken := false }))
      (s.genBridges g)
    s.modGen g (fun r => { r with pos := (r.pos + d) % s.period g, periods := r.periods + (r.pos + d) / s.period g })

/-- Generator `g` has run on by an open time, short of its next event. -/
def genOn (g : Nat) (s : State) : State :=
  if s.mdllA && decide (s.period g ≠ 0) then (genRun g (s.freeVal 32 % s.freeWay g) s).nextFree else s

/-- Every generator has. -/
def gensOn (s : State) : State := s.upTo genOn 12

/-- The legs of bridge `j` follow its carrier. -/
def bridgeEval (j : Nat) (s : State) : State := s.each (legEval j) (s.bridgeLegs j)

end Sys2Proof.Machine
end

