-- ==== Sys2Proof/Machine/Pwm.lean ====
section
/-!
DEFINITION. The PWM bridges and the power measurement (12_pwm_and_power_measurement.md).
-/
namespace Sys2Proof.Machine

/-! ### Terms -/

/-- Bridge trip causes (R326). -/
def tripDesat : Nat := 1
def tripOc : Nat := 2
def tripPersist : Nat := 3

/-- The leg of bridge `j` for phase `a`, `b` or `c` (0, 1, 2). -/
def State.phaseLeg (s : State) (j ph : Nat) : Option Nat :=
  (s.bridgeLegs j).find? (fun m => decide (s.rd PWM_LEG_CFG.PHASE m = ph))

/-- The bridge is in use and owned by the application cores (R304). -/
def State.coreOwned (s : State) (j : Nat) : Bool := s.bridgeUsed j && s.flag PWM_BR_CFG0.OWNER j

/-- A bridge that Leaven owns (R304). -/
def State.leavenOwned (s : State) (j : Nat) : Bool := s.bridgeUsed j && !s.flag PWM_BR_CFG0.OWNER j

/-! ### Dither (R313, R314) -/

/-- Units of 78.125 ps in a second. -/
def pwmGrid : Nat := 12800000000

/-- The period of candidate `i` of generator `g` on the grid, in units of 78.125 ps. -/
def State.candidatePeriod (s : State) (g i : Nat) : Nat :=
  let den := s.rd PWM_GEN_CFG0.F_CAR g * (255000 - 255 * s.rd PWM_GEN_CFG0.SPAN g + 2 * s.rd PWM_GEN_CFG0.SPAN g * i)
  if den = 0 then 0 else (roundNear (pwmGrid * 255000 : Nat) den).toNat

/-- The period of the carrier frequency itself. -/
def State.carrierPeriod (s : State) (g : Nat) : Nat :=
  if s.rd PWM_GEN_CFG0.F_CAR g = 0 then 0 else (roundNear (pwmGrid : Nat) (s.rd PWM_GEN_CFG0.F_CAR g)).toNat

/-- No harmonic of the period falls into the band widened by GUARD (R313). Band in kHz, GUARD in 0.1 kHz; no band excludes
nothing. -/
def State.periodAllowed (s : State) (g p : Nat) : Bool :=
  let guard := 100 * s.rd PWM_GEN_CFG1.GUARD g
  let lo := 1000 * s.rd HFE_BAND.F_LO - guard
  let hi := 1000 * s.rd HFE_BAND.F_HI + guard
  if p = 0 then false
  else if s.rd HFE_BAND.F_LO = 0 ∧ s.rd HFE_BAND.F_HI = 0 then true
  else
    let n := max 1 ((lo * p + pwmGrid - 1) / pwmGrid)
    decide (hi * p < n * pwmGrid)

/-- The allowed set of generator `g` as periods, in ascending order of frequency (R313). -/
def State.allowedSet (s : State) (g : Nat) : List Nat :=
  if s.flag PWM_GEN_CFG0.DITHER_EN g then
    ((List.range 256).map (s.candidatePeriod g)).filter (s.periodAllowed g)
  else [s.carrierPeriod g].filter (s.periodAllowed g)

/-- The end of Proof item 5 builds generator `g`'s allowed set; it starts at the first entry, with a period (R308, R313). -/
def buildAllowed (g : Nat) (s : State) : State :=
  let ps := s.allowedSet g
  let s := ((s.wr PWM_GEN_STATUS.N_ALLOWED ps.length g).wr PWM_GEN_STATUS.INDEX 0 g).wr PWM_GEN_PERIOD.PERIOD (ps.headD 0) g
  (s.modGen g (fun r => { r with pos := 0, periods := 0 })).each bridgeEval (s.genBridges g)

/-- A leg that the loaf does not use is off until the next reset (R304). -/
def barLeg (m : Nat) (s : State) : State := s.when (!s.legUsed m) (fun s => s.modLeg m (fun r => { r with barred := true }))

/-- Generator `g` hops at the period start that ends its dwell (R314), while the generators run; the new period applies from there. -/
def ditherHop (g : Nat) (s : State) : State :=
  if s.mdllA && s.dithers g then
    let s := genRun g (s.toHop g) s
    let v := lfsrRun 8 (s.gen g).lfsr
    let idx := v % 256 * s.rd PWM_GEN_STATUS.N_ALLOWED g / 256
    let s := s.modGen g (fun r => { r with lfsr := v, periods := 0 })
    ((s.wr PWM_GEN_STATUS.INDEX idx g).wr PWM_GEN_PERIOD.PERIOD ((s.allowedSet g).getD idx 0) g).each bridgeEval (s.genBridges g)
  else s

/-! ### Enabling a bridge -/

/-- Some bridge of generator `g` is enabled. -/
def State.genEnabled (s : State) (g : Nat) : Bool :=
  anyUpTo (fun j => s.bridgeUsed j && decide (s.rd PWM_BR_CFG0.GEN j = g) && s.flag PWM_BR_STATUS.ENABLED j) 12

/-- Bridge `j` is enabled by its owner; the first of its generator loads the seed (R314). A failed channel bars it (R306). -/
def bridgeOn (j : Nat) (s : State) : State :=
  if s.flag PWM_BR_STATUS.CH_FAIL j then s
  else
    let g := s.rd PWM_BR_CFG0.GEN j
    let s := s.when (!s.genEnabled g) (fun s => s.modGen g (fun r => { r with lfsr := s.rd PWM_GEN_CFG1.SEED g }))
    let s := s.when (!s.flag PWM_BR_STATUS.ENABLED j) (fun s => s.each legRestart (s.bridgeLegs j))
    s.wrFlag PWM_BR_STATUS.ENABLED true j

/-- Bridge `j` is disabled by its owner. -/
def bridgeOff (j : Nat) (s : State) : State := s.wrFlag PWM_BR_STATUS.ENABLED false j

/-- The application cores write ENABLE of bridge `j` (R306, R307): ignored with an access error unless they own it. -/
def bridgeEnable (j : Nat) (on : Bool) (s : State) : State :=
  if !s.coreOwned j then accessError .app .notPermitted true (PWM_BR_CTRL.ENABLE.addr j) s
  else if on then
    if s.flag PWM_BR_STATUS.CH_FAIL j then s else bridgeOn j (s.wrFlag PWM_BR_CTRL.ENABLE true j)
  else bridgeOff j (s.wrFlag PWM_BR_CTRL.ENABLE false j)

/-- The cores' write as it meets the bridge: in the clock period of a trip an enable has no effect (R321). -/
def enableWrite (j : Nat) (w : EnableWrite) (s : State) : State :=
  match w with
  | .off => bridgeEnable j false s
  | .on => bridgeEnable j true s
  | .onAsItTrips => if s.coreOwned j then s else bridgeEnable j true s

/-- Entry to Hold or Proof, or a reset, disables every core-owned bridge (R36). -/
def bridgesOff (s : State) : State :=
  s.upTo (fun j s => bridgeOff j (s.wrFlag PWM_BR_CTRL.ENABLE false j)) 12

/-! ### Trips (R316 to R321) -/

/-- Bridge `j` trips: every gate off; the first cause and leg stand until the trip is cleared (R320). -/
def tripBridge (j cause m : Nat) (s : State) : State :=
  if s.tripped j then s
  else crumbEvent SNP_CFG.EN_BRIDGE PWM_BR_STATUS.reg
    (((s.wr PWM_BR_STATUS.TRIP cause j).wr PWM_BR_STATUS.TRIP_LEG m j).count PWM_BR_STATUS.N_TRIP j)

/-- The leg of bridge `j` whose driver reports desaturation, if one does. -/
def State.dsatLeg (s : State) (j : Nat) : Option Nat :=
  (s.bridgeLegs j).find? (fun m => s.flag PWM_LEG_STATE.DSAT m)

/-- The trip of bridge `j` clears; a desaturation input that is still asserted trips it again (R320). -/
def clearTrip (j : Nat) (s : State) : State :=
  let s := ((s.wr PWM_BR_STATUS.TRIP 0 j).wr PWM_BR_STATUS.TRIP_LEG 0x3F j).each legRestart (s.bridgeLegs j)
  match s.dsatLeg j with
  | some m => tripBridge j tripDesat m s
  | none => s

/-- The application cores write CLR_TRIP of bridge `j` (R320): ignored while ENABLE is 1. -/
def clrTrip (j : Nat) (s : State) : State :=
  if !s.coreOwned j then accessError .app .notPermitted true (PWM_BR_CTRL.CLR_TRIP.addr j) s
  else if s.flag PWM_BR_CTRL.ENABLE j then s
  else clearTrip j s

/-- The filtered level of `DSAT_N[m]` changes (R316). An unused leg's input is ignored (R304). -/
def dsat (m : Nat) (asserted : Bool) (s : State) : State :=
  if !s.legUsed m then s
  else
    (s.wrFlag PWM_LEG_STATE.DSAT asserted m).when asserted (tripBridge (s.legBridge m) tripDesat m)

/-- A PULSE_END crossing forces leg `m` to state `level` (R317). -/
def forceLeg (m : Nat) (level : Bool) (s : State) : State :=
  if !s.legUsed m then s
  else
    let j := s.legBridge m
    let s := (genOn (s.genOf j) s).when (!s.flag PWM_LEG_STATE.FORCED m) (fun s => s.count PWM_LEG_STATE.N_FORCE m)
    legEval j m ((s.wrFlag PWM_LEG_STATE.FORCED true m).modLeg m (fun r => { r with forceS := level, forcedPeriod := true }))

/-- What channel `c`'s action does on a crossing, above HI or below LO (R317). -/
def crossingAction (c : Nat) (above : Bool) (s : State) : State :=
  let m := s.rd PMA_CH_WIN1.LEG c
  match s.rd PMA_CH_WIN1.ACTION c with
  | 0 => s
  | 1 =>
    if above then (s.wrFlag PMA_CH_STATUS.HI_SEEN true c).count PMA_CH_STATUS.N_HI c
    else (s.wrFlag PMA_CH_STATUS.LO_SEEN true c).count PMA_CH_STATUS.N_LO c
  | 2 => forceLeg m (!above) s
  | _ => if s.legUsed m then tripBridge (s.legBridge m) tripOc m s else s

/-- Where the comparator of channel `c` finds an input, in codes before correction and beyond full scale too (R317, R322): above HI
(`some true`), below LO (`some false`), back inside the window narrowed by HYS (`none`); else in the hysteresis, where nothing changes. -/
def State.windowLevel (s : State) (c : Nat) (x : Int) : Option (Option Bool) :=
  let t := tget s.thresholds c
  if !t.held then none
  else if t.hi < x then some (some true)
  else if x < t.lo then some (some false)
  else if t.loBack ≤ x ∧ x ≤ t.hiBack then some none
  else none

/-- The filtered comparator of channel `c` finds its input above, below, or back inside. Only a new crossing acts. -/
def windowFound (c : Nat) (level : Option Bool) (s : State) : State :=
  match level with
  | some true =>
    let new := !s.flag PMA_CH_STATUS.ABOVE c
    ((s.wrFlag PMA_CH_STATUS.ABOVE true c).wrFlag PMA_CH_STATUS.BELOW false c).when new (crossingAction c true)
  | some false =>
    let new := !s.flag PMA_CH_STATUS.BELOW c
    ((s.wrFlag PMA_CH_STATUS.ABOVE false c).wrFlag PMA_CH_STATUS.BELOW true c).when new (crossingAction c false)
  | none => (s.wrFlag PMA_CH_STATUS.ABOVE false c).wrFlag PMA_CH_STATUS.BELOW false c

/-- The filtered input of channel `c`'s comparator reaches a level (R317). -/
def windowCrossing (c : Nat) (x : Int) (s : State) : State :=
  match s.windowLevel c x with
  | some level => windowFound c level s
  | none => s

/-! ### Update points (R308, R312, R317, R318) -/

/-- Every PULSE_END channel of leg `m` has its input inside the window. -/
def State.legInside (s : State) (m : Nat) : Bool :=
  allUpTo (fun c => !(decide (s.rd PMA_CH_WIN1.ACTION c = 2) && decide (s.rd PMA_CH_WIN1.LEG c = m)
    && (s.flag PMA_CH_STATUS.ABOVE c || s.flag PMA_CH_STATUS.BELOW c))) 48

/-- The shadow duty of leg `m` comes into force (R312). -/
def transferDuty (m : Nat) (s : State) : State := s.modLeg m (fun r => { r with duty := s.rd PWM_LEG_DUTY.D m })

/-- A LOAD of bridge `j` transfers the three shadow duties together at its update point (R312). -/
def loadPoint (j : Nat) (s : State) : State :=
  let due := bit (s.bridge j).load 0
  (s.modBridge j (fun r => { r with load := r.load / 2 })).when due (fun s => s.each transferDuty (s.bridgeLegs j))

/-- A carrier period of leg `m` ends: the run of forced periods goes on or ends, and OC_N in a row trip (R318). -/
def countForced (j m : Nat) (s : State) : State :=
  if (s.leg m).forcedPeriod then
    let s := s.count PWM_LEG_STATE.OC_RUN m
    let n := s.rd PWM_BR_CFG0.OC_N j
    s.when (decide (n ≠ 0) && decide (n ≤ s.rd PWM_LEG_STATE.OC_RUN m)) (tripBridge j tripPersist m)
  else s.wr PWM_LEG_STATE.OC_RUN 0 m

/-- An update point ends the force of leg `m` whose input is back inside the window (R317). -/
def endForce (m : Nat) (s : State) : State :=
  s.when (s.flag PWM_LEG_STATE.FORCED m && s.legInside m) (fun s => s.wrFlag PWM_LEG_STATE.FORCED false m)

/-- After an update point that starts a period, a force that still holds is a force of the new period. -/
def startPeriod (m : Nat) (s : State) : State :=
  s.modLeg m (fun r => { r with forcedPeriod := s.flag PWM_LEG_STATE.FORCED m })

/-- Whether the peak, or the valley or period start, of bridge `j`'s carrier is an update point (R308). -/
def State.isUpdatePoint (s : State) (j : Nat) (peak : Bool) : Bool := !peak || s.isTri2 (s.genOf j)

/-- From where bridge `j`'s carrier stands to its next peak, or valley or period start: nothing where it stands there and that
point has not been taken yet. -/
def State.toUpdate (s : State) (j : Nat) (peak : Bool) : Nat :=
  let p := s.period (s.genOf j)
  let d := ((if peak then p / 2 else 0) + p - s.carPos j) % p
  if d = 0 ∧ (s.bridge j).taken then p else d

/-- A peak, or a valley or period start, of bridge `j`'s carrier: its generator has run on to it, over the hop that comes before it. -/
def updatePoint (j : Nat) (peak : Bool) (s : State) : State :=
  if s.mdllA && s.bridgeUsed j && s.isUpdatePoint j peak then
    let g := s.genOf j
    let s := s.when (s.dithers g && decide (s.toHop g ≤ s.toUpdate j peak)) (ditherHop g)
    let s := (genRun (s.genOf j) (s.toUpdate j peak) s).modBridge j (fun b => { b with taken := true })
    let ms := s.bridgeLegs j
    let s := s.when (!peak) (fun s => s.each (countForced j) ms)
    let s := s.when (s.coreOwned j) (loadPoint j)
    let s := bridgeEval j (s.each endForce ms)
    s.when (!peak) (fun s => s.each startPeriod ms)
  else s

/-- The application cores write LOAD of bridge `j` (R312); `late` when less than 50 ns remain to the next update point: it then takes effect
at the one after it, whatever an earlier LOAD does at the next. -/
def loadDuties (j : Nat) (late : Bool) (s : State) : State :=
  if !s.coreOwned j then accessError .app .notPermitted true (PWM_BR_CTRL.LOAD.addr j) s
  else s.modBridge j (fun r => { r with load := setBit r.load (if late then 1 else 0) true })

/-- A Leaven duty comes into force, and stands in its register (R311, R326). -/
def stepDuty (m d : Nat) (s : State) : State :=
  (s.wr PWM_LEG_DUTY.D d m).modLeg m (fun r => { r with duty := d % 2 ^ 24 })

/-- The duty of phase `ph` of bridge `j`. -/
def stepPhase (j ph d : Nat) (s : State) : State :=
  match s.phaseLeg j ph with
  | some m => stepDuty m d s
  | none => s

/-- T_UPD after the start of a control step (R311): the duties delivered for Leaven bridge `j` come into force together, and S follows
where the carrier then stands; a set that is incomplete is discarded and counted. -/
def stepUpdate (j : Nat) (duties : Option (Nat × Nat × Nat)) (s : State) : State :=
  if !(s.leavenOwned j && s.mdllA) then s
  else
    match duties with
    | some (a, b, c) => bridgeEval j (stepPhase j 2 c (stepPhase j 1 b (stepPhase j 0 a (genOn (s.genOf j) s))))
    | none => s.count PWM_BR_STATUS.LATE j

/-! ### Power measurement (R322 to R325) -/

/-- One stage of correction: gain in 2^-15, offset in codes, saturating at ±32,767 (R324). -/
def calStage (gain : Nat) (offset x : Int) : Int :=
  if Config.offsetFirst then clampInt (-32767) 32767 (roundQ ((x + offset) * gain) 32768)
  else clampInt (-32767) 32767 (roundQ (x * gain) 32768 + offset)

/-- The calibrated code of channel `c` for a raw code (R324). -/
def State.pmaCode (s : State) (c : Nat) (raw : Int) : Int :=
  calStage (s.rd PMA_CH_CAL.GAIN c) (s.rdS PMA_CH_CAL.OFFSET c)
    (calStage (s.rd PMA_CH_TRIM.GAIN c) (s.rdS PMA_CH_TRIM.OFFSET c) (clampInt (-32767) 32767 raw))

/-- The converters run: from Proof item 8 on, in every mode except Dormant, while MDLL-A is qualified (R36, R323). -/
def State.pmaRuns (s : State) : Bool := s.flag PMA_GLB_STATUS.RUN && s.mdllA

/-- One stage undone: the code before it that it takes to `x`, apart from its saturation. -/
def calUndone (gain : Nat) (offset x : Int) : Int :=
  if gain = 0 then 0
  else if Config.offsetFirst then roundQ (x * 32768) gain - offset else roundQ ((x - offset) * 32768) gain

/-- A calibrated code of channel `c` as a comparator threshold: through both stages, to the comparator's resolution of 16 codes (R322,
R324). -/
def State.threshold (s : State) (c : Nat) (x : Int) : Int :=
  16 * roundNear (calUndone (s.rd PMA_CH_TRIM.GAIN c) (s.rdS PMA_CH_TRIM.OFFSET c)
    (calUndone (s.rd PMA_CH_CAL.GAIN c) (s.rdS PMA_CH_CAL.OFFSET c) x)) 16

/-- The thresholds of channel `c` as item 8 leaves them (R324). -/
def holdThresholds (c : Nat) (s : State) : State :=
  let hi := s.rdS PMA_CH_WIN0.HI c
  let lo := s.rdS PMA_CH_WIN0.LO c
  let hys : Int := s.rd PMA_CH_WIN1.HYS c
  let t := Thresholds.mk true (s.threshold c hi) (s.threshold c lo) (s.threshold c (hi - hys)) (s.threshold c (lo + hys))
  { s with thresholds := insert s.thresholds c t }

/-- A sample of channel `c` reaches an input of a slice where a route leads it there (R91, R325). -/
def streamTo (c : Nat) (code : Int) (r : Route) (s : State) : State :=
  match r.src, r.dst with
  | .pma k, .slice i n =>
    if k.val = c then { s with crossbar := insert s.crossbar (4 * i.val + n.val) ⟨code, s.timeNs⟩ } else s
  | _, _ => s

/-- Channel `c` delivers a sample, to its register and to the crossbar with its instant (R325): a channel in use that has not failed. -/
def pmaDeliver (c : Nat) (raw : Int) (s : State) : State :=
  if s.flag PMA_CH_CFG.USED c && !s.flag PMA_CH_STATUS.FAILED c then
    let code := s.pmaCode c raw
    State.each (streamTo c code) s.routes ((s.inc PMA_CH_SAMPLE.GEN c).wrS PMA_CH_SAMPLE.CODE code c)
  else s

/-- Group `u` converts on its trigger; a trigger during a burst is counted and ignored (R323). -/
def pmaConversion (u : Nat) (overrun : Bool) (codes : List Int) (s : State) : State :=
  if !s.pmaRuns || decide (s.rd PMA_GRP_CFG.TRIG u = 3) then s
  else if overrun then s.count PMA_GLB_STATUS.OVERRUN
  else s.upTo (fun k s => pmaDeliver (8 * u + k) (codes.getD k 0) s) 8

end Sys2Proof.Machine
end

