-- ==== Sys2Proof/Machine/Gfe.lean ====
section
/-!
DEFINITION. Leaven, the grid-forming machine (11_leaven_grid_forming.md).
-/
namespace Sys2Proof.Machine

/-! ### Codes -/

def gfeOff : Nat := 0
def gfeBlackstart : Nat := 1
def gfeForming : Nat := 2
def gfeRide : Nat := 3
def gfeSyncing : Nat := 4

/-- Trip causes (R281). -/
def gfeMode : Nat := 1
def gfeHostStop : Nat := 2
def gfeHostAbort : Nat := 3
def gfeClkA : Nat := 4
def gfeSliceFault : Nat := 5
def gfeBridges : Nat := 6
def gfeFrtCurve : Nat := 7
def gfeFrtTime : Nat := 8
def gfeBsOverload : Nat := 9
def gfeBsContend : Nat := 10
def gfeFreq : Nat := 11
def gfeOvervolt : Nat := 12

/-- Transition causes (R280). -/
def gfeBsDone : Nat := 0x10
def gfeFrtEnd : Nat := 0x11
def gfeSyncDone : Nat := 0x12
def gfeSyncAbort : Nat := 0x13
def gfeGridLost : Nat := 0x14
def gfeSyncTimeout : Nat := 0x15
def gfeJoin : Nat := 0x16
def gfeFrtEnter : Nat := 0x18
def gfeStart : Nat := 0x20
def gfeStartSync : Nat := 0x21

/-- Command codes (R303). -/
def leavenStart : Nat := 1
def leavenStop : Nat := 2
def leavenAbort : Nat := 3
def leavenSync : Nat := 4
def leavenBreaker : Nat := 5

/-- `GFE_RESULT.STATUS`. -/
def gfeOk : Nat := 1
def gfeRefMode : Nat := 2
def gfeRefState : Nat := 3
def gfeRefGuard : Nat := 4
def gfeBusy : Nat := 5

/-! ### Units -/

/-- 1 pu in the resolution of R276. -/
def pu : Int := 16777216

/-- 1 pu in units of 2·10^-7 pu, the step that 0.01 pu/s makes in one control step. -/
def setPu : Int := 5000000

/-- `n` hundredths of a per unit in 2^-24 pu. -/
def centi (n : Nat) : Int := roundQ ((n : Int) * pu) 100

/-- A value in units of 2·10^-7 pu as 2^-24 pu. -/
def toPu (x : Int) : Int := roundQ (x * pu) 5000000

/-- A value in 2^-24 pu as units of 2·10^-7 pu. -/
def ofPu (x : Int) : Int := roundQ (x * setPu) 16777216

/-- Control steps in a millisecond. -/
def stepsPerMs : Nat := 50

/-- `x` moved toward `target` by at most `d`. -/
def toward (x target d : Int) : Int := x + clampInt (-d) d (target - x)

/-- A run counter: one longer where the condition holds, else 0. -/
def runOf (b : Bool) (n : Nat) : Nat := if b then n + 1 else 0

/-! ### Terms -/

/-- Leaven changed by `f`. -/
def State.modGfe (s : State) (f : Leaven → Leaven) : State := { s with leaven := f s.leaven }

/-- Nominal frequency in hertz (R271). -/
def State.fBase (s : State) : Nat := if s.flag GFE_BASE.F60 then 60 else 50

/-- The mode lets Leaven run (R280): the mode term of the PWM gates. -/
def State.leavenMode (s : State) : Bool := s.pwmMode

/-- The bridges available, upward. -/
def State.availList (s : State) : List Nat := filterUpTo s.avail 12

/-- S_base in VA (R271). -/
def State.sBase (s : State) : Nat := 1000 * (s.availList.map (fun j => s.rd GFE_BR_CFG.RATING j)).sum

/-- The latest sample of bridge `j`. -/
def bridgeOf (b : BusSample) (j : Nat) : BridgeSample := b.bridges.getD j default

/-- The DC link of bridge `j` is inside its window (R274). -/
def State.dcInside (s : State) (j : Nat) : Bool :=
  let v := (bridgeOf s.leaven.sample j).dc
  decide (s.rd GFE_DC.V_DC_MIN ≤ v) && decide (v ≤ s.rd GFE_DC.V_DC_MAX)

/-- A bridge that a start can use: Leaven's, no failed channel, the DC link in its window (R284, R306). -/
def State.startable (s : State) (j : Nat) : Bool :=
  s.gfeBridge j && !s.flag PWM_BR_STATUS.CH_FAIL j && s.dcInside j

/-- The bus is dead now: below V_DEAD on every phase (R287). -/
def State.busDead (s : State) : Bool := decide ((s.leaven.sample.vPhase : Int) < centi (s.rd GFE_BS0.V_DEAD))

/-- V_LIVE in 2^-24 pu. -/
def State.vLive (s : State) : Int := centi (s.rd GFE_BS0.V_LIVE)

/-- F_TRIP in 2^-24 pu. -/
def State.fTrip (s : State) : Int := roundQ ((s.rd GFE_LIMITS.F_TRIP : Int) * pu) 1000

/-- The bus is live now: v_b at least V_LIVE, its frequency within ±F_TRIP (R287). -/
def State.busLive (s : State) : Bool :=
  decide (s.vLive ≤ (s.leaven.sample.vb : Int)) && decide ((s.leaven.sample.fBus - pu).natAbs ≤ s.fTrip.natAbs)

/-- The grid side is live now. -/
def State.gridLive (s : State) : Bool := decide (s.vLive ≤ (s.leaven.sample.vg : Int))

/-- The loaf assigns grid-side channels (R277). -/
def State.gridChannels (s : State) : Bool :=
  anyUpTo (fun c => s.flag PMA_CH_CFG.USED c && decide (s.rd PMA_CH_CFG.FUNC c = 4)) 48

/-- Bus dead for T_DEAD, and live for T_LIVE. -/
def State.deadLong (s : State) : Bool := decide (10 * stepsPerMs * s.rd GFE_BS0.T_DEAD ≤ s.leaven.deadRun) && s.busDead
def State.liveLong (s : State) : Bool := decide (100 * stepsPerMs * s.rd GFE_BS2.T_LIVE ≤ s.leaven.liveRun) && s.busLive

/-- Grid live for T_LIVE. -/
def State.gridLong (s : State) : Bool :=
  decide (100 * stepsPerMs * s.rd GFE_BS2.T_LIVE ≤ s.leaven.gridRun) && s.gridLive

/-- Bridge `j` is current-limited in the latest step (R288): its reference exceeds the limit in magnitude. -/
def State.limited (s : State) (j : Nat) : Bool :=
  let b := bridgeOf s.leaven.sample j
  let l := centi (if s.gfe = gfeRide then s.rd GFE_LIMITS.I_LIM_FRT else s.rd GFE_LIMITS.I_LIM_CONT)
  s.avail j && s.flag PWM_BR_STATUS.ENABLED j && decide (l * l < b.refRe * b.refRe + b.refIm * b.refIm)

/-- Some bridge is current-limited. -/
def State.anyLimited (s : State) : Bool := s.availList.any s.limited

/-- V_set,eff with the voltage shift, in units of 2·10^-7 pu. -/
def State.vEff (s : State) : Int := s.leaven.vset + s.leaven.vshift

/-- Δf = f_grid − ω·f_base in 2^-24 pu (R277). -/
def State.deltaF (s : State) : Int := s.leaven.sample.fGrid - s.leaven.w

/-- Δφ = φ_grid − θ in 2^-32 turn, over −1/2 (exclusive) to +1/2 turn (R277). -/
def State.deltaPhi (s : State) : Int :=
  let d : Int := ((s.leaven.sample.phiGrid : Int) - s.leaven.theta) % 4294967296
  if d > 2147483648 then d - 4294967296 else d

/-- The angle between the measured bus phase and θ, in 2^-32 turn. -/
def State.busAngle (s : State) : Nat :=
  let d : Int := ((s.leaven.sample.phiBus : Int) - s.leaven.theta) % 4294967296
  (if d > 2147483648 then d - 4294967296 else d).natAbs

/-- The synchronisation window of R296 holds now. -/
def State.inWindow (s : State) : Bool :=
  decide (360 * s.deltaPhi.natAbs ≤ s.rd GFE_SYNC0.PHI_WIN * 4294967296)
    && decide (100 * s.fBase * s.deltaF.natAbs ≤ s.rd GFE_SYNC0.F_WIN * 16777216)
    && decide (1000 * 5000000 * ((s.leaven.sample.vg : Int) - s.leaven.sample.vb).natAbs
      ≤ s.rd GFE_SYNC0.V_WIN * (s.vEff * 16777216).toNat)

/-- The ride-through curve at `ms` since entry (R293): the voltage of the latest point whose time is at most that. -/
def State.curveAt (s : State) (ms : Nat) : Nat :=
  ((List.range 8).foldl (fun (best : Nat × Nat) i =>
    let t := s.rd GFE_FRT_PT.T i
    if t ≠ 0xFFFF ∧ t ≤ ms ∧ best.1 ≤ t then (t, s.rd GFE_FRT_PT.VMIN i) else best) (0, 0)).2

/-! ### State changes -/

/-- Leaven changes state: cause, generation, one interrupt (R280). -/
def gfeGo (st cause : Nat) (s : State) : State :=
  let s := ((s.wr GFE_STATUS.STATE st).wr GFE_STATUS.CAUSE cause).inc GFE_STATUS.GEN
  irq 5 (s.modGfe (fun l => { l with stateSteps := 0, curveRun := 0, recRun := 0, winRun := 0, gridLow := 0 }))

/-- `CLOSE_PERMIT` goes low, and a qualification starts from zero (R296). -/
def permitLow (s : State) : State := (s.wrFlag GFE_STATUS.CLOSE_PERMIT false).modGfe (fun l => { l with winRun := 0 })

/-- The PWM gates of Leaven's bridge `j` go off. -/
def gfeBridgeOff (j : Nat) (s : State) : State := s.when (s.gfeBridge j) (bridgeOff j)

/-- A trip (R282): gates off, `CLOSE_PERMIT` low, reservations discarded, the machine reset; OFF with its cause. The
bridges stay available until R274 removes them (R271). -/
def leavenTrip (cause : Nat) (s : State) : State :=
  if s.gfe = gfeOff then s
  else
    let s := s.upTo gfeBridgeOff 12
    let s := permitLow s
    let s := s.modGfe (fun l => { l with
      reservations := [], theta := 0, w := 0, wlp := 0, pe := 0, qe := 0, xi := 0, e := 0, wsync := 0, vshift := 0,
      raised := [], phase := .none, phaseSteps := 0, clampRun := 0, rff := 0, vref := [], iref := [], vint := [],
      noAuto := l.noAuto || decide (cause = gfeHostStop) || decide (cause = gfeHostAbort) })
    let s := (s.wrFlag GFE_STATUS.ILIM false).wrFlag GFE_STATUS.CLAMP false
    crumbEvent SNP_CFG.EN_LEAVEN GFE_STATUS.reg (gfeGo gfeOff cause (s.count GFE_COUNT.N_TRIP))

/-- A trip cause found between control steps: it decides at the next one. -/
def gfeRaise (cause : Nat) (s : State) : State :=
  s.when (decide (s.gfe ≠ gfeOff)) (fun s => s.modGfe (fun l => { l with raised := cause :: l.raised }))

/-- A bridge stops being available, with its reason: 1 PROT, 2 DC_LOW, 3 DC_HIGH (R274). -/
def removeBridge (j reason : Nat) (s : State) : State :=
  if s.avail j then
    let r := s.rd GFE_BRIDGES.REASON
    let s := s.wr GFE_BRIDGES.REASON (r - bits r (2 * j) 2 * 4 ^ j + reason * 4 ^ j)
    bridgeOff j (s.modGfe (fun l => { l with avail := setBit l.avail j false }))
  else s

/-- Fewer than MIN_BR bridges remain while Leaven is not OFF. -/
def State.tooFew (s : State) : Bool :=
  decide (s.gfe ≠ gfeOff) && decide (s.availList.length < s.rd GFE_BASE.MIN_BR)

/-! ### Measurements of a step -/

/-- The runs that a step's measurements lengthen or end. -/
def measureRuns (s : State) : State :=
  let dead := s.busDead
  let live := s.busLive
  let grid := s.gridLive
  let above := decide (centi (s.rd GFE_FRT0.V_HI) < (s.leaven.sample.vLine : Int))
  let low := decide ((s.leaven.sample.vb : Int) < centi (s.rd GFE_FRT0.V_ENTER))
  let curve := decide ((s.leaven.sample.vb : Int) < centi (s.curveAt (s.leaven.stateSteps / stepsPerMs)))
  let rec_ := decide (centi (s.rd GFE_FRT0.V_EXIT) ≤ (s.leaven.sample.vb : Int)) && !s.anyLimited
  let contend := decide (centi 10 < (s.leaven.sample.vb : Int)) && decide (4294967296 < 12 * s.busAngle)
  let vset := toPu (500 * (s.rd GFE_SET1.V_SET : Int))
  let settle := decide (20 * ((s.leaven.sample.vb : Int) - vset).natAbs ≤ vset.natAbs)
  let window := s.inWindow && decide (s.gfe = gfeSyncing) && decide (s.mode = .service)
  let clamped := decide (s.gfe ≠ gfeOff) && s.flag GFE_STATUS.CLAMP
  s.modGfe (fun l => { l with
    deadRun := runOf dead l.deadRun, liveRun := runOf live l.liveRun, gridRun := runOf grid l.gridRun,
    gridLow := runOf (!grid) l.gridLow, overRun := runOf above l.overRun, lowRun := runOf low l.lowRun,
    curveRun := runOf curve l.curveRun, recRun := runOf rec_ l.recRun, contendRun := runOf contend l.contendRun,
    settleRun := runOf settle l.settleRun, winRun := runOf window l.winRun, clampRun := runOf clamped l.clampRun,
    noAutoSync := l.noAutoSync && grid, stateSteps := l.stateSteps + 1, phaseSteps := l.phaseSteps + 1,
    since := l.since + 1, kick := l.kick + 1 })

/-- The current limit and the DC window of bridge `j` in this step. -/
def measureBridge (j : Nat) (s : State) : State :=
  let lim := s.limited j
  let out := !s.dcInside j
  s.modGfe (fun l => { l with
    limRun := insert l.limRun j (runOf lim (tget l.limRun j)), limTotal := insert l.limTotal j (tget l.limTotal j + b2n lim),
    dcOut := insert l.dcOut j (runOf out (tget l.dcOut j)) })

/-- The latest code of the channel in use that measures `func` of phase `ph`; a failed channel delivers none (R277, R325). -/
def State.phaseCode (s : State) (func ph : Nat) : Option Int :=
  ((List.range 48).find? (fun c => s.flag PMA_CH_CFG.USED c && decide (s.rd PMA_CH_CFG.FUNC c = func)
    && decide (s.rd PMA_CH_CFG.PHASE c = ph))).bind (fun c =>
      if s.flag PMA_CH_STATUS.FAILED c then none else some (s.rdS PMA_CH_SAMPLE.CODE c))

/-- The three phase voltages of the bus or of the grid side, by their function of R326. -/
def State.voltageCodes (s : State) (func : Nat) : List (Option Int) := (List.range 3).map (s.phaseCode func)

/-- The current of phase `ph` of bridge `j` that its leg's channel measures (R305). -/
def State.legCode (s : State) (j ph : Nat) : Option Int :=
  (s.phaseLeg j ph).bind (fun m =>
    let c := s.rd PWM_LEG_CFG.CHANNEL m
    if c < 48 ∧ s.flag PMA_CH_STATUS.FAILED c = false then some (s.rdS PMA_CH_SAMPLE.CODE c) else none)

/-- The third of three currents that sum to zero, where it is not measured (R305). -/
def thirdCurrent (own other last : Option Int) : Option Int :=
  match own, other, last with
  | none, some x, some y => some (-(x + y))
  | _, _, _ => own

/-- The three phase currents of bridge `j`. -/
def State.currentCodes (s : State) (j : Nat) : List (Option Int) :=
  (List.range 3).map (fun ph => thirdCurrent (s.legCode j ph) (s.legCode j ((ph + 1) % 3)) (s.legCode j ((ph + 2) % 3)))

/-- The code of bridge `j`'s DC link, by the bridge masks of the channels (R305). -/
def State.linkCode (s : State) (j : Nat) : Option Int :=
  ((List.range 48).find? (fun c => s.flag PMA_CH_CFG.USED c && decide (s.rd PMA_CH_CFG.FUNC c = 2)
    && bit (s.rd PMA_CH_CFG.BR_MASK c) j)).bind (fun c =>
      if s.flag PMA_CH_STATUS.FAILED c then none else some (s.rdS PMA_CH_SAMPLE.CODE c))

/-- The control steps of one nominal period, and of half of one (R277). -/
def State.periodSteps (s : State) : Nat := 50000 / s.fBase
def State.halfSteps (s : State) : Nat := 25000 / s.fBase

/-- What a step has of bridge `j`, with the current reference that its voltage loop asks for. -/
def State.bridgeNow (s : State) (refs : List (Int × Int)) (j : Nat) : BridgeSample :=
  let v := s.rd GFE_BASE.V_BASE
  let i := Config.currentVector v (s.rd GFE_BR_CFG.RATING j) (s.currentCodes j)
  let r := refs.getD j (0, 0)
  { dc := Config.linkVolts v (s.linkCode j), iRe := i.1, iIm := i.2, refRe := r.1, refIm := r.2 }

/-- The instantaneous powers of the summed bridge currents at the bus, in watts and vars: of each of Leaven's bridges the voltage
times its current, and its lagging part (R272, R275). -/
def State.powersNow (s : State) (v : Int × Int) (bs : List BridgeSample) : Int × Int :=
  let sum := fun (f : BridgeSample → Int) =>
    roundQ (((filterUpTo s.gfeBridge 12).map (fun j => 1000 * (s.rd GFE_BR_CFG.RATING j : Int) * f (bs.getD j default))).sum) 281474976710656
  (sum (fun b => v.1 * b.iRe + v.2 * b.iIm), sum (fun b => v.2 * b.iRe - v.1 * b.iIm))

/-- What a step makes of the channels that the loaf assigns (R277): magnitudes over half a nominal period, frequency and phase over a
whole one. -/
def State.sampleNow (s : State) (refs : List (Int × Int)) : BusSample :=
  let v := s.rd GFE_BASE.V_BASE
  let f := s.flag GFE_BASE.F60
  let bus := s.leaven.busWin
  let grid := s.leaven.gridWin
  let half := bus.take s.halfSteps
  let bs := (List.range 12).map (s.bridgeNow refs)
  let pq := s.powersNow (Config.busVector v (s.voltageCodes 3)) bs
  { vb := Config.seqMagnitude v f half, vg := Config.seqMagnitude v f (grid.take s.halfSteps),
    vPhase := Config.phaseMagnitude v f half, vLine := Config.lineMagnitude v f half,
    fBus := Config.seqFrequency v f bus, fGrid := Config.seqFrequency v f grid,
    phiBus := Config.seqPhase v f bus, phiGrid := Config.seqPhase v f grid, p := pq.1, q := pq.2, bridges := bs }

/-- The codes at a step's start enter the windows of a nominal period. -/
def sampleWindows (s : State) : State :=
  s.modGfe (fun l => { l with busWin := (s.voltageCodes 3 :: l.busWin).take s.periodSteps,
                              gridWin := (s.voltageCodes 4 :: l.gridWin).take s.periodSteps })

/-- The measurements at a step's start come in, and every run follows them (R277). -/
def measure (refs : List (Int × Int)) (s : State) : State :=
  let s := sampleWindows s
  let s := s.modGfe (fun l => { l with sample := s.sampleNow refs })
  let s := measureRuns s
  let s := s.upTo measureBridge 12
  s.wrFlag GFE_STATUS.ILIM s.anyLimited

/-- T_SUP passes without a kick (R286). -/
def supLost (s : State) : State := s.wrFlag GFE_STATUS.SUP_LOST true

/-- T_SUP is counted in control steps. -/
def superviseStep (s : State) : State := s.when (decide (stepsPerMs * s.rd GFE_SUP.T_SUP ≤ s.leaven.kick)) supLost

/-- A write of KICK (R286). -/
def gfeKick (s : State) : State := (s.wrFlag GFE_STATUS.SUP_LOST false).modGfe (fun l => { l with kick := 0 })

/-! ### Set-points and feed-forward (R279, R300) -/

/-- The written set-points toward which the ramps go; a lost supervision with SUP_ACTION takes P and Q to 0. -/
def State.targetP (s : State) : Int :=
  if s.flag GFE_STATUS.SUP_LOST && s.flag GFE_BASE.SUP_ACTION then 0 else 500 * s.rdS GFE_SET0.P_SET
def State.targetQ (s : State) : Int :=
  if s.flag GFE_STATUS.SUP_LOST && s.flag GFE_BASE.SUP_ACTION then 0 else 500 * s.rdS GFE_SET0.Q_SET
def State.targetV (s : State) : Int := 500 * (s.rd GFE_SET1.V_SET : Int)

/-- The set-points move toward their written values at P_RAMP; RIDETHROUGH freezes them, and a black start holds P and Q at 0. -/
def rampSet (s : State) : State :=
  let d : Int := s.rd GFE_MACH3.P_RAMP
  if s.gfe = gfeForming ∨ s.gfe = gfeSyncing then
    s.modGfe (fun l => { l with
      pset := toward l.pset s.targetP d, qset := toward l.qset s.targetQ d, vset := toward l.vset s.targetV d })
  else s

/-- The reservations that have not expired; their sum, clipped to ±FF_LIM, in units of 2·10^-7 pu (R300). -/
def State.ffTarget (s : State) : Int :=
  let lim : Int := 50000 * (s.rd GFE_FF_CFG0.FF_LIM : Int)
  clampInt (-lim) lim ((s.leaven.reservations.map (fun r => 500 * r.2)).sum)

/-- The reservations whose time has passed end. -/
def expireReservations (s : State) : State :=
  s.modGfe (fun l => { l with reservations := l.reservations.filter (fun r => decide (s.timeNs < r.1)) })

/-- R_ff moves toward its target at FF_RATE in FORMING, and is 0 in every other state (R300, R301); the report follows it. -/
def rampFf (s : State) : State :=
  let s := expireReservations s
  let r : Int :=
    if s.gfe = gfeForming then toward s.leaven.rff s.ffTarget (s.rd GFE_FF_CFG1.FF_RATE) else 0
  let s := s.modGfe (fun l => { l with rff := r })
  (s.wrS GFE_FF_STATUS.R_FF (roundQ r 500)).wrS GFE_FF_STATUS.SOC_BIAS
    (roundQ (10 * (s.rd GFE_FF_CFG1.SOC_GAIN : Int) * r) 5000000)

/-- P_set,eff in 2^-24 pu: the ramped set-point within the headroom of R300. -/
def State.psetEff (s : State) : Int :=
  let lim : Int := 50000 * (s.rd GFE_LIMITS.P_LIM_SET : Int)
  let hi := if s.leaven.rff > 0 then lim - s.leaven.rff else lim
  let lo := if s.leaven.rff < 0 then -(lim + s.leaven.rff) else -lim
  toPu (if s.gfe = gfeBlackstart then 0 else clampInt lo hi s.leaven.pset)

/-! ### Synchronisation (R295, R297) -/

/-- Δf in units of 2·10^-7 Hz. -/
def State.deltaFUnits (s : State) : Int := roundQ (s.deltaF * (s.fBase : Int) * setPu) 16777216

/-- The phase term: toward Δφ = 0, and no more than SLEW allows (R295). How large it is within that is open. -/
def State.phaseTerm (s : State) : Int :=
  let lim : Nat := s.rd GFE_SYNC0.SLEW * 5000000 / 3600
  let v : Int := ((Config.freeValue s.free % (lim + 1) : Nat) : Int)
  if s.deltaPhi = 0 then 0 else if s.deltaPhi > 0 then v else -v

/-- ω_sync and the voltage shift in SYNCING, and their return outside it. -/
def syncStep (s : State) : State :=
  let d : Int := s.rd GFE_SYNC1.F_RAMP
  let l := s.leaven
  if s.gfe = gfeSyncing then
    let close := decide (2 * 100 * s.fBase * s.deltaF.natAbs ≤ s.rd GFE_SYNC0.F_WIN * 16777216)
    let target := l.wsync + s.deltaFUnits + (if close then s.phaseTerm else 0)
    let vt := clampInt (-500000) 500000 (ofPu l.sample.vg - s.targetV)
    (s.modGfe (fun l => { l with wsync := toward l.wsync target d, vshift := toward l.vshift vt 1 })).nextFree
  else if s.gfe = gfeForming then
    s.modGfe (fun l => { l with wsync := toward l.wsync 0 d, vshift := toward l.vshift 0 1 })
  else s

/-! ### The machine (R275) -/

/-- 1 + ω_sync − ω in 2^-24 pu. -/
def State.slip (s : State) : Int :=
  pu + roundQ (s.leaven.wsync * pu) (5000000 * s.fBase) - s.leaven.w

/-- P_m in 2^-24 pu. -/
def State.pMech (s : State) : Int :=
  if s.rd GFE_MACH0.M_P = 0 then s.psetEff + s.leaven.xi
  else s.psetEff + roundQ (s.slip * 10000) (s.rd GFE_MACH0.M_P)

/-- The power error, clipped in RIDETHROUGH. -/
def State.powerError (s : State) : Int :=
  let dp := s.pMech - s.leaven.pe - roundQ ((s.rd GFE_MACH1.D : Int) * (s.leaven.w - s.leaven.wlp)) 10
  let c := centi (s.rd GFE_FRT0.FRT_DP)
  if s.gfe = gfeRide then clampInt (-c) c dp else dp

/-- A power in watts or vars as 2^-24 of S_base. -/
def State.perUnitPower (s : State) (x : Int) : Int := if s.sBase = 0 then 0 else roundQ (x * pu) s.sBase

/-- A value as Leaven holds it, in 32 bits (R276); one that does not fit is open. -/
def State.held32 (s : State) (k : Nat) (x : Int) : Int :=
  if x = clipSigned 32 x then x else toSigned 32 (Config.freeValue (s.free + k) % 2 ^ 32)

/-- A quotient whose divisor may be 0 in a state that no loaf gives. -/
def safeQ (num : Int) (den : Nat) : Int := if den = 0 then 0 else roundQ num den

/-- E in the black start's ramp: step `k` of `n` (R287). -/
def State.rampE (s : State) : Int :=
  let n := 10 * stepsPerMs * s.rd GFE_BS1.T_RAMP
  let v := toPu s.targetV
  if s.leaven.phase = .ramp then safeQ (v * (min s.leaven.phaseSteps n : Nat)) n else v

/-- θ after one step, and whether the phase-a EMF crossed zero upward in it. -/
def State.nextTheta (s : State) : Nat × Bool :=
  let d := (roundQ (256 * (s.fBase : Int) * s.leaven.w) 50000).toNat
  let from_ := (s.leaven.theta + 4294967296 - Config.phaseZero % 4294967296) % 4294967296
  ((s.leaven.theta + d) % 4294967296, decide (4294967296 ≤ from_ + d))

/-- The virtual reactance in force, in 0.001 pu times the steps of T_FRT_REC (R292). -/
def State.xvNow (s : State) : Int :=
  let x : Int := s.rd GFE_VIMP.X_V
  let xf : Int := s.rd GFE_VIMP.X_VFRT
  let n := stepsPerMs * s.rd GFE_FRT1.T_FRT_REC
  if s.gfe = gfeRide then xf
  else if s.leaven.since < n then x + safeQ ((xf - x) * ((n : Int) - s.leaven.since)) n
  else x

/-- v_ref of bridge `j`: E at θ, less the voltage over the virtual impedance (R275). -/
def State.vrefOf (s : State) (j : Nat) : Int × Int :=
  let b := bridgeOf s.leaven.sample j
  let a : Int := s.leaven.theta / 256
  let r : Int := s.rd GFE_VIMP.R_V
  let x := s.xvNow
  (roundQ (s.leaven.e * Config.cosTurn a) 16777216 - roundQ (r * b.iRe - x * b.iIm) 1000,
   roundQ (s.leaven.e * Config.sinTurn a) 16777216 - roundQ (r * b.iIm + x * b.iRe) 1000)

/-- The current reference of bridge `j` after the limit of R288: scaled, with its angle kept. -/
def State.irefOf (s : State) (j : Nat) : Int × Int :=
  let b := bridgeOf s.leaven.sample j
  let l := centi (if s.gfe = gfeRide then s.rd GFE_LIMITS.I_LIM_FRT else s.rd GFE_LIMITS.I_LIM_CONT)
  if s.limited j then
    let m := isqrt (b.refRe * b.refRe + b.refIm * b.refIm).toNat + 1
    (roundQ (b.refRe * l) m, roundQ (b.refIm * l) m)
  else (b.refRe, b.refIm)

/-- The voltage loop's integrators of bridge `j` after a step (R288): held while its limit acts; else where its loop, whose law the
manual does not give, takes them. -/
def State.vintOf (s : State) (j : Nat) : Int × Int :=
  if s.limited j then s.leaven.vint.getD j (0, 0)
  else (toSigned 32 (Config.freeValue (s.free + 10 + 2 * j) % 2 ^ 32), toSigned 32 (Config.freeValue (s.free + 11 + 2 * j) % 2 ^ 32))

/-- The gates conduct in the machine's sense: every state but OFF, and a black start from its step 3 on. -/
def State.machineRuns (s : State) : Bool :=
  decide (s.gfe ≠ gfeOff) && !(decide (s.gfe = gfeBlackstart) && (match s.leaven.phase with
    | .ramp => false | .settle => false | .none => true | .backoff => true | .recheck => true | .join => true | .joined => true))

/-- One evaluation of the machine's equations on state `s`: on the right stands the value that every stored quantity had in `old`, where
the previous step left it, the ramped set-points, ω_sync, and the references' E and θ among them (R275). -/
def machineStep (old s : State) : State :=
  if !s.machineRuns then s
  else
    let l := old.leaven
    let pe := s.held32 1 (l.pe + safeQ (old.perUnitPower l.sample.p - l.pe) (5 * s.rd GFE_MACH2.T_P))
    let qe := s.held32 2 (l.qe + safeQ (old.perUnitPower l.sample.q - l.qe) (5 * s.rd GFE_MACH2.T_Q))
    let ilim := centi (s.rd GFE_LIMITS.I_LIM_CONT)
    let xi := if s.rd GFE_MACH0.M_P = 0 then
        clampInt (-ilim) ilim (l.xi + safeQ old.slip (50000 * s.rd GFE_MACH3.T_ISO)) else l.xi
    let wlp := s.held32 3 (l.wlp + safeQ (l.w - l.wlp) (50 * s.rd GFE_MACH2.T_D))
    let raw := l.w + safeQ old.powerError (1000 * s.rd GFE_MACH0.H)
    let w := clampInt (pu - s.fTrip) (pu + s.fTrip) raw
    let (theta, cross) := old.nextTheta
    let qs := toPu (if s.gfe = gfeBlackstart then 0 else l.qset)
    let e := s.held32 4 (if s.gfe = gfeBlackstart then s.rampE
      else toPu old.vEff + roundQ ((s.rd GFE_MACH1.N_Q : Int) * (qs - l.qe)) 10000)
    let refs := fun (f : Nat → Int × Int) => (List.range 12).map (fun j => if s.avail j then f j else (0, 0))
    let clamp := decide (w = pu - s.fTrip) || decide (w = pu + s.fTrip)
    let s := (s.wrFlag GFE_STATUS.CLAMP clamp).modGfe (fun l => { l with
      pe := pe, qe := qe, xi := xi, wlp := wlp, w := w, theta := theta, e := e,
      vref := refs old.vrefOf, iref := refs old.irefOf, vint := refs s.vintOf,
      zeroNs := if cross then s.timeNs + Config.freeValue s.free % 20000 else l.zeroNs })
    { s with free := s.free + 40 }

/-! ### Starting (R287, R289, R290) -/

/-- A starting sequence begins: bridges available anew, their trips cleared (R271, R320). -/
def beginStart (s : State) : State :=
  let m := mapOf12 (fun j => s.gfeBridge j && !s.flag PWM_BR_STATUS.CH_FAIL j)
  let s := s.upTo (fun j s => s.when (s.gfeBridge j) (clearTrip j)) 12
  let s := s.wr GFE_BRIDGES.REASON 0
  let dead := s.deadLong
  let k := Config.freeValue s.free % (s.rd GFE_BS1.BACKOFF_MAX + 1)
  let s := s.modGfe (fun l => { l with
    avail := m, phase := if dead then .backoff else .join, phaseSteps := 0, backoff := 1000 * k, limTotal := [], limRun := [],
    raised := [], settleRun := 0, contendRun := 0, pset := 0, qset := 0, vset := s.targetV, vshift := 0, wsync := 0, since := 4294967296 })
  gfeGo gfeBlackstart gfeStart s.nextFree
where
  /-- The mask of a predicate over twelve bridges. -/
  mapOf12 (p : Nat → Bool) : Nat := mapWord p 0 12

/-- The guards of START (R284): the first that fails, as status and reason. -/
def State.startRefusal (s : State) : Option (Nat × Nat) :=
  if !s.leavenMode then some (gfeRefMode, 0)
  else if s.gfe ≠ gfeOff then some (gfeRefState, 0)
  else if countUpTo s.startable 12 < s.rd GFE_BASE.MIN_BR then some (gfeRefGuard, 1)
  else if !s.deadLong && !s.liveLong then some (gfeRefGuard, 2)
  else none

/-- Automatic starts within the last 600 s (R290). -/
def State.autosNow (s : State) : List Nat := s.leaven.autoTicks.filter (fun t => decide (s.ticks < t + 30000000))

/-- AUTO_BS (R290): a start by itself; a fourth within 600 s waits for the cores. -/
def autoStart (s : State) : State :=
  if s.flag GFE_BASE.AUTO_BS && (decide (s.mode = .service) || decide (s.mode = .recovery)) && !s.leaven.noAuto
      && s.startRefusal.isNone then
    if 3 ≤ s.autosNow.length then s.modGfe (fun l => { l with noAuto := true })
    else beginStart (s.modGfe (fun l => { l with autoTicks := s.ticks :: s.autosNow }))
  else s

/-- Step 3 of a black start (R287): the gates of the available bridges that have not tripped (R321) are enabled, and the machine starts at rest. -/
def startRamp (s : State) : State :=
  let s := s.each bridgeOn (s.availList.filter (fun j => !s.tripped j))
  s.modGfe (fun l => { l with
    phase := .ramp, phaseSteps := 0, e := 0, theta := 0, w := pu, wlp := pu, pe := 0, qe := 0, xi := 0, contendRun := 0 })

/-- The bus leaves a back-off for the join of R289. -/
def startJoin (s : State) : State := s.modGfe (fun l => { l with phase := .join, phaseSteps := 0 })

/-- A step of the recheck (R287): a live bus is joined at once, and what fails trips; else, `isOver` after its 20 ms, the bus has been
dead throughout, and the ramp starts. -/
def judgeRecheck (isOver : Bool) (s : State) : State :=
  if countUpTo (fun j => s.avail j && s.dcInside j) 12 < s.rd GFE_BASE.MIN_BR then gfeRaise gfeBridges s
  else if s.busLive then startJoin s
  else if !s.busDead then gfeRaise gfeBsContend s
  else s.when isOver startRamp

/-- The 100 ms of a join end (R289): the machine takes the bus's phase, frequency and magnitude. -/
def takeBus (s : State) : State :=
  s.modGfe (fun l => { l with
    theta := l.sample.phiBus % 4294967296, w := s.held32 0 l.sample.fBus, wlp := s.held32 0 l.sample.fBus,
    e := s.held32 1 l.sample.vb, pe := 0, qe := 0,
    xi := 0, pset := 0, qset := 0, vset := ofPu l.sample.vb, phase := .joined, phaseSteps := 0 })

/-- The control step after that: gates on, FORMING (R289). -/
def endJoin (s : State) : State :=
  let s := s.each bridgeOn (s.availList.filter (fun j => !s.tripped j))
  gfeGo gfeForming gfeJoin (s.modGfe (fun l => { l with phase := .none, since := 4294967296 }))

/-- The black start completes (R287). -/
def endBlackstart (s : State) : State :=
  gfeGo gfeForming gfeBsDone (s.modGfe (fun l => { l with phase := .none, vset := s.targetV, since := 4294967296 }))

/-- The ramp ends (R287). -/
def endRamp (s : State) : State := s.modGfe (fun l => { l with phase := .settle, phaseSteps := 0, settleRun := 0 })

/-- The trip causes of a black start from step 3 on (R287). -/
def State.bsTrips (s : State) : List Nat :=
  let l := s.leaven
  let lim := 10 * stepsPerMs * s.rd GFE_BS1.T_BS_ILIM
  (if anyUpTo (fun j => decide (lim ≤ tget l.limTotal j) && decide (lim ≠ 0)) 12
      ∨ (l.phase = .settle ∧ 1000 * stepsPerMs ≤ l.phaseSteps) then [gfeBsOverload] else [])
    ++ (if 2 * stepsPerMs ≤ l.contendRun then [gfeBsContend] else [])

/-- One control step of BLACKSTART; trips are raised, to be decided at the step's end. -/
def blackstartStep (s : State) : State :=
  let l := s.leaven
  match l.phase with
  | .backoff =>
    if l.backoff ≤ l.phaseSteps then s.modGfe (fun l => { l with phase := .recheck, phaseSteps := 0 }) else s
  | .recheck => judgeRecheck (decide (20 * stepsPerMs ≤ l.phaseSteps)) s
  | .ramp =>
    let s := s.each gfeRaise s.bsTrips
    if 10 * stepsPerMs * s.rd GFE_BS1.T_RAMP ≤ l.phaseSteps then endRamp s else s
  | .settle =>
    if 100 * stepsPerMs ≤ l.settleRun then endBlackstart s else s.each gfeRaise s.bsTrips
  | .join =>
    if !s.busLive then gfeRaise gfeBsContend s
    else if 100 * stepsPerMs ≤ l.phaseSteps then takeBus s else s
  | .joined => endJoin s
  | .none => s

/-! ### Ride-through (R292, R293) and synchronisation -/

/-- Entry to RIDETHROUGH: `CLOSE_PERMIT` low, a synchronisation abandoned. -/
def enterRide (s : State) : State :=
  gfeGo gfeRide gfeFrtEnter ((permitLow s).modGfe (fun l => { l with wsync := 0, rff := 0 }))

/-- The entry condition of R292. -/
def State.rideEntry (s : State) : Bool :=
  decide (2 ≤ s.leaven.lowRun) || s.availList.any (fun j => decide (stepsPerMs ≤ tget s.leaven.limRun j))

/-- The return from RIDETHROUGH. -/
def endRide (s : State) : State := gfeGo gfeForming gfeFrtEnd (s.modGfe (fun l => { l with since := 0 }))

/-- Entry to SYNCING. -/
def startSync (s : State) : State := gfeGo gfeSyncing gfeStartSync s

/-- An exit from SYNCING to FORMING. -/
def endSync (cause : Nat) (s : State) : State :=
  let s := permitLow s
  gfeGo gfeForming cause (s.modGfe (fun l => { l with noAutoSync := decide (cause = gfeSyncDone) }))

/-- FORMING in one control step: ride-through first, then an automatic synchronisation (R295). -/
def formingStep (s : State) : State :=
  if s.rideEntry then enterRide s
  else if s.flag GFE_BASE.AUTO_SYNC && decide (s.mode = .service) && s.gridChannels && s.gridLong && !s.leaven.noAutoSync then
    startSync s
  else s

/-- RIDETHROUGH in one control step. -/
def rideStep (s : State) : State :=
  let s := s.when (decide (2 ≤ s.leaven.curveRun)) (gfeRaise gfeFrtCurve)
  let s := s.when (decide (stepsPerMs * s.rd GFE_FRT1.T_FRT_MAX ≤ s.leaven.stateSteps)) (gfeRaise gfeFrtTime)
  if s.leaven.raised.isEmpty && decide (stepsPerMs * s.rd GFE_FRT1.T_FRT_REC ≤ s.leaven.recRun) then endRide s else s

/-- `CLOSE_PERMIT` follows the window (R296). -/
def permitStep (s : State) : State :=
  if s.leaven.winRun = 0 then permitLow s
  else s.when (decide (stepsPerMs * s.rd GFE_SYNC1.T_QUAL ≤ s.leaven.winRun)) (fun s => s.wrFlag GFE_STATUS.CLOSE_PERMIT true)

/-- SYNCING in one control step. -/
def syncingStep (s : State) : State :=
  if s.rideEntry then enterRide s
  else if 100 * stepsPerMs ≤ s.leaven.gridLow then endSync gfeGridLost s
  else if 1000 * stepsPerMs * s.rd GFE_SYNC1.T_SYNC_MAX ≤ s.leaven.stateSteps then endSync gfeSyncTimeout s
  else permitStep s

/-- The state's own part of a control step. -/
def stateStep (s : State) : State :=
  match s.gfe with
  | 0 => autoStart s
  | 1 => blackstartStep s
  | 2 => formingStep s
  | 3 => rideStep s
  | 4 => syncingStep s
  | _ => s

/-! ### Commands (R283 to R285) -/

/-- An outcome of a command. -/
def gfeResult (op status reason ack : Nat) (s : State) : State :=
  ((((s.wr GFE_RESULT.OP op).wr GFE_RESULT.STATUS status).wr GFE_RESULT.REASON reason).wr GFE_RESULT.ABORT_ACK ack).outcome
    GFE_RESULT.GEN GFE_RESULT.VALID

/-- A command is submitted (R283): refused with BUSY while another is pending, which stands: an outcome of the refused command, while
VALID stays 0. -/
def gfeSubmit (op : Nat) (s : State) : State :=
  match s.leaven.command with
  | some _ => (gfeResult op gfeBusy 0 0 s).wrFlag GFE_RESULT.VALID false
  | none => (s.wrFlag GFE_RESULT.VALID false).modGfe (fun l => { l with command := some op })

/-- The refusal of a command by R284. -/
def State.gfeRefusal (s : State) (op : Nat) : Option (Nat × Nat) :=
  match op with
  | 1 => s.startRefusal
  | 2 => if s.gfe = gfeOff then some (gfeRefState, 0) else none
  | 3 => if s.gfe = gfeBlackstart ∨ s.gfe = gfeSyncing then none else some (gfeRefState, 0)
  | 4 =>
    if s.mode ≠ .service then some (gfeRefMode, 0)
    else if s.gfe ≠ gfeForming then some (gfeRefState, 0)
    else if s.gridChannels && s.gridLong then none else some (gfeRefGuard, 3)
  | 5 => if s.gfe = gfeSyncing then none else some (gfeRefState, 0)
  | _ => some (gfeRefState, 0)

/-- What an accepted command other than ABORT does. -/
def gfeDo (op : Nat) (s : State) : State :=
  match op with
  | 1 => beginStart (s.modGfe (fun l => { l with noAuto := false }))
  | 2 => gfeRaise gfeHostStop s
  | 4 => startSync s
  | 5 => endSync gfeSyncDone s
  | _ => s

/-- An accepted ABORT in its control step (R285): the completion of a black start in this step wins; an end of SYNCING that is no
completion does not, and a ride-through abandons the synchronisation itself (R292). -/
def gfeAbort (s : State) : State :=
  if s.gfe = gfeBlackstart then
    let s := stateStep s
    if s.gfe = gfeForming then gfeResult leavenAbort gfeOk 0 2 s else gfeResult leavenAbort gfeOk 0 1 (gfeRaise gfeHostAbort s)
  else gfeResult leavenAbort gfeOk 0 1 (if s.rideEntry then enterRide s else endSync gfeSyncAbort s)

/-- The pending command is evaluated at the control step boundary, with the step's own work after it; a start's first step is the
next one. -/
def commandStep (s : State) : State :=
  match s.leaven.command with
  | none => stateStep s
  | some op =>
    let s := s.modGfe (fun l => { l with command := none })
    match s.gfeRefusal op with
    | some (st, r) => gfeResult op st r 0 (stateStep s)
    | none =>
      if op = leavenAbort then gfeAbort s
      else gfeResult op gfeOk 0 0 (if op = leavenStart then gfeDo op s else stateStep (gfeDo op s))

/-! ### Feed-forward (R298, R300) -/

/-- The reservation that expires first. -/
def firstToExpire : List (Nat × Int) → Option (Nat × Int)
  | [] => none
  | r :: rs => match firstToExpire rs with
    | some q => some (if q.1 < r.1 then q else r)
    | none => some r

/-- One more reservation; a 17th replaces the one that expires first. -/
def addReservation (r : Nat × Int) (rs : List (Nat × Int)) : List (Nat × Int) :=
  match firstToExpire rs with
  | some q => if 16 ≤ rs.length then rs.erase q ++ [r] else rs ++ [r]
  | none => [r]

/-- A wheel-event copy is accepted (R298). -/
def State.ffAccepts (s : State) (entered conf timeNs : Nat) : Bool :=
  decide (s.gfe = gfeForming) && decide (s.rd GFE_FF_CFG1.FF_CONF_MIN ≤ conf)
    && decide (s.timeNs ≤ timeNs + 1000000 * s.rd GFE_FF_CFG0.FF_AGE)
    && decide (entered < 64) && decide (s.rd GFE_FF_AMP.A entered ≠ 0)

/-- A copy arrives: a reservation, or counted and discarded. -/
def ffCopy (entered conf timeNs : Nat) (s : State) : State :=
  if s.ffAccepts entered conf timeNs then
    let r := (timeNs + 100000000 * s.rd GFE_FF_CFG0.FF_HOLD, s.rdS GFE_FF_AMP.A entered)
    (s.modGfe (fun l => { l with reservations := addReservation r l.reservations })).count GFE_FF_CNT.USED
  else s.count GFE_FF_CNT.IGNORED

/-- What Leaven reads of a copy: section entered, confidence and event time by its layout (R7, R154, R298). -/
def copyFields (bs : List Nat) : Nat × Nat × Nat := (bs.getD 0x1E 0xFF, bs.getD 0xF 0, bytesTime bs)

/-- Leaven takes the oldest copy that waits in its ring, where it holds these fields. -/
def takeCopy (entered conf timeNs : Nat) (s : State) : State :=
  match s.leaven.copies with
  | [] => s
  | bs :: rest => s.when (copyFields bs = (entered, conf, timeNs)) (fun s =>
    ffCopy entered conf timeNs (s.modGfe (fun l => { l with copies := rest })))

/-- A copy as it stands in its ring is read. -/
def readCopy (bs : List Nat) (s : State) : State := ffCopy (copyFields bs).1 (copyFields bs).2.1 (copyFields bs).2.2 s

/-- A control step reads every copy that has arrived (R298). -/
def takeCopies (s : State) : State := (s.modGfe (fun l => { l with copies := [] })).each readCopy s.leaven.copies

/-- The reservation that expires first ends (R300). -/
def ffExpiry (s : State) : State :=
  match firstToExpire s.leaven.reservations with
  | some q => s.modGfe (fun l => { l with reservations := l.reservations.erase q })
  | none => s

/-! ### The control step -/

/-- Bridges that a protection trip or their DC link takes out at the step's end (R274); the side on which the link then is gives
the reason. -/
def removeStep (j : Nat) (s : State) : State :=
  if !s.avail j then s
  else if s.tripped j then removeBridge j 1 s
  else if stepsPerMs ≤ tget s.leaven.dcOut j then
    removeBridge j (if (bridgeOf s.leaven.sample j).dc < s.rd GFE_DC.V_DC_MIN then 2 else 3) s
  else s

/-- The causes that hold in every state but OFF. -/
def State.commonTrips (s : State) : List Nat :=
  (if s.leavenMode then [] else [gfeMode]) ++ (if s.tooFew then [gfeBridges] else [])
    ++ (if 200 * stepsPerMs ≤ s.leaven.clampRun then [gfeFreq] else [])
    ++ (if 10 * stepsPerMs ≤ s.leaven.overRun then [gfeOvervolt] else [])

/-- The lowest of the raised causes. -/
def lowest : List Nat → Option Nat
  | [] => none
  | c :: cs => match lowest cs with
    | some d => some (min c d)
    | none => some c

/-- The trip of a step, if one is decided: the lowest code (R280, R282). -/
def decideTrip (s : State) : State :=
  match lowest s.leaven.raised with
  | some c => leavenTrip c s
  | none => s

/-- A Leaven control step (R275), while MDLL-A runs. -/
def controlStep (refs : List (Int × Int)) (s : State) : State :=
  if !s.mdllA then s
  else
    let s := takeCopies (superviseStep (measure refs s))
    let s := commandStep s
    let s := machineStep s (syncStep (rampFf (rampSet s)))
    let s := s.upTo removeStep 12
    decideTrip (s.each gfeRaise s.commonTrips)

/-! ### Single events -/

/-- The back-off and its recheck are over (R287). -/
def backoffEnd (s : State) : State :=
  if s.gfe = gfeBlackstart ∧ (s.leaven.phase = .backoff ∨ s.leaven.phase = .recheck) then decideTrip (judgeRecheck true s) else s

/-- The voltage ramp is over (R287). -/
def rampEnd (s : State) : State := if s.gfe = gfeBlackstart ∧ s.leaven.phase = .ramp then endRamp s else s

/-- A black start has been limited for T_BS_ILIM, or misses step 5 (R287). -/
def bsOverload (s : State) : State :=
  if s.gfe = gfeBlackstart ∧ (s.leaven.phase = .ramp ∨ s.leaven.phase = .settle) then leavenTrip gfeBsOverload s else s

/-- The 100 ms estimation of a join is over (R289). -/
def joinEnd (s : State) : State :=
  if s.gfe = gfeBlackstart ∧ s.leaven.phase = .join then
    if s.busLive then endJoin (takeBus s) else leavenTrip gfeBsContend s
  else s

/-- The voltage has recovered for T_FRT_REC (R292). -/
def frtEnd (s : State) : State := if s.gfe = gfeRide then endRide s else s

/-- T_FRT_MAX has passed in RIDETHROUGH (R293). -/
def frtTime (s : State) : State := if s.gfe = gfeRide then leavenTrip gfeFrtTime s else s

/-- ω has sat at its clamp for 200 ms (R276). -/
def freqTrip (s : State) : State := if s.flag GFE_STATUS.CLAMP then leavenTrip gfeFreq s else s

/-- A phase-to-phase voltage above V_HI for 10 ms (R277). -/
def overvolt (s : State) : State := leavenTrip gfeOvervolt s

/-- The DC link of bridge `j` has been outside its window for 1 ms (R274). -/
def dcTimeout (j : Nat) (high : Bool) (s : State) : State :=
  let s := removeBridge j (if high then 3 else 2) s
  s.when s.tooFew (leavenTrip gfeBridges)

/-- AUTO_SYNC (R295). -/
def autoSync (s : State) : State :=
  if s.gfe = gfeForming ∧ s.flag GFE_BASE.AUTO_SYNC ∧ s.mode = .service ∧ s.gridChannels ∧ !s.leaven.noAutoSync then startSync s
  else s

/-- v_g has been below V_LIVE for 100 ms in SYNCING (R280). -/
def syncGridLost (s : State) : State := if s.gfe = gfeSyncing then endSync gfeGridLost s else s

/-- T_SYNC_MAX has passed in SYNCING (R280). -/
def syncTimeout (s : State) : State := if s.gfe = gfeSyncing then endSync gfeSyncTimeout s else s

/-- The window has held for T_QUAL (R296). -/
def closePermit (s : State) : State :=
  if s.gfe = gfeSyncing ∧ s.mode = .service ∧ s.inWindow then s.wrFlag GFE_STATUS.CLOSE_PERMIT true else s

/-- MDLL-A's loss, or a change to a mode in which Leaven may not run (R281, R282). -/
def gfeModeLeft (s : State) : State :=
  if !s.leavenMode then leavenTrip gfeMode s
  else if s.gfe = gfeSyncing ∧ s.mode ≠ .service then endSync gfeSyncTimeout s
  else s

/-! ### Set-points (R279) -/

/-- A power set-point clipped to its range and, for P, to ±P_LIM_SET. -/
def State.clipP (s : State) (x : Int) : Int :=
  let lim : Int := min 12000 (100 * s.rd GFE_LIMITS.P_LIM_SET)
  clampInt (-lim) lim x

/-- A write of `GFE_SET0`. -/
def writeSet0 (v : Nat) (s : State) : State :=
  let q := toSigned 16 (bits v 16 16)
  let p := toSigned 16 (bits v 0 16)
  let q' := clampInt (-12000) 12000 q
  let p' := s.clipP p
  ((s.wrS GFE_SET0.Q_SET q').wrS GFE_SET0.P_SET p').when (decide (q ≠ q') || decide (p ≠ p'))
    (fun s => s.wrFlag GFE_SET1.SET_CLIP true)

/-- A write of `GFE_SET1`: bit 31 clears SET_CLIP before the set-point is judged. -/
def writeSet1 (v : Nat) (s : State) : State :=
  let x : Int := bits v 0 16
  let x' := clampInt 9000 11000 x
  let s := s.when (bit v 31) (fun s => s.wrFlag GFE_SET1.SET_CLIP false)
  (s.wr GFE_SET1.V_SET x'.toNat).when (decide (x ≠ x')) (fun s => s.wrFlag GFE_SET1.SET_CLIP true)

/-! ### Reports (R302) -/

/-- A value that a report's field cannot hold is open. -/
def State.fitU (s : State) (w k : Nat) (x : Int) : Nat :=
  if 0 ≤ x ∧ x < (2 ^ w : Nat) then x.toNat else Config.freeValue (s.free + k) % 2 ^ w
def State.fitS (s : State) (w k : Nat) (x : Int) : Nat :=
  if x = clipSigned w x then ofSigned w x else Config.freeValue (s.free + k) % 2 ^ w

/-- Leaven's measurements are latched at a cycle boundary. -/
def measLatch (s : State) : State :=
  let l := s.leaven
  let t10 := fun (x : Int) => roundQ (x * 10000) 16777216
  let s1 := (s.inc GFE_MEAS0.GEN).wr GFE_MEAS0.F_OWN (s.fitU 16 0 (roundQ (l.w * 1000 * (s.fBase : Int)) 16777216))
  let s1 := (s1.wr GFE_MEAS1.VB (s.fitU 16 1 (t10 l.sample.vb))).wr GFE_MEAS1.VG (s.fitU 16 2 (t10 l.sample.vg))
  let s1 := (s1.wr GFE_MEAS2.QE (s.fitS 16 3 (t10 l.qe))).wr GFE_MEAS2.PE (s.fitS 16 4 (t10 l.pe))
  let s1 := (s1.wr GFE_MEAS3.DPHI (s.fitS 16 5 (roundQ (s.deltaPhi * 36000) 4294967296))).wr GFE_MEAS3.DF
    (s.fitS 16 6 (roundQ (s.deltaF * 1000 * (s.fBase : Int)) 16777216))
  let s1 := s1.wrTime GFE_PHASE_T0.NS GFE_PHASE_T1.SEC_LO GFE_PHASE_T2.SEC_HI l.zeroNs
  { s1 with free := s1.free + 7 }

end Sys2Proof.Machine
end

