-- ==== Sys2Proof/Machine/Slot.lean ====
section
/-!
DEFINITION. The flash and its loaf slots (03_loaves_slices_and_crust.md): layout and slot header.
-/
namespace Sys2Proof.Machine

/-! ### Layout (R76) -/

/-- First flash offset of loaf slot `i`. -/
def slotBase (i : Nat) : Nat := 0x400000 + 0x600000 * i

/-- Bytes of a slot, of an erase sector and of a program page. -/
def slotSize : Nat := 0x600000
def sectorSize : Nat := 0x10000
def pageSize : Nat := 0x100

/-- The device address of a flash offset (R393). -/
def flashAddr (off : Nat) : Nat := 0x40000000 + off

/-- First flash offset of the ledger region, and the size of the flash. -/
def ledgerBase : Nat := 0x1C00000
def flashSize : Nat := 0x2000000

/-- `n` bytes of the flash at an offset. -/
def State.flashBytes (s : State) (off n : Nat) : List Nat := s.memBytes (flashAddr off) n

/-- The little-endian number of `n` bytes of the flash. -/
def State.flashLE (s : State) (off n : Nat) : Nat := s.memLE (flashAddr off) n

/-! ### The slot header (R77, R78) -/

/-- A header field of slot `i`. -/
def State.hdr (s : State) (i off n : Nat) : Nat := s.flashLE (slotBase i + off) n

/-- Offset, length and check value of a part: 0 safety, 1 control, 2 free. -/
def State.partOff (s : State) (i p : Nat) : Nat := s.hdr i (0x18 + 0xC * p) 4
def State.partLen (s : State) (i p : Nat) : Nat := s.hdr i (0x1C + 0xC * p) 4
def State.partCrc (s : State) (i p : Nat) : Nat := s.hdr i (0x20 + 0xC * p) 4

/-- Offset and length of a part keep R78: aligned, in range, inside the slot, clear of the header. -/
def State.partOk (s : State) (i p lo hi : Nat) : Bool :=
  let off := s.partOff i p
  let len := s.partLen i p
  decide (off % 256 = 0) && decide (len % 4 = 0) && decide (lo ≤ len) && decide (len ≤ hi)
    && (if len = 0 then decide (off ≤ slotSize) else decide (0x80 ≤ off) && decide (off + len ≤ slotSize))

/-- Two parts of non-zero length do not overlap. -/
def State.partsApart (s : State) (i p q : Nat) : Bool :=
  decide (s.partLen i p = 0) || decide (s.partLen i q = 0)
    || decide (s.partOff i p + s.partLen i p ≤ s.partOff i q) || decide (s.partOff i q + s.partLen i q ≤ s.partOff i p)

/-- `SYS_ID` as a number. -/
def sysIdPart : Nat := 0x0D96
def sysIdStep : Nat := 0x0A01

/-- The slot header is valid (R78). -/
def State.headerValid (s : State) (i : Nat) : Bool :=
  decide (s.hdr i 0 4 = 0x46414F4C) && decide (s.hdr i 4 2 = 1) && decide (s.hdr i 6 2 = 0x80)
    && decide (s.hdr i 0x16 2 = sysIdPart) && decide (s.hdr i 0x14 2 ≤ sysIdStep)
    && s.partOk i 0 64 0x100000 && s.partOk i 1 0 0x200000 && s.partOk i 2 0 slotSize
    && s.partsApart i 0 1 && s.partsApart i 0 2 && s.partsApart i 1 2
    && decide (crc32c (s.flashBytes (slotBase i) 0x7C) = s.hdr i 0x7C 4)

/-- The bytes of a part. -/
def State.partBytes (s : State) (i p : Nat) : List Nat := s.flashBytes (slotBase i + s.partOff i p) (s.partLen i p)

/-- A part's check value is right. -/
def State.partGood (s : State) (i p : Nat) : Bool := crc32c (s.partBytes i p) = s.partCrc i p

/-! ### The operations (R87) -/

/-- The operation codes of R87. -/
def opErase : Nat := 1
def opProgram : Nat := 2
def opCheck : Nat := 3
def opEraseSlot : Nat := 4

end Sys2Proof.Machine
end

