-- ==== Sys2Proof/Machine/Chk.lean ====
section
/-!
DEFINITION. The check unit (10_check_unit.md): scans of bank S (0) and bank A (1).
-/
namespace Sys2Proof.Machine

/-- The record of a bank changed. -/
def State.modScan (s : State) (b : Nat) (f : Scan → Scan) : State := { s with scans := tmod s.scans b f }

/-- The status codes of `CHK_x_RESULT`. -/
def chkOk : Nat := 1
def chkRefused : Nat := 3
def chkAborted : Nat := 5
def chkReadError : Nat := 7

/-- The range lies wholly inside one memory that the bank may read (R258, R261). -/
def chkRangeOk (b a n : Nat) : Bool :=
  match memKindAt a with
  | none => false
  | some k => decide (a + n ≤ k.base + k.size) && decide (n ≤ 268435456) && (decide (b = 1) || decide (k ≠ .dram))

/-- A completion: outcome, TAG, delay, and one interrupt (R265). -/
def chkCommit (b status ack tag susp : Nat) (delayed : Bool) (s : State) : State :=
  let s := s.outcome CHK_x_RESULT.GEN CHK_x_RESULT.VALID b
  let s := ((s.wr CHK_x_RESULT.STATUS status b).wr CHK_x_RESULT.ABORT_ACK ack b).wrFlag CHK_x_RESULT.DELAYED delayed b
  let s := (s.wr CHK_x_TAG.TAG tag b).wr CHK_x_TAG.SUSP_US (sat 8 susp) b
  (s.modScan b (fun c => { c with resultRead := false })).emit (.coreIrq 6 b)

/-! ### Bytes entering (R264, R265, R269) -/

/-- The nine bytes of the known answer (R256). -/
def katBytes : List Nat := [0x31, 0x32, 0x33, 0x34, 0x35, 0x36, 0x37, 0x38, 0x39]

/-- The bytes of a scan from offset `lo` up to `hi`. -/
def State.scanBytes (s : State) (c : Scan) (lo hi : Nat) : List Nat :=
  if c.kind = .kat then slice katBytes lo (hi - lo) else s.memBytes (c.addr + lo) (hi - lo)

/-- The scan of a bank enters its bytes up to offset `n`: RUN is the running value, DONE counts them. -/
def enterBytes (b n : Nat) (s : State) : State :=
  let c := s.scan b
  let n := max c.live n
  let s := s.wr CHK_x_RUN.RUN (crcRun (s.rd CHK_x_RUN.RUN b) (s.scanBytes c c.live n)) b
  (s.wr CHK_x_DONE.DONE n b).modScan b (fun c => { c with live := n })

/-- A scan stands still: MDLL-A is gated, or the scan reads DRAM in self-refresh (R397). -/
def State.scanStands (s : State) (b : Nat) : Bool :=
  !s.mdllA || (touchesDram (s.scan b).addr (s.scan b).len && !s.mdllB)

/-- A scan in progress goes on by an open number of beats of 8 bytes (R265). -/
def scanOn (b : Nat) (s : State) : State :=
  let c := s.scan b
  if c.running && !c.suspended && !s.scanStands b then
    (enterBytes b (c.live + 8 * (s.freeVal 32 % ((c.len - c.live) / 8 + 1))) s).nextFree
  else s

/-- Bank A waits for bank S after its current beat (R264). -/
def suspendA (s : State) : State :=
  (scanOn 1 s).modScan 1 (fun c => if c.running then { c with suspended := true, wasSuspended := true } else c)

/-- Bank S is idle again: a suspended scan of bank A resumes (R264). -/
def chkResume (b : Nat) (s : State) : State :=
  if b = 0 ∧ (s.scan 1).suspended then s.modScan 1 (fun c => { c with suspended := false }) else s

/-! ### Beginning and ending (R258, R264, R265) -/

/-- A scan begins: bank A waits where bank S runs, bank S makes bank A wait (R264). -/
def scanBegin (b : Nat) (kind : ScanKind) (addr len tag : Nat) (queue : List ScanRange) (s : State) : State :=
  let waits := decide (b = 1) && (s.scan 0).running
  let s := s.wrFlag CHK_x_RESULT.VALID false b
  let s := s.modScan b (fun c =>
    { c with running := true, suspended := waits, kind := kind, addr := addr, len := len, tag := tag, live := 0,
             wasSuspended := waits, queue := queue })
  s.when (decide (b = 0)) suspendA

/-- The next scan of a slot check or a rank 2 requester begins; its TAG is open. -/
def seqNext (b : Nat) (s : State) : State :=
  match (s.scan b).queue with
  | [] => chkResume b s
  | r :: rest => (scanBegin b r.kind r.addr r.len (s.freeVal 16) rest (s.wr CHK_x_RUN.RUN 0xFFFFFFFF b)).nextFree

/-- A scan ends with `n` bytes entered: check value, running value, count and outcome in one clock period (R265). What the same
requester has still to scan follows. -/
def chkEnd (b status ack susp n : Nat) (s : State) : State :=
  let c := s.scan b
  let s := enterBytes b n s
  let s := (s.wr CHK_x_CRC.CRC (crcFinal (s.rd CHK_x_RUN.RUN b)) b).modScan b (fun c => { c with running := false, suspended := false })
  seqNext b (chkCommit b status ack c.tag (if c.wasSuspended then susp else 0) c.wasSuspended s)

/-- The offset of the first beat of a scan, from the one under way on, that cannot be read. -/
def foundBeat (f : MemFound) (c : Scan) : Option Nat :=
  let offs := (f.damaged.filter (fun a => decide (c.addr ≤ a.toNat) && decide (a.toNat < c.addr + c.len))).map
    (fun a => max c.live ((a.toNat - c.addr) / 8 * 8))
  match offs with
  | [] => none
  | o :: os => some (os.foldl min o)

/-- A scan comes to its end: with all bytes, or at a beat that cannot be read (R268). -/
def scanEnd (b susp : Nat) (f : MemFound) (s : State) : State :=
  let c := s.scan b
  match (if c.kind = .kat then none else foundBeat f c) with
  | none => chkEnd b chkOk 0 susp c.len (corrections f logReqCheck c.addr c.len s)
  | some n =>
    let s := s.when (decide (c.kind = .header)) (fun s => s.modScan b (fun c => { c with queue := [] }))
    let s := corrections f logReqCheck c.addr n s
    let s := (chkEnd b chkReadError 0 susp n s).wr CHK_ERR_ADDR.ADDR (c.addr + n)
    uncorrectable (c.addr + n) logReqCheck 0xFF s

/-! ### A sequence of scans: the slot check in bank A, rank 2 requesters in bank S (R87, R258) -/

/-- A sequence of scans takes its bank. A scan of the pair in bank S ends there without a result. -/
def seqStart (b : Nat) (rs : List ScanRange) (s : State) : State :=
  seqNext b (s.modScan b (fun c => { c with running := false, suspended := false, queue := rs }))

/-- The scan under way is one of a sequence. -/
def State.seqRuns (s : State) (b : Nat) : Bool := (s.scan b).running && decide ((s.scan b).kind ≠ .plain)

/-- One scan of a sequence comes to its end, at once if bank S lets it. -/
def seqStep (b : Nat) (f : MemFound) (s : State) : State :=
  if s.seqRuns b && !(s.scan b).suspended then (scanEnd b (s.freeVal 8) f s).nextFree else s

/-- Up to `n` scans of a sequence come to their end. -/
def seqFinish (b : Nat) (f : MemFound) : Nat → State → State
  | 0, s => s
  | n + 1, s => seqFinish b f n (seqStep b f s)

/-- A sequence is stopped: its scan ends with a status, and nothing follows. -/
def seqStop (b status ack : Nat) (s : State) : State :=
  if s.seqRuns b then
    (chkEnd b status ack (s.freeVal 8) (s.scan b).live (s.modScan b (fun c => { c with queue := [] }))).nextFree
  else s

/-- What a bank has done when a register of the unit is read: its scan has gone on, and a sequence may have come to its next scan,
though not to one's end that another report decides: the known answer's, or a slot check's last (R265). -/
def bankGoesOn (b : Nat) (s : State) : State :=
  let s := scanOn b s
  let c := s.scan b
  if s.seqRuns b && !c.suspended && !s.scanStands b && decide (c.kind ≠ .kat) && !c.queue.isEmpty then
    s.nextFree.when (decide (s.freeVal 1 = 1)) (seqStep b .clean)
  else s

/-- Both banks go on. -/
def scansGoOn (s : State) : State := bankGoesOn 1 (bankGoesOn 0 s)

/-- The ranges that the check of slot `i` scans: the header, and the three parts that a valid header names. -/
def State.slotRanges (s : State) (i parts : Nat) : List ScanRange :=
  ⟨.header, flashAddr (slotBase i), 0x7C⟩
    :: (if s.headerValid i then
      (List.range parts).map (fun p => ⟨.part p, flashAddr (slotBase i + s.partOff i p), s.partLen i p⟩) else [])

/-- The boot images in the flash: two, whose places in the boot region are open (R76). -/
def State.bootRanges (s : State) : List ScanRange :=
  let a := s.freeVal 64 % 0x400000
  let b := s.freeVal 64 / 0x400000 % 0x400000
  [⟨.boot, flashAddr a, s.freeVal 96 / 2 ^ 64 % (0x400001 - a)⟩, ⟨.boot, flashAddr b, s.freeVal 128 / 2 ^ 96 % (0x400001 - b)⟩]

/-- A slot check takes bank A for its scans. -/
def fabTake (i : Nat) (s : State) : State := seqStart 1 (s.slotRanges i 3) s

/-- A slot check that found bank A in use takes it as soon as it is free. -/
def fabWaits (s : State) : State :=
  s.when (s.flash.running && decide (s.flash.op = opCheck) && !s.flash.scanning && !(s.scan 1).running) (fun s =>
    fabTake s.flash.dst { s with flash := { s.flash with scanning := true } })

/-! ### GO, completion, abort (R261 to R268) -/

/-- A GO that is refused ends with no byte entered (R261, R265). -/
def chkRefuse (b tag : Nat) (s : State) : State :=
  chkCommit b chkRefused 0 tag 0 false ((s.wr CHK_x_CRC.CRC (crcFinal (s.rd CHK_x_RUN.RUN b)) b).wr CHK_x_DONE.DONE 0 b)

/-- A scan of no bytes is over at once, and waits for nothing (R261). -/
def chkEmpty (b tag : Nat) (s : State) : State :=
  chkCommit b chkOk 0 tag 0 false ((s.wr CHK_x_CRC.CRC (crcFinal (s.rd CHK_x_RUN.RUN b)) b).wr CHK_x_DONE.DONE 0 b)

/-- A GO write to a bank (R261, R262, R264). -/
def chkGo (b tag start : Nat) (s : State) : State :=
  let a := s.rd CHK_x_ADDR.ADDR b
  let n := s.rd CHK_x_LEN.LEN b
  if s.scanBusy b then s.count CHK_x_TAG.N_BUSY b
  else if !chkRangeOk b a n ∨ 2 ≤ start then chkRefuse b tag s
  else
    let s := s.when (start = 0) (fun s => s.wr CHK_x_RUN.RUN 0xFFFFFFFF b)
    if n = 0 then chkEmpty b tag s else scanBegin b .plain a n tag [] s

/-- A scan completes (R265, R268), with the words that it could not read and those it corrected. `susp` is how long bank A was
suspended, in µs. A slot check's scans, and those of a rank 2 requester, complete with their operation. -/
def chkComplete (b susp : Nat) (f : MemFound) (s : State) : State :=
  let c := s.scan b
  if !c.running || c.suspended || decide (c.kind ≠ .plain) || s.scanStands b then s
  else fabWaits (scanEnd b susp f s)

/-- An ABORT write (R267) with `n` bytes entered: a running scan stops, and a suspended one with what it had entered; a completion
that has not been read wins; else it is ignored. A slot check's scan stops too, and the check scans its range again (DESIGN CHOICE,
log 47): only an abort of the flash operation ends the check (R89). -/
def chkAbort (b n susp : Nat) (s : State) : State :=
  let c := s.scan b
  if c.running && decide (c.kind = .plain) then
    fabWaits (chkEnd b chkAborted 1 susp (if c.suspended then c.live else max c.live (min n c.len)) s)
  else if c.running then
    s.when (decide (b = 1)) (fun s =>
      chkEnd b chkAborted 1 susp (if c.suspended then c.live else max c.live (min n c.len))
        (s.modScan b (fun c => { c with queue := ⟨c.kind, c.addr, c.len⟩ :: c.queue })))
  else if s.flag CHK_x_RESULT.VALID b ∧ !c.resultRead then s.wr CHK_x_RESULT.ABORT_ACK 2 b
  else s

/-! ### Rank 2 (R258, R269): Proof items 4 and 5, and the image check of a rejoin -/

/-- Item 4 scans the known answer, the boot images, and of the selected slot the header, the safety part and the control part. -/
def itemFourScans (slot : Nat) (s : State) : State :=
  seqStart 0 (⟨.kat, 0, 9⟩ :: (s.bootRanges ++ s.slotRanges slot 2)) s.nextFree

/-- Item 5 scans the safety part from offset 0x02 on for the seal word (R81). -/
def itemFiveScans (slot : Nat) (s : State) : State :=
  seqStart 0 [⟨.part 0, flashAddr (slotBase slot + s.partOff slot 0 + 2), s.partLen slot 0 - 2⟩] s

/-- A rejoin scans the Scarab image; which of the memories that bank S may read holds it, and where, is open. -/
def imageScan (s : State) : State :=
  let a := s.freeVal 64 % 0x400000
  let n := s.freeVal 96 / 2 ^ 64 % (0x400001 - a)
  seqStart 0 [⟨.image, if bit (s.freeVal 128) 127 then 0x20000000 + a else flashAddr a, n⟩] s.nextFree

/-- The known answer comes out wrong: that scan ends with another running value, and nothing else is scanned (R269). -/
def katWrong (s : State) : State :=
  if (s.scan 0).kind = .kat then
    let s := chkEnd 0 chkOk 0 0 9 (s.modScan 0 (fun c => { c with queue := [] }))
    let x := s.freeVal 32
    let run := if x = crcRun 0xFFFFFFFF katBytes then 0 else x
    ((s.wr CHK_x_RUN.RUN run 0).wr CHK_x_CRC.CRC (crcFinal run) 0).nextFree
  else seqStop 0 chkAborted 1 s

/-- Something that a sequence has still to scan, and that meets `p`, cannot be read. -/
def State.seqMeets (s : State) (b : Nat) (f : MemFound) (p : ScanKind → Bool) : Bool :=
  let c := s.scan b
  s.seqRuns b && (⟨c.kind, c.addr, c.len⟩ :: c.queue).any (fun r => p r.kind && f.meets r.addr r.len)

/-- The kind of a part of a slot. -/
def ScanKind.isPart : ScanKind → Bool
  | .part _ => true
  | .plain => false | .kat => false | .boot => false | .header => false | .image => false

/-- The scans of a rank 2 requester come to their end. -/
def bankSEnd (f : MemFound) (s : State) : State := seqFinish 0 f 6 s

/-- A rank 2 requester is stopped: the status its scan ends with is open. -/
def bankSStop (s : State) : State := seqStop 0 (s.freeVal 4) 0 s.nextFree

end Sys2Proof.Machine
end

