-- ==== Sys2Proof/Machine/Flash.lean ====
section
/-!
DEFINITION. The operations on the flash (03_loaves_slices_and_crust.md): erase, program, check.
-/
namespace Sys2Proof.Machine

/-! ### Operations (R87 to R89) -/

/-- STATUS codes of `FAB_FLASH_RESULT`. -/
inductive FlashStatus where
  | ok | refusedMode | refusedRange | busy | aborted | verifyFail
  deriving DecidableEq, Repr

/-- The code of a flash status. -/
def FlashStatus.code : FlashStatus → Nat
  | .ok => 1 | .refusedMode => 2 | .refusedRange => 3 | .busy => 4 | .aborted => 5 | .verifyFail => 6

/-- The unit of an operation on a range. -/
def flashUnit (op : Nat) : Nat := if op = opErase then sectorSize else pageSize

/-- The slot whose first page a program range touches is not ready for its header: some other sector of it has not been
programmed or erased since the header sector was erased (R88). -/
def State.headerEarly (s : State) (i dst len : Nat) : Bool :=
  decide (dst < slotBase i + pageSize) && decide (slotBase i < dst + len)
    && decide ((lookup s.flash.touched i).getD 0 ≠ 2 ^ 96 - 1)

/-- The range of an erase or a program is refused (R87, R88). -/
def State.rangeRefused (s : State) (op src dst len : Nat) (unlock : Bool) : Bool :=
  decide (ledgerBase < dst + len) || (decide (dst < slotBase 0) && decide (0 < len) && !unlock)
    || decide (dst % flashUnit op ≠ 0) || decide (len % flashUnit op ≠ 0)
    || (decide (op = opProgram) && (anyUpTo (fun i => s.headerEarly i dst len) 4
          || (match memKindAt src with
              | none => true
              | some k => decide (k.base + k.size < src + len))))

/-- What a start of an operation finds wrong, if anything. Which of REFUSED_MODE and BUSY a start gets that comes outside Commission
while an operation still runs is the model's choice (log 42). -/
def State.flashRefusal (s : State) (op src dst len : Nat) (unlock : Bool) : Option FlashStatus :=
  if s.mode ≠ .commission then some .refusedMode
  else if s.flash.running then some .busy
  else if op = opCheck ∨ op = opEraseSlot then (if 4 ≤ dst then some .refusedRange else none)
  else if s.rangeRefused op src dst len unlock then some .refusedRange
  else none

/-- The outcome of an operation or of a refused start: STATUS, GEN and VALID. While an operation runs a refusal shows in STATUS
alone, for VALID is 0. What ABORT_ACK shows beside a refused start is the model's choice (log 42): it stays. -/
def flashResult (st : FlashStatus) (s : State) : State :=
  let s := s.wr FAB_FLASH_RESULT.STATUS st.code
  if s.flash.running then s else s.outcome FAB_FLASH_RESULT.GEN FAB_FLASH_RESULT.VALID

/-- A write of `FAB_FLASH_CTRL` with GO: the operation starts, or is refused (R87). -/
def flashStart (op : Nat) (unlock : Bool) (s : State) : State :=
  let s := s.wrFlag FAB_FLASH_CTRL.BOOT_UNLOCK unlock
  let src := s.rd FAB_FLASH_SRC.VALUE
  let dst := s.rd FAB_FLASH_DST.VALUE
  let len := s.rd FAB_FLASH_LEN.VALUE
  match s.flashRefusal op src dst len unlock with
  | some st => flashResult st s
  | none =>
    let s := s.wrFlag FAB_FLASH_RESULT.VALID false
    let s := s.when (op = opCheck) (fun s => s.wrFlag FAB_SLOT_STATUS.VALID false dst)
    fabWaits
      { s with pair := { s.pair with barred := true }
               flash := { s.flash with running := true, op := op, src := src, dst := dst, len := len, abortAsked := false,
                                       doneCycle := none, scanning := false, abortLate := false } }

/-- An abort is asked for: by FAB_FLASH_CTRL.ABORT, on leaving Commission, or by a warm reset (R89). In the cycle of a completion
it finds the operation done. -/
def flashAbort (s : State) : State :=
  if s.flash.running ∧ !s.flash.abortAsked then
    { s with flash := { s.flash with abortAsked := true, abortCycle := s.cycles } }
  else s.when (!s.flash.running && decide (s.flash.doneCycle = some s.cycles)) (fun s => s.wr FAB_FLASH_RESULT.ABORT_ACK 2)

/-- Sector `k` of slot `i` was erased or programmed: erasing sector 0 starts the account anew; the others count only once
the header sector has been erased (R88). That one programmed page makes its sector count is the model's choice (log 42). -/
def touchSector (erase : Bool) (i k : Nat) (s : State) : State :=
  let m := (lookup s.flash.touched i).getD 0
  let m' := if k = 0 then (if erase then 1 else m) else if bit m 0 then setBit m k true else m
  { s with flash := { s.flash with touched := insert s.flash.touched i m' } }

/-- The sector at a flash offset is noted where it is a slot's. -/
def touchOffset (erase : Bool) (off : Nat) (s : State) : State :=
  if slotBase 0 ≤ off ∧ off < ledgerBase then
    touchSector erase ((off - slotBase 0) / slotSize) ((off - slotBase 0) % slotSize / sectorSize) s
  else s

/-- Bytes of the flash erased. -/
def flashClear (off n : Nat) (s : State) : State :=
  { s with mem := s.mem.clearRange (flashAddr off) (flashAddr (off + n)) }

/-- `n` sectors erased from an offset upward. -/
def eraseSectors (off : Nat) : Nat → State → State
  | 0, s => s
  | n + 1, s => touchOffset true (off + n * sectorSize) (flashClear (off + n * sectorSize) sectorSize (eraseSectors off n s))

/-- The number of the page among those from `off` that holds the header of slot `i`, if one of `n` does. -/
def headerPage (off n i : Nat) : Option Nat :=
  if off ≤ slotBase i ∧ slotBase i < off + n * pageSize then some ((slotBase i - off) / pageSize) else none

/-- The pages that hold headers, among `n` pages from an offset. -/
def headerPages (off n : Nat) : List Nat := (List.range 4).filterMap (headerPage off n)

/-- Which of the `n` pages from an offset is programmed as number `k`: headers come last, so that no interruption leaves a valid
header over partial content (R88). -/
def pageInOrder (off n k : Nat) : Nat :=
  let hs := headerPages off n
  if n - hs.length ≤ k then hs.getD (k - (n - hs.length)) 0
  else k + (hs.filter (fun h => decide (h ≤ k + hs.idxOf h))).length

/-- The first `k` of `n` pages from an offset programmed with what device memory holds at `src`; where the read-back does not
compare, the flash holds an unknown value. -/
def programPages (src off n : Nat) (verified : Bool) : Nat → State → State
  | 0, s => s
  | k + 1, s =>
    let s := programPages src off n verified k s
    let p := pageInOrder off n k
    let bs := if verified then s.memBytes (src + p * pageSize) pageSize
      else toBytesLE pageSize (s.freeVal (8 * pageSize))
    let s := if verified then s else s.nextFree
    touchOffset false (off + p * pageSize) (s.memWrite (flashAddr (off + p * pageSize)) bs)

/-- The check of slot `i`: header validity and the three check values (`FAB_SLOT_STATUS`, `FAB_SLOT_ID`). What cannot be read does
not match (R268). That no part of a slot without a valid header is OK is the model's choice (log 42). -/
def checkSlot (i : Nat) (f : MemFound) (s : State) : State :=
  let h := s.headerValid i && !f.meets (flashAddr (slotBase i)) 0x80
  let good := fun p => h && s.partGood i p && !f.meets (flashAddr (slotBase i + s.partOff i p)) (s.partLen i p)
  let id := if h then s.hdr i 8 4 else 0
  let s' := (s.outcome FAB_SLOT_STATUS.GEN FAB_SLOT_STATUS.VALID i).wrFlag FAB_SLOT_STATUS.HDR_OK h i
  let s' := (s'.wrFlag FAB_SLOT_STATUS.SAFE_OK (good 0) i).wrFlag FAB_SLOT_STATUS.CTRL_OK (good 1) i
  (s'.wrFlag FAB_SLOT_STATUS.FREE_OK (good 2) i).wr FAB_SLOT_ID.LOAF_ID id i

/-- How many units an operation has. -/
def FlashOp.units (f : FlashOp) : Nat :=
  if f.op = opErase then f.len / sectorSize else if f.op = opProgram then f.len / pageSize
  else if f.op = opEraseSlot then 96 else 1

/-- What the operation has done to the flash after `n` units. -/
def flashEffect (f : FlashOp) (n : Nat) (e : FlashEnding) (s : State) : State :=
  if f.op = opErase then eraseSectors f.dst n s
  else if f.op = opProgram then programPages f.src f.dst f.units e.verified n s
  else if f.op = opEraseSlot then eraseSectors (slotBase f.dst) n s
  else if n = 0 then s else checkSlot f.dst e.found s

/-- The running operation ends with an outcome; one completion interrupt goes to the cores. A scan of a slot check that is still
under way ends with it (R89). -/
def flashEnd (st : FlashStatus) (ack : Nat) (s : State) : State :=
  let s := s.when s.flash.scanning (seqStop 1 chkAborted 1)
  let s := { s with flash := { s.flash with running := false, abortAsked := false, scanning := false, abortLate := false } }
  (flashResult st (s.wr FAB_FLASH_RESULT.ABORT_ACK ack)).emit (.coreIrq 0x10 0)

/-- The end of a flash operation (R87, R89): complete, or aborted after `units` units. A completion committed in the cycle
in which the abort was sampled wins; a warm reset ends that cycle. A slot check ends with the last of its scans, and not before
bank A is free for it. -/
def flashComplete (units : Nat) (e : FlashEnding) (s : State) : State :=
  let f := s.flash
  if !f.running then s
  else
    let n := min units f.units
    if f.abortAsked && (decide (n < f.units) || decide (f.abortCycle < s.cycles) || f.abortLate) then
      flashEnd .aborted 1 (flashEffect f (if f.op = opCheck then 0 else n) e s)
    else if f.op = opCheck ∧ (!f.scanning || (s.scan 1).suspended || s.scanStands 1) then s
    else
      let s := s.when (decide (f.op = opCheck)) (seqFinish 1 e.found 4)
      let s := flashEffect f f.units e s
      let s := { s with flash := { s.flash with doneCycle := some s.cycles, scanning := false } }
      flashEnd (if f.op = opProgram ∧ !e.verified then .verifyFail else .ok) (if f.abortAsked then 2 else 0) s

/-- The first flash offset that an operation changes. -/
def FlashOp.start (f : FlashOp) : Nat := if f.op = opEraseSlot then slotBase f.dst else f.dst

/-- The bytes of one unit of an operation. -/
def FlashOp.unit (f : FlashOp) : Nat := if f.op = opProgram then pageSize else sectorSize

/-- The flash offset of the unit that an operation has under way after `n` units. -/
def FlashOp.underWay (f : FlashOp) (n : Nat) : Nat :=
  f.start + (if f.op = opProgram then pageInOrder f.dst f.units n else n) * f.unit

/-- Bytes that a unit under way is left with: open, but a slot's header among them is not valid (R88). -/
def leftBytes (off : Nat) (bs : List Nat) : List Nat :=
  if anyUpTo (fun i => decide (slotBase i = off)) 4 && decide (ofBytesLE (bs.take 4) = 0x46414F4C) then 0 :: bs.drop 1 else bs

/-- A cold reset interrupts the operation wherever it is (R89): how many units were done is unknown, and so are the bytes
of the unit under way. The account of written sectors ends. -/
def flashInterrupt (s : State) : State :=
  let f := s.flash
  let s :=
    if f.running ∧ f.op ≠ opCheck then
      let n := s.freeVal 32 % (f.units + 1)
      let s := flashEffect f n ⟨true, .clean⟩ s.nextFree
      let off := f.underWay n
      if n < f.units then (s.memWrite (flashAddr off) (leftBytes off (toBytesLE f.unit (s.freeVal (8 * f.unit))))).nextFree
      else s
    else s
  { s with flash := { s.flash with running := false, abortAsked := false, scanning := false, abortLate := false, touched := [],
                                   doneCycle := none } }

/-! ### LOAF_SELECT (R84) -/

/-- What LOAF_SELECT answers for a slot. -/
def State.loafSelectRefusal (s : State) (slot : Nat) : Option Bool :=
  if s.mode ≠ .commission then some false else if s.headerValid slot then none else some true

/-! ### Slice supervision (R93, R94) -/

/-- The kinds of `FAB_SLICE_STATE.FUNC`. -/
def funcRecognition : Nat := 1
def funcCancellerCheck : Nat := 2
def funcCanceller : Nat := 0x10
def funcLeaven : Nat := 0x11
def funcPower : Nat := 0x12

end Sys2Proof.Machine
end

