-- ==== Sys2Proof/Machine/Mtr.lean ====
section
/-!
DEFINITION. String metering, the lease ledger and the packs' reports (13_metering_and_battery_strings.md).
-/
namespace Sys2Proof.Machine

/-! ### Terms -/

/-- The record of string `k`, and of the block, changed. -/
def State.modStr (s : State) (k : Nat) (f : Str → Str) : State := { s with strings := tmod s.strings k f }
def State.modMeter (s : State) (f : Metering → Metering) : State := { s with meter := f s.meter }

/-- Bits of FLAGS (R335). -/
def flUnmetered : Nat := 0
def flDormant : Nat := 1
def flCold : Nat := 2
def flSilent : Nat := 3
def flSlow : Nat := 4
def flMalformed : Nat := 5
def flV : Nat := 6
def flI : Nat := 7
def flE : Nat := 8
def flId : Nat := 9
def flOver : Nat := 10
def flCal : Nat := 11
def flGap : Nat := 12
def flUnsync : Nat := 13

/-- A flag of the span under way of string `k`, as the register shows it and as the record will. -/
def setStrFlag (b k : Nat) (s : State) : State :=
  (s.wr MTR_STR_STATUS.FLAGS (setBit (s.rd MTR_STR_STATUS.FLAGS k) b true) k).modStr k
    (fun r => { r with flags := setBit r.flags b true })

/-- Integration runs for string `k` where it is metered (R331, R333, R72). -/
def State.integrates (s : State) (k : Nat) : Bool :=
  s.meter.integrating && decide (s.mode ≠ .dormant) && s.strMetered k && !(s.str k).unmetered

/-- The time that has passed since it was last counted is counted to the span of string `k`, with or without integration. -/
def meterTime (k : Nat) (s : State) : State :=
  let on := s.integrates k
  s.modStr k (fun r =>
    let dt := s.upNs - r.seenNs
    { r with seenNs := s.upNs, ranNs := if on then r.ranNs + dt else r.ranNs, pauseNs := if on then r.pauseNs else r.pauseNs + dt })

/-- String `k` is UNMETERED, or no longer (R333, R54). -/
def setUnmetered (on : Bool) (k : Nat) (s : State) : State :=
  ((meterTime k s).wrFlag MTR_STR_STATUS.UNMETERED on k).modStr k (fun r => { r with unmetered := on })

/-- A flag on every string in use. -/
def setAllFlags (b : Nat) (s : State) : State := s.upTo (fun k s => s.when (s.strMetered k) (setStrFlag b k)) 32

/-! ### Samples (R329, R332, R333) -/

/-- Full scale of a metering code. -/
def mtrFull : Int := 8388607

/-- The loaf's calibration of a code: gain in 0.0001, offset in codes, saturating (R329). -/
def mtrCal (gain : Nat) (off code : Int) : Int :=
  if Config.offsetFirst then clampInt (-mtrFull) mtrFull (roundQ ((code + off) * gain) 10000)
  else clampInt (-mtrFull) mtrFull (roundQ (code * gain) 10000 + off)

/-- The energy of a sample in 2^-32 µWh: v · i · 250 µs (R332). -/
def sampleEnergy (c : StrCfg) (v i : Int) : Int :=
  roundQ ((c.vscale : Int) * c.iscale * v * i * 5 * 4294967296) (72 * 8388607 * 8388607)

/-- The device's own trim of a code, saturating (R329). -/
def ownTrim (t : MtrTrim) (code : Int) : Int :=
  let x := if Config.offsetFirst then roundQ ((code + t.off) * (16777216 + t.gain)) 16777216
    else roundQ (code * (16777216 + t.gain)) 16777216 + t.off
  clampInt (-mtrFull) mtrFull x

/-- A sample pair of string `k`, as its converters give it: the device's trim comes first, the loaf's calibration second. -/
def meterSample (k : Nat) (vRaw iRaw : Int) (s : State) : State :=
  if !s.integrates k then s
  else
    let c := (s.str k).cfg
    let v0 := ownTrim (s.str k).trimV (clampInt (-mtrFull) mtrFull vRaw)
    let c0 := ownTrim (s.str k).trimI (clampInt (-mtrFull) mtrFull iRaw)
    let v := mtrCal c.vgain c.voff v0
    let i0 := mtrCal c.igain c.ioff c0
    let i := if c.sign then -i0 else i0
    let e := sampleEnergy c v i
    let s := ((s.inc MTR_STR_V.GEN k).wrS MTR_STR_V.CODE v k)
    let s := ((s.inc MTR_STR_I.GEN k).wrS MTR_STR_I.CODE i k)
    let s := s.modStr k (fun r => { r with
      v := v, i := i, eDis := (r.eDis + e.toNat) % 2 ^ 96, eChg := (r.eChg + (-e).toNat) % 2 ^ 96 })
    s.when ([vRaw, iRaw, v0, c0, v, i].any (fun x => decide (8388607 ≤ x.natAbs)))
      (fun s => setStrFlag flOver k (s.wrFlag MTR_STR_STATUS.OVERRANGE true k))

/-- A converter of string `k` has delivered nothing for two periods while the string integrates (R333). -/
def meterStall (k : Nat) (s : State) : State := s.when (s.integrates k) (fun s => setStrFlag flUnmetered k (setUnmetered true k s))

/-! ### The ledger log (R335 to R337) -/

/-- Positions of the log; records of a sector. -/
def ledgerSlots : Nat := 49152
def ledgerSector : Nat := 1024

/-- Flash offset of a position. -/
def ledgerOff (p : Nat) : Nat := ledgerBase + 64 * p

/-- The 64 bytes at a position. -/
def State.ledgerBytes (s : State) (p : Nat) : List Nat := s.flashBytes (ledgerOff p) 64

/-- Fields of a record. -/
def recSeq (bs : List Nat) : Nat := ofBytesLE (slice bs 0 4)
def recNs (bs : List Nat) : Nat := ofBytesLE (slice bs 4 4) + 1000000000 * ofBytesLE (slice bs 8 6)
def recString (bs : List Nat) : Nat := ofBytesLE (slice bs 14 1)
def recDis (bs : List Nat) : Nat := ofBytesLE (slice bs 16 8)
def recChg (bs : List Nat) : Nat := ofBytesLE (slice bs 24 8)
def recCalTag (bs : List Nat) : Nat := ofBytesLE (slice bs 0x2A 2)
def recCheck (bs : List Nat) : Nat := ofBytesLE (slice bs 0x3C 4)

/-- The record's CHECK is correct (R335). -/
def recGood (bs : List Nat) : Bool := decide (crc32c (slice bs 0 0x3C) = recCheck bs) && decide (slice bs 15 1 = [1])

/-- The positions that hold anything but erased flash, upward. -/
def State.ledgerWritten (s : State) : List Nat :=
  (s.mem.filterMap (fun c =>
    if flashAddr ledgerBase ≤ c.1 ∧ c.1 < flashAddr (ledgerOff ledgerSlots) then
      some ((c.1 - flashAddr ledgerBase) / 64) else none)).eraseDups

/-- The good records of string `k` in the log. -/
def State.ledgerOf (s : State) (k : Nat) : List (List Nat) :=
  (s.ledgerWritten.map s.ledgerBytes).filter (fun bs => recGood bs && decide (recString bs = k))

/-- The record of the greatest SEQ. -/
def newestRec : List (List Nat) → Option (List Nat)
  | [] => none
  | b :: bs => match newestRec bs with
    | some c => some (if recSeq c < recSeq b then b else c)
    | none => some b

/-- The record of the smallest SEQ. -/
def oldestRec : List (List Nat) → Option (List Nat)
  | [] => none
  | b :: bs => match oldestRec bs with
    | some c => some (if recSeq b < recSeq c then b else c)
    | none => some b

/-- The next position, as the log itself shows it after a cold reset: an erased one that follows a written one; else the one
after the latest close time. -/
def State.ledgerPtr (s : State) : Nat :=
  let w := s.ledgerWritten
  match w.find? (fun p => !w.contains ((p + 1) % ledgerSlots)) with
  | some p => (p + 1) % ledgerSlots
  | none =>
    match w with
    | [] => 0
    | p :: ps => (ps.foldl (fun b q => if recNs (s.ledgerBytes b) < recNs (s.ledgerBytes q) then q else b) p + 1) % ledgerSlots

/-- The sector of the oldest record held: the first that holds anything from the pointer on. -/
def State.ledgerOldest (s : State) : Nat :=
  let w := s.ledgerWritten
  (((List.range 48).map (fun j => ((s.meter.ptr + 1023) / ledgerSector + j) % 48)).find?
    (fun c => w.any (fun p => decide (p / ledgerSector = c)))).getD 0

/-- The pointer and the sector of the oldest record, as the registers show them. -/
def showLedger (s : State) : State :=
  (s.wr MTR_LEDGER_STATUS.WRITE_PTR s.meter.ptr).wr MTR_LEDGER_STATUS.OLDEST s.ledgerOldest

/-- The pointer is about to enter a sector (R337): it is erased, and what it held is lost. -/
def enterSector (s : State) : State :=
  let p := s.meter.ptr
  if p % ledgerSector ≠ 0 then s else flashClear (ledgerOff p) (64 * ledgerSector) s

/-! ### Closing (R334, R335, R338, R345, R346) -/

/-- The built records of string `k` that wait for flash. -/
def State.waiting (s : State) (k : Nat) : List (List Nat) := (s.meter.queue.filter (fun p => decide (p.1 = k))).map (·.2)

/-- Descriptor of string `k` with a given kind, if the map has one: its entry. -/
def State.descOf (s : State) (k kind : Nat) : Option Nat :=
  ((List.range 8).map (fun d => 8 * k + d)).find? (fun e => s.flag LOAF_DESC.VALID e && decide (s.rd LOAF_DESC.KIND e = kind))

/-- A pack's energy over the span in watt-hours (R346): the difference of its counter modulo 2^length, scaled. -/
def State.packSpan (s : State) (k kind : Nat) (old new : Option Nat) : Option Nat :=
  match s.descOf k kind, old, new with
  | some e, some a, some b =>
    let n := 2 ^ s.rd LOAF_DESC.LEN e
    some (roundQ ((((b + n - a % n) % n : Nat) : Int) * s.rdS LOAF_DESC.SCALE e) 1000000).toNat
  | _, _, _ => none

/-- The device's energy over the span, in whole watt-hours. -/
def spanWh (now before : Nat) : Nat := (now - before) / 2 ^ 32 / 1000000

/-- A pack energy disagrees with the device's (R346). -/
def State.disagreesE (s : State) (k dev : Nat) (pack : Option Nat) : Bool :=
  match pack with
  | none => false
  | some p => decide (s.rd LOAF_MTR.E_TOL k * dev + 1000 * s.rd LOAF_MTR.E_ABS k < 1000 * ((p : Int) - dev).natAbs)

/-- An unknown number is all ones. -/
def orOnes (v : Option Nat) : Nat := v.getD 0xFFFFFFFF % 2 ^ 32

/-- The time servo has acquired (R339). -/
def State.acquired (s : State) : Bool := s.flag ETH_SRV_STATUS.ACQUIRED

/-- Milliseconds of the span that ends now, which no step of the time base lengthens. A span that a cold reset cut is as long as its
ends' times differ, once the time base has acquired; until then its length is unknown, and open (R339). -/
def State.spanMs (s : State) (k : Nat) : Nat :=
  let r := s.str k
  if bit r.flags flCold && r.calTag.isSome then
    (if s.acquired && decide (r.closeNs ≤ s.timeNs) then (s.timeNs - r.closeNs) / 1000000 else s.freeVal 32)
  else (s.upNs - r.closeUp) / 1000000

/-- Milliseconds of it without integration, a check without a spare included; after a cold reset, all but the integrated ones since item 8
(R330, R339). -/
def State.pauseMs (s : State) (k : Nat) : Nat :=
  let r := s.str k
  if bit r.flags flCold then s.spanMs k - (r.ranNs - r.gapNs) / 1000000 else (r.pauseNs + r.gapNs) / 1000000

/-- What the close of string `k` finds of its pack: silent at either close, and the two energies. -/
def State.closeSilent (s : State) (k : Nat) : Bool := (s.str k).silentBefore || s.flag MTR_PACK_STATUS.SILENT k
def State.closePack (s : State) (k kind : Nat) : Option Nat :=
  let r := s.str k
  if s.closeSilent k then none
  else if kind = 4 then s.packSpan k 4 r.prevDis r.packDis else s.packSpan k 5 r.prevChg r.packChg

/-- The flags of the record that closes now. -/
def State.closeFlags (s : State) (k : Nat) : Nat :=
  let r := s.str k
  let f := r.flags
  let e := s.disagreesE k (spanWh r.eDis r.closeDis) (s.closePack k 4) || s.disagreesE k (spanWh r.eChg r.closeChg) (s.closePack k 5)
  let f := if e then setBit f flE true else f
  let f := if r.calTag.isSome && decide (r.calTag ≠ some r.cfg.tag) then setBit f flCal true else f
  if s.acquired then f else setBit f flUnsync true

/-- The record of string `k` (R335), and its CHECK. -/
def State.buildRecord (s : State) (k seq prev : Nat) : List Nat :=
  let r := s.str k
  let pause := if s.acquired then min (s.pauseMs k) 0xFFFFFFFF else 0xFFFFFFFF
  sealed (toBytesLE 4 seq ++ timeBytes s.timeNs ++ [k, 1] ++ toBytesLE 8 (r.eDis / 2 ^ 32) ++ toBytesLE 8 (r.eChg / 2 ^ 32)
    ++ toBytesLE 4 (min (s.spanMs k) 0xFFFFFFFF) ++ toBytesLE 4 pause ++ toBytesLE 2 (s.closeFlags k)
    ++ toBytesLE 2 r.cfg.tag ++ toBytesLE 4 (s.rd MTR_PACK_ID.PACK_ID k)
    ++ toBytesLE 4 (orOnes (s.closePack k 4)) ++ toBytesLE 4 (orOnes (s.closePack k 5)) ++ toBytesLE 4 prev)

/-- The flags with which the next span of string `k` begins: the states that last (R345, R333). -/
def State.lastingFlags (s : State) (k : Nat) : Nat :=
  b2n (s.str k).unmetered + 8 * b2n (s.flag MTR_PACK_STATUS.SILENT k)
    + 16 * b2n (s.flag MTR_PACK_STATUS.SLOW k) + 32 * b2n (s.flag MTR_PACK_STATUS.MALFORMED k)

/-- The next span of string `k` begins. -/
def nextSpan (k : Nat) (s : State) : State :=
  let silent := s.flag MTR_PACK_STATUS.SILENT k
  let tag := (s.str k).cfg.tag
  let f := s.lastingFlags k
  let s := (s.wr MTR_STR_STATUS.FLAGS f k).wrFlag MTR_STR_STATUS.OVERRANGE false k
  s.modStr k (fun r => { r with
    flags := f, calTag := some tag, closeNs := s.timeNs, closeUp := s.upNs, closeDis := r.eDis, closeChg := r.eChg, pauseNs := 0, ranNs := 0, gapNs := 0,
    prevDis := r.packDis, prevChg := r.packChg, silentBefore := silent })

/-- String `k` closes: its record is built and waits for flash, unless its SEQ has run out (R338) or the ledger has
stopped (R336). -/
def closeString (k : Nat) (s : State) : State :=
  if !s.strMetered k || s.flag MTR_LEDGER_STATUS.FLASH_FAIL then s
  else
    let s := meterTime k s
    let w := s.waiting k
    let seq := s.rd MTR_STR_SEQ.NEXT k + w.length
    if 0xFFFFFFF0 ≤ seq then s.wrFlag MTR_STR_STATUS.LEDGER_FULL true k
    else
      let prev := match w.getLast? with
        | some bs => recCheck bs
        | none => (s.str k).check
      let bs := s.buildRecord k seq prev
      let f := s.closeFlags k
      let s := s.when (bit f flV || bit f flI || bit f flE) (fun s => s.count MTR_PACK_STATUS.N_DISAGREE k)
      nextSpan k (s.nextFree.modMeter (fun m => { m with queue := m.queue ++ [(k, bs)] }))

/-- The first close after a cold reset waits for acquisition, or until 600 s have passed since that reset (R339). -/
def State.closeMayRun (s : State) : Bool :=
  !s.meter.firstClose || s.acquired || decide (600000000000 ≤ s.upNs)

/-- A close is due at this boundary: T_LEDGER has passed since the last one (R334); none falls due in Dormant. -/
def State.closeDue (s : State) : Bool :=
  decide (1000 * s.meter.interval ≤ s.meter.sinceMs) && s.meter.integrating && s.closeMayRun && decide (s.mode ≠ .dormant)

/-- A due close at a cycle boundary (R334): skipped while MDLL-B is gated and in the reset sequence, which the next record shows. -/
def ledgerClose (s : State) : State :=
  if !s.closeDue then s
  else
    let s := s.modMeter (fun m => { m with sinceMs := 0, firstClose := false })
    if s.mdllB && decide (s.mode ≠ .resetSeq) then s.upTo closeString 32 else setAllFlags flGap s

/-- The ring for ledger records. -/
def State.ledgerRing (s : State) : Nat := 8 + s.rd MTR_LEDGER_CFG.RING

/-- A record whose read-back matches is posted, and SEQ advances (R336). A ring that offers nothing takes nothing. -/
def postRecord (k : Nat) (bs : List Nat) (s : State) : State :=
  let s := (s.inc MTR_STR_SEQ.NEXT k).modStr k (fun r => { r with check := recCheck bs })
  let s := s.modMeter (fun m => { m with queue := m.queue.drop 1, tries := 0 })
  irq 7 (s.when (s.ringOffers s.ledgerRing) (ringDeliver s.ledgerRing bs))

/-- The record at the front is programmed at the next position and read back (R336). -/
def recordWritten (ok : Bool) (s : State) : State :=
  if !s.mdllB || s.flag MTR_LEDGER_STATUS.FLASH_FAIL then s
  else
    match s.meter.queue with
    | [] => s
    | (k, bs) :: _ =>
      let s := enterSector s
      let p := s.meter.ptr
      let bytes := if ok then bs else (List.range 64).map (fun i => Config.freeValue (s.free + i) % 256)
      let s := { s.memWrite (flashAddr (ledgerOff p)) bytes with free := s.free + 64 }
      let s := showLedger (s.modMeter (fun m => { m with ptr := (p + 1) % ledgerSlots, tries := m.tries + 1 }))
      if ok then postRecord k bs s
      else if 4 ≤ s.meter.tries then
        (s.wrFlag MTR_LEDGER_STATUS.FLASH_FAIL true).modMeter (fun m => { m with queue := [], tries := 0 })
      else s

/-! ### LEDGER_READ (R340, R434) -/

/-- Records put in ascending SEQ order. -/
def insertRec (b : List Nat) : List (List Nat) → List (List Nat)
  | [] => [b]
  | c :: cs => if recSeq b ≤ recSeq c then b :: c :: cs else c :: insertRec b cs
def sortRecs : List (List Nat) → List (List Nat)
  | [] => []
  | b :: bs => insertRec b (sortRecs bs)

/-- Status and payload of LEDGER_READ for string `k`, at most `n` records from SEQ `first`. -/
def State.ledgerAnswer (s : State) (k n first : Nat) : Status × List Nat :=
  if !s.strUsed k || decide (32 ≤ k) || decide (32 < n) then (.refusedRange, [])
  else
    let all := sortRecs (s.ledgerOf k)
    let n := if n = 0 then 32 else n
    let take := (all.filter (fun b => decide (first ≤ recSeq b))).take n
    match oldestRec all with
    | none => (.ok, [0, 0, 0, 0] ++ toBytesLE 4 (s.freeVal 32))
    | some o =>
      (if first < recSeq o then .truncated else .ok,
        [take.length, 0, 0, 0] ++ toBytesLE 4 (recSeq o) ++ take.flatten)

/-! ### Start of integration (R330, R331, R339) -/

/-- After a cold reset string `k` takes up where its newest record left off. -/
def loadString (k : Nat) (s : State) : State :=
  match newestRec (s.ledgerOf k) with
  | none => s.modStr k (fun r => { r with closeNs := s.timeNs, closeUp := s.upNs, seenNs := s.upNs })
  | some b =>
    let s := s.wr MTR_STR_SEQ.NEXT (recSeq b + 1) k
    let s := (s.wr MTR_STR_EDIS_HI.E (recDis b / 2 ^ 32) k).wr MTR_STR_ECHG_HI.E (recChg b / 2 ^ 32) k
    s.modStr k (fun r => { r with
      eDis := recDis b * 2 ^ 32, eChg := recChg b * 2 ^ 32, check := recCheck b, calTag := some (recCalTag b),
      closeNs := recNs b, closeUp := s.upNs, seenNs := s.upNs, closeDis := recDis b * 2 ^ 32, closeChg := recChg b * 2 ^ 32 })

/-- Proof item 8 starts the integration that a cold reset ended. -/
def meterStart (s : State) : State :=
  if s.meter.integrating then showLedger s
  else
    let s := s.modMeter (fun m => { m with
      integrating := true, firstClose := true, sinceMs := 0, queue := [], tries := 0, ptr := s.ledgerPtr })
    setAllFlags flCold (showLedger (s.upTo loadString 32))

/-- The loaf's calibration comes into force for the integrators of string `k` (R329, R83). -/
def loadStrCfg (k : Nat) (s : State) : State :=
  s.modStr k (fun r => { r with cfg :=
    ⟨s.flag MTR_STR_CFG.USED k, s.flag MTR_STR_CFG.I_SIGN k, s.rd MTR_STR_SCALE.VSCALE k, s.rd MTR_STR_SCALE.ISCALE k,
      s.rd LOAF_MTR.VGAIN k, s.rd LOAF_MTR.IGAIN k, s.rdS LOAF_MTR.VOFF k, s.rdS LOAF_MTR.IOFF k, s.rd MTR_STR_CFG.CAL_TAG k⟩ })

/-- The trim that item 8 measures for a channel that passes; the manual gives no range for it, so it is open (R329). -/
def State.newTrim (s : State) (n : Nat) : MtrTrim :=
  ⟨toSigned 24 (Config.freeValue (s.free + n) % 2 ^ 24), toSigned 24 (Config.freeValue (s.free + n + 1) % 2 ^ 24)⟩

/-- Proof item 8 for string `k`: UNMETERED after a failed channel, else metered, with a new trim; unmeasured for at most 20 ms where a
spare has failed (R329, R330). -/
def checkString (spareFail : Bool) (fails k : Nat) (s : State) : State :=
  if !s.strUsed k then s
  else
    let s := s.when spareFail (fun s => (s.modStr k (fun r => { r with gapNs := r.gapNs + s.freeVal 32 % 20000001 })).nextFree)
    let s := setUnmetered (bit fails k) k s
    if bit fails k then setStrFlag flUnmetered k s
    else { s.modStr k (fun r => { r with trimV := s.newTrim 0, trimI := s.newTrim 2 }) with free := s.free + 4 }

/-! ### Pack reports (R343 to R348) -/

/-- The field of descriptor `e` in a frame's data (R343): bit n of a little-endian field is bit n mod 8 of byte n / 8. -/
def State.descRaw (s : State) (e : Nat) (data : List Nat) : Nat :=
  let off := s.rd LOAF_DESC.OFF e
  let len := s.rd LOAF_DESC.LEN e
  if s.flag LOAF_DESC.BIG e then Config.bigEndianField data off len % 2 ^ len
  else bits (ofBytesLE data) off len

/-- The value of a descriptor's field in millionths. -/
def State.descValue (s : State) (e : Nat) (data : List Nat) : Int :=
  let raw := s.descRaw e data
  let v : Int := if s.flag LOAF_DESC.SIGNED e then toSigned (s.rd LOAF_DESC.LEN e) raw else raw
  v * s.rdS LOAF_DESC.SCALE e + s.rdS LOAF_DESC.OFFSET e

/-- The descriptors of frame `f` of string `k`. -/
def State.frameDescs (s : State) (k f : Nat) : List Nat :=
  ((List.range 8).map (fun d => 8 * k + d)).filter (fun e => s.flag LOAF_DESC.VALID e && decide (s.rd LOAF_DESC.FRAME e = f))

/-- A frame of string `k` is accepted (R344). -/
def State.packAccepts (s : State) (k f : Nat) (data : List Nat) : Bool :=
  (s.frameDescs k f).all (fun e =>
    decide (s.rd LOAF_DESC.OFF e + s.rd LOAF_DESC.LEN e ≤ 8 * data.length)
      && decide (s.rdS LOAF_DESC.MIN e ≤ s.descValue e data) && decide (s.descValue e data ≤ s.rdS LOAF_DESC.MAX e)
      && (decide (s.rd LOAF_DESC.KIND e ≠ 7) || (match lookup (s.str k).alive f with
          | none => true
          | some a => decide (s.descRaw e data = (a + 1) % 2 ^ s.rd LOAF_DESC.LEN e))))

/-- A run of reports out of tolerance, and the flag at the tenth (R346). -/
def judgeReport (bad : Bool) (run : Nat) (flag k : Nat) (s : State) : State := s.when (bad && decide (9 ≤ run)) (setStrFlag flag k)

/-- The measured value of string `k` in millionths: a code against its full scale. -/
def measuredMicro (scale : Nat) (code : Int) : Int := roundQ ((scale : Int) * code * 1000000) 8388607

/-- The report exceeds its tolerance, in 0.1 % of the scale. -/
def outOfTol (report measured : Int) (tol scale : Nat) : Bool := decide (tol * scale * 1000 < (report - measured).natAbs)

/-- One field of an accepted frame of string `k` (R343, R346, R348). -/
def takeField (k f : Nat) (data : List Nat) (e : Nat) (s : State) : State :=
  let raw := s.descRaw e data
  let v := s.descValue e data
  let r := s.str k
  match s.rd LOAF_DESC.KIND e with
  | 1 =>
    let bad := outOfTol v (measuredMicro r.cfg.vscale r.v) (s.rd LOAF_MTR.V_TOL k) r.cfg.vscale
    let s := judgeReport bad r.vRun flV k (s.wr MTR_PACK_VI.PACK_V (sat 16 (roundQ v 100000).toNat) k)
    s.modStr k (fun r => { r with vRun := runOfBool bad r.vRun })
  | 2 =>
    let bad := outOfTol v (measuredMicro r.cfg.iscale r.i) (s.rd LOAF_MTR.I_TOL k) r.cfg.iscale
    let s := judgeReport bad r.iRun flI k (s.wrS MTR_PACK_VI.PACK_I (clampInt (-32767) 32767 (roundQ v 200000)) k)
    s.modStr k (fun r => { r with iRun := runOfBool bad r.iRun })
  | 4 => s.modStr k (fun r => { r with packDis := some raw })
  | 5 => s.modStr k (fun r => { r with packChg := some raw })
  | 6 =>
    let old := s.rd MTR_PACK_ID.PACK_ID k
    let s := s.when (decide (old ≠ raw) && decide (old ≠ 0xFFFFFFFF)) (fun s =>
      (setStrFlag flId k s).modMeter (fun m => { m with events := (k, old, raw) :: m.events }))
    s.wr MTR_PACK_ID.PACK_ID raw k
  | 7 => s.modStr k (fun r => { r with alive := insert r.alive f raw })
  | _ => s
where
  /-- One longer where the condition holds, else 0. -/
  runOfBool (b : Bool) (n : Nat) : Nat := if b then n + 1 else 0

/-- An accepted primary frame of string `k` (R345). -/
def primaryFrame (k : Nat) (s : State) : State :=
  let r := s.str k
  let t := 1000000 * s.rd LOAF_MTR.T_PACK k
  let s := s.wrFlag MTR_PACK_STATUS.SILENT false k
  match r.primaryNs with
  | none => s.modStr k (fun r => { r with primaryNs := some s.upNs, goodRun := 0 })
  | some p =>
    if 3 * t < 2 * (s.upNs - p) then
      setStrFlag flSlow k ((s.wrFlag MTR_PACK_STATUS.SLOW true k).modStr k (fun r => { r with primaryNs := some s.upNs, goodRun := 0 }))
    else
      let n := r.goodRun + 1
      (s.when (decide (8 ≤ n)) (fun s => s.wrFlag MTR_PACK_STATUS.SLOW false k)).modStr k
        (fun r => { r with primaryNs := some s.upNs, goodRun := n })

/-- Frame `f` of string `k` arrives. -/
def packReport (k f : Nat) (data : List Nat) (s : State) : State :=
  if s.packAccepts k f data then
    let s := s.each (takeField k f data) (s.frameDescs k f)
    s.when (decide (f = 0)) (primaryFrame k)
  else
    let s := (s.count MTR_PACK_STATUS.N_DISCARD k).wrFlag MTR_PACK_STATUS.MALFORMED true k
    setStrFlag flMalformed k (s.modStr k (fun r => { r with discardNs := s.upNs }))

/-- 3 T_PACK have passed without an accepted primary frame of string `k` (R345). -/
def State.packLate (s : State) (k : Nat) : Bool :=
  s.strMetered k && (match (s.str k).primaryNs with
    | none => true
    | some p => decide (3000000 * s.rd LOAF_MTR.T_PACK k ≤ s.upNs - p))

/-- SILENT (R345). -/
def packSilent (k : Nat) (s : State) : State :=
  s.when (s.packLate k) (fun s => setStrFlag flSilent k (s.wrFlag MTR_PACK_STATUS.SILENT true k))

/-- 10 s have passed since the last discard (R345). -/
def State.discardOver (s : State) (k : Nat) : Bool := decide ((s.str k).discardNs + 10000000000 ≤ s.upNs)

/-- MALFORMED ends 10 s after the last discard. -/
def packMalformedEnd (k : Nat) (s : State) : State :=
  s.when (s.discardOver k) (fun s => s.wrFlag MTR_PACK_STATUS.MALFORMED false k)

/-- The frame entry of string `k` that an identifier matches, if one does. -/
def State.mappedFrame (s : State) (ext : Bool) (id k : Nat) : Option Nat :=
  (List.range 4).find? (fun f => s.flag LOAF_PACK.VALID (4 * k + f) && decide (s.flag LOAF_PACK.EXT (4 * k + f) = ext)
    && decide (s.rd LOAF_PACK.ID (4 * k + f) = id))

/-- The frame matches the class filter of controller `c` (R347). -/
def State.classFrame (s : State) (c : Nat) (ext : Bool) (id : Nat) : Bool :=
  s.flag LOAF_CAN.FILT_VALID c && decide (s.flag LOAF_CAN.FILT_EXT c = ext)
    && decide (Nat.land id (s.rd LOAF_CAN.FILT_MASK c) = Nat.land (s.rd LOAF_CAN.FILT_ID c) (s.rd LOAF_CAN.FILT_MASK c))

/-- The unknown source's entry, an empty one, or the one whose last frame is oldest. -/
def State.unknownEntry (s : State) (c : Nat) (ext : Bool) (id : Nat) : Nat × Bool :=
  match (List.range 16).find? (fun i => s.flag MTR_UNKNOWN.VALID i && decide (s.flag MTR_UNKNOWN.EXT i = ext)
      && decide (s.rd MTR_UNKNOWN.CTRL i = c) && decide (s.rd MTR_UNKNOWN_ID.ID i = id)) with
  | some i => (i, true)
  | none =>
    match (List.range 16).find? (fun i => !s.flag MTR_UNKNOWN.VALID i) with
    | some i => (i, false)
    | none =>
      let last := fun i => ((lookup s.meter.unknownNs i).getD (0, 0)).2
      ((List.range 16).foldl (fun b i => if last i < last b then i else b) 0, false)

/-- A frame from an unknown source (R347). -/
def unknownSource (c : Nat) (ext : Bool) (id : Nat) (s : State) : State :=
  let (i, known) := s.unknownEntry c ext id
  let first := if known then ((lookup s.meter.unknownNs i).getD (0, 0)).1 else s.timeNs
  let s :=
    if known then s.count MTR_UNKNOWN_COUNT.COUNT i
    else
      let s := if s.flag MTR_UNKNOWN.VALID i then s.count MTR_GLB_STATUS.UNK_LOST else s.count MTR_GLB_STATUS.N_UNKNOWN
      ((((s.wrFlag MTR_UNKNOWN.VALID true i).wrFlag MTR_UNKNOWN.EXT ext i).wr MTR_UNKNOWN.CTRL c i).wr MTR_UNKNOWN_ID.ID id i).wr
        MTR_UNKNOWN_COUNT.COUNT 1 i
  (s.wr MTR_UNKNOWN_SEC.SEC (s.sec % 2 ^ 32) i).modMeter (fun m => { m with unknownNs := insert m.unknownNs i (first, s.timeNs) })

/-- The ring that receives copies of received frames. -/
def State.packRing (s : State) : Nat := 8 + s.rd LOAF_MTR.PACK_RING

/-- Controller `c` runs (R342, R36): on, not bus-off, with its clock. -/
def State.canRuns (s : State) (c : Nat) : Bool := s.mdllB && decide (s.rd CAN_STATUS.STATE c < 2)

/-- The fault confinement state of a controller that is not bus-off: error passive above 127 of either counter (R353, ISO 11898-1). -/
def canConfine (c : Nat) (s : State) : State :=
  s.wr CAN_STATUS.STATE (if 127 < s.rd CAN_STATUS.TEC c ∨ 127 < s.rd CAN_STATUS.REC c then 1 else 0) c

/-- An error in a received frame, by `n` (R353). -/
def canRxError (c n : Nat) (s : State) : State := canConfine c (s.wr CAN_STATUS.REC (min 255 (s.rd CAN_STATUS.REC c + n)) c)

/-- A frame received without error: the receive counter goes down by 1, and from error passive to some value of 119 to 127 (ISO
11898-1). -/
def canRxGood (c : Nat) (s : State) : State :=
  if 127 < s.rd CAN_STATUS.REC c then canConfine c (s.wr CAN_STATUS.REC (119 + s.freeVal 32 % 9) c).nextFree
  else s.wr CAN_STATUS.REC (s.rd CAN_STATUS.REC c - 1) c

/-- A frame is received on controller `c` (R342 to R347), or one with an error (R353). -/
def packFrame (c : Nat) (ext : Bool) (kind : RxKind) (id : Nat) (data : List Nat) (s : State) : State :=
  if !s.canRuns c then s
  else match kind with
  | .error n => canRxError c n.val s
  | .remote => (canRxGood c s).count CAN_QSTAT.N_REMOTE c
  | .data =>
    let s := canRxGood c s
    let s := s.when (s.ringOffers s.packRing)
      (ringDeliver s.packRing (Config.packCopy c (id + 2 ^ 31 * b2n ext) data))
    let mapped := (List.range 32).filter (fun k => s.strUsed k && (s.mappedFrame ext id k).isSome)
    if mapped.isEmpty then s.when (s.classFrame c ext id) (unknownSource c ext id)
    else
      s.each (fun k s => match s.mappedFrame ext id k with
        | some f => s.when (decide (s.rd MTR_PACK_STATUS.CTRL k = c)) (packReport k f data)
        | none => s) mapped

/-! ### Each cycle -/

/-- A millisecond of string `k`: with or without integration; SILENT and MALFORMED by their times (R335, R345). -/
def meterMs (k : Nat) (s : State) : State :=
  if !s.strMetered k then s
  else
    let s := packSilent k (meterTime k s)
    let s := s.when (s.flag MTR_PACK_STATUS.SILENT k) (setStrFlag flSilent k)
    s.when (s.flag MTR_PACK_STATUS.MALFORMED k) (packMalformedEnd k)

/-- The metering block at a cycle boundary: the record interval runs, and a close falls due (R334). -/
def meterCycle (s : State) : State :=
  let s := s.upTo meterMs 32
  ledgerClose (s.modMeter (fun m => { m with sinceMs := m.sinceMs + 1 }))

/-- Entry to Dormant marks the span (R339). -/
def meterDormant (s : State) : State := setAllFlags flDormant s

end Sys2Proof.Machine
end

