-- ==== Sys2Proof/Machine/Can.lean ====
section
/-!
DEFINITION. The CAN FD controllers' transmit side (R350 to R353).
-/
namespace Sys2Proof.Machine

/-- The record of controller `c` changed. -/
def State.modCan (s : State) (c : Nat) (f : Can → Can) : State := { s with cans := tmod s.cans c f }

/-- Outcomes and abort reasons of a completion word (R355). -/
def canOnTime : Nat := 1
def canLate : Nat := 2
def canRefused : Nat := 3
def canReplaced : Nat := 4
def canAborted : Nat := 5
def canHost : Nat := 1
def canBusOff : Nat := 2
def canMode : Nat := 3

/-- A completion word enters the FIFO; a full FIFO loses it (R351, R355). -/
def canDone (c tag outcome : Nat) (already : Bool) (reason delay : Nat) (s : State) : State :=
  if 64 ≤ (s.can c).done.length then s.count CAN_TX_FIFO_STAT.OVERFLOW c
  else
    let w := tag % 65536 * 65536 + outcome * 8192 + b2n already * 4096 + reason * 1024 + min delay 0x3FF
    s.modCan c (fun r => { r with done := r.done ++ [w] })

/-- A read of `CAN_TX_DONE` (R351, R355): the oldest word, or 0 with an underflow. -/
def canPop (c : Nat) (s : State) : State × Nat :=
  match (s.can c).done with
  | [] => (s.count CAN_TX_FIFO_STAT.UNDERFLOW c, 0)
  | w :: ws => (s.modCan c (fun r => { r with done := ws }), w)

/-- The oldest frame of each queue, the highest queue first. -/
def State.canHeads (s : State) (c : Nat) : List CanFrame := (List.range 4).filterMap (fun q => (s.canQueue c q).head?)

/-- When a frame that waited `delay` · 100 µs was taken. -/
def CanFrame.takenNs (f : CanFrame) (delay : Nat) : Nat := f.postedNs + 100000 * delay

/-- The frame that has been on the bus: one whose abort found it there; else the oldest of queue `q`, where it can have been taken
`delay` · 100 µs after its posting: not before the bus was free of the last frame, and with no higher queue filled at that frame
boundary (R350). -/
def State.canNext (s : State) (c q delay : Nat) : Option CanFrame :=
  match (s.can c).frames.find? (·.aborted) with
  | some f => some f
  | none => (s.canQueue c q).head?.filter (fun f => decide (f.takenNs delay ≤ s.upNs)
      && decide ((s.can c).lastNs < f.takenNs (delay + 1))
      && (s.canHeads c).all (fun g => decide (f.queue ≤ g.queue) || decide (f.takenNs delay < g.postedNs)))

/-- A frame leaves its queue. -/
def canRemove (c : Nat) (f : CanFrame) (s : State) : State := s.modCan c (fun r => { r with frames := r.frames.erase f })

/-- The first `n` bytes of the staged data. -/
def State.canData (s : State) (c n : Nat) : List Nat :=
  ((List.range 16).flatMap (fun w => toBytesLE 4 (s.rd CAN_TX_DATA.DATA (16 * c + w)))).take n

/-- The staged identifier word. -/
def State.canIdWord (s : State) (c : Nat) : Nat :=
  s.rd CAN_TX_BUF.EXT c * 2 ^ 31 + s.rd CAN_TX_BUF.FD c * 2 ^ 30 + s.rd CAN_TX_BUF.BRS c * 2 ^ 29 + s.rd CAN_TX_BUF.ID c

/-- The same identifier: format bit and 29 bits. -/
def sameId (a b : Nat) : Bool := decide (bits a 0 29 = bits b 0 29) && decide (bit a 31 = bit b 31)

/-- The pending frame that a post to queue 0 replaces (R350): that of the same identifier; else, in a full queue, the oldest that is not
known to be on the bus, for a queue holds 16 frames and queue 0 refuses none (the model's choice, log 85). -/
def State.canReplaces (s : State) (c : Nat) (f : CanFrame) : Option CanFrame :=
  match (s.canQueue c 0).find? (fun g => sameId g.idWord f.idWord && !g.aborted) with
  | some g => some g
  | none => if 16 ≤ (s.canQueue c 0).length then (s.canQueue c 0).find? (fun g => !g.aborted) else none

/-- A post of the staged frame (R350). Queue 0 refuses nothing; a full queue 1 to 3 refuses at once. A controller that is off takes no
frame. -/
def canPost (c tag q len : Nat) (s : State) : State :=
  if s.rd CAN_STATUS.STATE c = 3 then canDone c tag canAborted false canMode 0 s
  else
    let ms := min 10000 (max 1 (s.rd CAN_TX_DEADLINE.DEADLINE c))
    let f : CanFrame := ⟨q, tag % 65536, s.canIdWord c, s.canData c len, s.upNs, ms, false⟩
    if q = 0 then
      match s.canReplaces c f with
      | some g =>
        let s := s.modCan c (fun r => { r with frames := r.frames.map (fun h => if h = g then f else h) })
        canDone c g.tag canReplaced false 0 0 s
      | none => s.modCan c (fun r => { r with frames := r.frames ++ [f] })
    else if 16 ≤ (s.canQueue c q).length then canDone c tag canRefused false 0 0 s
    else s.modCan c (fun r => { r with frames := r.frames ++ [f] })

/-- ON_TIME, or LATE with its delay in 100 µs, by the queue's limit (R350). -/
def State.canJudge (s : State) (c q delay : Nat) : Nat × Nat :=
  if q = 1 ∧ 10 * s.rd LOAF_CAN.D_C c < delay then (canLate, delay)
  else if q = 2 ∧ 10 * s.rd LOAF_CAN.D_M c < delay then (canLate, delay)
  else (canOnTime, 0)

/-- Every queued frame completes ABORTED (R353). -/
def canAbortAll (reason c : Nat) (s : State) : State :=
  let fs := (s.can c).frames
  let s := s.modCan c (fun r => { r with frames := [] })
  s.each (fun f s => canDone c f.tag canAborted false reason 0 s) fs

/-- Controller `c` goes bus-off (R353). Its transmit counter then holds what the standard's counting left, beyond its field. -/
def busOff (c : Nat) (s : State) : State :=
  if !s.canRuns c then s
  else
    let s := canAbortAll canBusOff c ((s.wr CAN_STATUS.STATE 2 c).count CAN_STATUS.N_BUSOFF c)
    (s.wr CAN_STATUS.TEC (s.freeVal 8) c).nextFree

/-- An error in a sent frame raises the transmit counter by 8, beyond 255 to bus-off (R353, ISO 11898-1). -/
def canTxError (c : Nat) (s : State) : State :=
  let n := s.rd CAN_STATUS.TEC c + 8
  if 255 < n then busOff c s else canConfine c (s.wr CAN_STATUS.TEC n c)

/-- A frame sent without error lowers it by 1. -/
def canTxGood (c : Nat) (s : State) : State := canConfine c (s.wr CAN_STATUS.TEC (s.rd CAN_STATUS.TEC c - 1) c)

/-- A frame of queue 3 that was not taken by its deadline has been refused by then (R350). -/
def CanFrame.late (f : CanFrame) (delay : Nat) : Bool := decide (f.queue = 3) && !f.aborted && decide (10 * f.deadlineMs < delay)

/-- Frame `f` has been sent, taken `delay` · 100 µs after its posting: its one completion word (R351). -/
def canSent (c delay : Nat) (f : CanFrame) (s : State) : State :=
  let s := ((canRemove c f s).emit (.canFrame c f.idWord f.data)).modCan c (fun r => { r with lastNs := s.upNs })
  let (o, d) := s.canJudge c f.queue delay
  if f.aborted then canDone c f.tag canAborted false canHost 0 (canTxGood c s) else canDone c f.tag o false 0 d (canTxGood c s)

/-- An attempt ends on the bus (R351 to R353). After an error the frame is sent again, but for one that is aborted: it completes
ABORTED. -/
def canComplete (c : Nat) (a : CanAttempt) (s : State) : State :=
  if !s.canRuns c then s
  else
    match s.canNext c a.queue.val a.delay with
    | none => s
    | some f =>
      if f.late a.delay then canDone c f.tag canRefused false 0 0 (canRemove c f s)
      else if a.ok then canSent c a.delay f s
      else canTxError c (if f.aborted then canDone c f.tag canAborted false canHost 0 (canRemove c f s) else s)

/-- Frame `f` may be on the bus: the controller runs, no other frame is known to be there, and it heads its queue since before any
frame of a higher queue was posted. -/
def State.canOnBus (s : State) (c : Nat) (f : CanFrame) : Bool :=
  s.canRuns c && decide (f ∈ s.canHeads c) && (s.can c).frames.all (fun g => !g.aborted || decide (g = f))
    && (s.canHeads c).all (fun g => decide (f.queue ≤ g.queue) || decide (f.postedNs < g.postedNs))

/-- A completion word that stands in the FIFO as ON_TIME or LATE gets ALREADY_DONE (R352). -/
def alreadyDone (w : Nat) : Nat := if bit w 12 ∨ 2 < w / 8192 % 8 then w else w + 4096

/-- The latest word of a tag in a FIFO, oldest first, gets it. -/
def markDone (tag : Nat) : List Nat → List Nat
  | [] => []
  | w :: ws => if w / 65536 = tag ∧ ws.all (fun v => decide (v / 65536 ≠ tag)) then alreadyDone w :: ws else w :: markDone tag ws

/-- An abort by tag (R352). `stage` says where a frame that may be on the bus is when the abort is sampled: 0 queued, 1 on the bus,
2 its end of frame committed. Any other frame is queued. Of a frame whose end was committed before, the completion has won, as its word
in the FIFO then says. -/
def canAbort (c tag stage delay : Nat) (s : State) : State :=
  match (s.can c).frames.find? (fun f => decide (f.tag = tag % 65536)) with
  | none => s.modCan c (fun r => { r with done := markDone (tag % 65536) r.done })
  | some f =>
    if stage = 0 ∨ !s.canOnBus c f then canDone c f.tag canAborted false canHost 0 (canRemove c f s)
    else if stage = 1 then
      s.modCan c (fun r => { r with frames := r.frames.map (fun h => if h = f then { h with aborted := true } else h) })
    else
      let (o, d) := s.canJudge c f.queue delay
      let s := (canRemove c f s).emit (.canFrame c f.idWord f.data)
      canDone c f.tag o true 0 d (canTxGood c (s.modCan c (fun r => { r with lastNs := s.upNs })))

/-- The deadline of a queued frame has passed. -/
def State.canOverdue (s : State) (f : CanFrame) : Bool := !f.aborted && decide (f.postedNs + 1000000 * f.deadlineMs ≤ s.upNs)

/-- The frames of queue 3 that have not started by their deadlines (R350); `started` says that the oldest one has. -/
def State.bulkLate (s : State) (c : Nat) (started : Bool) : List CanFrame :=
  ((s.canQueue c 3).drop (b2n started)).filter s.canOverdue

/-- They are refused. -/
def bulkDeadline (c : Nat) (started : Bool) (s : State) : State :=
  s.each (fun f s => canDone c f.tag canRefused false 0 0 (canRemove c f s)) (s.bulkLate c started)

/-- 128 occurrences of 11 recessive bits end bus-off: error active, counters at 0 (R353, ISO 11898-1). -/
def busOffRecovery (c : Nat) (s : State) : State :=
  if s.rd CAN_STATUS.STATE c = 2 then ((s.wr CAN_STATUS.STATE 0 c).wr CAN_STATUS.TEC 0 c).wr CAN_STATUS.REC 0 c else s

/-- Controller `c` stops on entry to Dormant or Proof (R342, R353). -/
def canOff (c : Nat) (s : State) : State := canAbortAll canMode c (s.wr CAN_STATUS.STATE 3 c)

/-- Controller `c` starts in Hold, Commission, Recovery and Service (R342). -/
def canOn (c : Nat) (s : State) : State :=
  if s.rd CAN_STATUS.STATE c = 3 then ((s.wr CAN_STATUS.STATE 0 c).wr CAN_STATUS.TEC 0 c).wr CAN_STATUS.REC 0 c else s

end Sys2Proof.Machine
end

