-- ==== Sys2Proof/Machine/Lks.lean ====
section
/-!
DEFINITION. The Scarab pair (07_scarab_lockstep.md): faults, debug, split, rejoin.
-/
namespace Sys2Proof.Machine

/-- The pair changes its STATE, and GEN advances (R197, R216). -/
def pairGo (code : Nat) (s : State) : State := (s.wr LKS_STATUS.STATE code).inc LKS_STATUS.GEN

/-- The causes of a split (`LKS_STATUS.SPLIT_CAUSE`). -/
def splitCommand : Nat := 1
def splitDebug : Nat := 2
def splitFault : Nat := 3
def splitProof : Nat := 4

/-- Which cores are out of reset; one that is, and is not halted, runs (`LKS_STATUS`). -/
def coresOut (out0 out1 : Bool) (s : State) : State :=
  let s := { s with pair := { s.pair with out0 := out0, out1 := out1 } }
  let s := s.wrFlag LKS_STATUS.CORE0_RUN (out0 && !s.flag LKS_DBG.HALT0)
  s.wrFlag LKS_STATUS.CORE1_RUN (out1 && !s.flag LKS_DBG.HALT1)

/-- No core is halted: a reset of the cores ends their halts. -/
def clearHalts (s : State) : State := (s.wrFlag LKS_DBG.HALT0 false).wrFlag LKS_DBG.HALT1 false

/-- The pair becomes SPLIT: comparator and heartbeat monitor disabled (R193, R200, R206). -/
def pairSplitNow (cause : Nat) (out0 out1 : Bool) (s : State) : State :=
  let s := pairGo pairSplit (s.wr LKS_STATUS.SPLIT_CAUSE cause)
  let s := ((s.wrFlag LKS_STATUS.CMP_EN false).wrFlag LKS_STATUS.HB_ARMED false).wrFlag LKS_HB.ARMED false
  coresOut out0 out1 s

/-- The pair is joined: both cores run, comparator and heartbeat armed (R197, R203); the monitor waits for MDLL-A (R192). -/
def pairJoin (s : State) : State :=
  let s := pairGo pairJoined s
  let s := ((s.wrFlag LKS_STATUS.CMP_EN true).wrFlag LKS_STATUS.HB_ARMED s.mdllA).wrFlag LKS_HB.ARMED s.mdllA
  let s := coresOut true true (clearHalts s)
  ((s.wrFlag LKS_HB.LOSS_X false).wrFlag LKS_HB.LOSS_Y false).wr LKS_STATUS.SPLIT_CAUSE 0

/-- Both cores are held in reset, and the pair is in RESET (R197): on entry to Proof, and at every reset. -/
def pairToReset (s : State) : State :=
  let s := s.when (decide (s.pair.step = .image)) bankSStop
  let s := if s.rd LKS_STATUS.STATE = pairReset then s else pairGo pairReset s
  let s := ((s.wrFlag LKS_STATUS.CMP_EN false).wrFlag LKS_STATUS.HB_ARMED false).wrFlag LKS_HB.ARMED false
  let s := (coresOut false false (clearHalts s)).wr LKS_STATUS.SPLIT_CAUSE 0
  { s with pair := { s.pair with step := .idle, running := none, splitting := none } }

/-- The status of `LKS_RESULT.STATUS` for a status of a response (R216, R433). -/
def lksStatusCode : Status → Nat
  | .ok => 1 | .refusedMode => 2 | .refusedGuard => 3 | .busy => 4 | .refusedState => 5 | .failed => 6
  | .preempted => 7
  | .deferred => 0 | .refusedKind => 0 | .refusedPoint => 0 | .refusedToken => 0 | .tooEarly => 0 | .alreadyDone => 0
  | .loafEmpty => 0 | .refusedRange => 0 | .truncated => 0 | .timeout => 0 | .unknownCmd => 0 | .badLength => 0

/-- The outcome of a split or rejoin request: `LKS_RESULT`, and the response where a command asked (R434). VALID stays 0 while a
request waits and while a rejoin or a hand-over runs (R216). -/
def pairOutcome (r : PairReq) (st : Status) (reason : Nat) (s : State) : State :=
  let s := (s.inc LKS_RESULT.GEN).wrFlag LKS_RESULT.VALID (s.pair.request.isNone && s.pair.running.isNone && s.pair.splitting.isNone)
  let s := ((s.wr LKS_RESULT.OP (if r.rejoin then 2 else 1)).wr LKS_RESULT.REASON reason).wr LKS_RESULT.STATUS (lksStatusCode st)
  let s := s.wr LKS_RESULT_TAG.TAG r.tag
  match r.channel with
  | none => s
  | some ch => respond ch st reason [s.rd LKS_STATUS.STATE, s.rd LKS_STATUS.SPLIT_CAUSE, 0, 0] s

/-- A rejoin fails (R204): the pair returns to SPLIT with core 0 alone; the cause is recorded, triggers Crumb (R439), and changes no
mode. -/
def rejoinFail (c : Cause) (s : State) : State :=
  let r := s.pair.running
  let s := pairSplitNow splitFault true false (abandonAllTests (crumb 4 c.code c.block (recordCause c (s.when (decide (s.pair.step = .image)) bankSStop))))
  let s := { s with pair := { s.pair with step := .idle, running := none } }
  match r with
  | none => s
  | some r => pairOutcome r .failed 0 s

/-- The fault record: the first fault is kept, every fault is counted (R193). -/
def recordFault (f : LksFault) (s : State) : State :=
  let s := if f.comparator then s.count LKS_FAULT_CNT.N_COMPARATOR else s.count LKS_FAULT_CNT.N_LOCKSTEP
  if s.flag LKS_FAULT0.VALID then s
  else
    let s := ((s.wrFlag LKS_FAULT0.VALID true).wr LKS_FAULT0.KIND (if f.comparator then 2 else 1)).wr LKS_FAULT0.PORT f.port
    let s := ((s.wr LKS_FAULT0.HALF f.half).wr LKS_FAULT0.INSTANCE f.inst).wr LKS_FAULT0.LANE_FIRST f.lane
    ((s.wr LKS_FAULT0.N_LANES (sat 8 f.lanes)).wr LKS_FAULT1.PC f.pc).wrTime LKS_FAULT2.NS LKS_FAULT3.SEC_LO
      LKS_FAULT4.SEC_HI s.timeNs

/-- The cause of a fault: LOCKSTEP or COMPARATOR, block LKS (R75). -/
def faultCause (f : LksFault) : Cause := ⟨if f.comparator then 2 else 1, 7, 0xFF⟩

/-- The comparator sees faults: the pair is joined and MDLL-A clocks it. -/
def State.comparing (s : State) : Bool := s.flag LKS_STATUS.CMP_EN && s.mdllA

/-- A fault in the hand-over of a split wins: the split is PREEMPTED (R201). -/
def preemptSplit (s : State) : State :=
  match s.pair.splitting with
  | none => s
  | some r => pairOutcome r .preempted 0 { s with pair := { s.pair with splitting := none } }

/-- A lockstep or comparator fault (R193), or the failure of a rejoin that has not reached step 5 (R204). -/
def pairFault (f : LksFault) (s : State) : State :=
  if !s.comparing then s
  else
    let s := recordFault f s
    let c := faultCause f
    if s.pair.step = .joined then rejoinFail c s
    else raiseHold c (preemptSplit (pairSplitNow splitFault true false s))

/-- A heartbeat line shows no edge (R192): every shortcut latch is set, and COMPARATOR is recorded with port HEARTBEAT. No lane
differs; which instruction core 0 retires is open. -/
def heartbeatLoss (y : Bool) (s : State) : State :=
  if !s.flag LKS_HB.ARMED || !s.mdllA || s.clk.rcStopped then s
  else
    let s := s.upTo (fun o s => s.wrFlag SOP_CH_STATE.LATCH true o) 72
    let s := s.wrFlag (if y then LKS_HB.LOSS_Y else LKS_HB.LOSS_X) true
    pairFault ⟨true, 7, if y then 2 else 1, 0, 0xFF, 0, s.freeVal 32⟩ s.nextFree

/-- A debug halt of a core (R206). A halt of the joined pair stops both cores; one in a rejoin ends it, and the halted core stays
halted (R204). -/
def debugHalt (core1 : Bool) (s : State) : State :=
  let c : Cause := ⟨3, 7, 0xFF⟩
  let s := s.wrFlag LKS_DBG.SEEN true
  if s.joined ∧ s.pair.step ≠ .joined then
    raiseHold c (pairSplitNow splitDebug true true ((s.wrFlag LKS_DBG.HALT0 true).wrFlag LKS_DBG.HALT1 true))
  else
    let s := if core1 then (s.wrFlag LKS_DBG.HALT1 true).wrFlag LKS_STATUS.CORE1_RUN false
      else (s.wrFlag LKS_DBG.HALT0 true).wrFlag LKS_STATUS.CORE0_RUN false
    if s.pair.step = .idle then s else rejoinFail c s

/-- A halted core resumes (R207): it runs where it is out of reset; lockstep does not come back. -/
def debugResume (core1 : Bool) (s : State) : State :=
  if core1 then s.when (s.flag LKS_DBG.HALT1) (fun s => (s.wrFlag LKS_DBG.HALT1 false).wrFlag LKS_STATUS.CORE1_RUN s.pair.out1)
  else s.when (s.flag LKS_DBG.HALT0) (fun s => (s.wrFlag LKS_DBG.HALT0 false).wrFlag LKS_STATUS.CORE0_RUN s.pair.out0)

/-! ### Weevil (R194, R195) -/

/-- The number of injections of each set W1 to W7 (R194). -/
def weevilCount (w : Nat) : Nat := weevilSize w

/-- The injections of the sets before set `w`. -/
def weevilBefore : Nat → Nat
  | 0 => 0
  | w + 1 => weevilBefore w + weevilCount w

/-- A Weevil run completes in a context (1 Proof, 2 rejoin): it passes unless an injection of some set fails, which ends
it (R195). -/
def weevilRun (context : Nat) (fail : Option (Nat × Nat)) (s : State) : State :=
  let s := (s.outcome LKS_WEEVIL.GEN LKS_WEEVIL.VALID).wr LKS_WEEVIL.CONTEXT context
  match fail with
  | none =>
    ((s.wrFlag LKS_WEEVIL.PASS true).wr LKS_WEEVIL.N_DONE 2325).wr LKS_WEEVIL_FAIL.SET 0 |>.wr LKS_WEEVIL_FAIL.INDEX 0xFFFF
  | some (w, i) =>
    ((s.wrFlag LKS_WEEVIL.PASS false).wr LKS_WEEVIL.N_DONE (weevilBefore w + i + 1)).wr LKS_WEEVIL_FAIL.SET w
      |>.wr LKS_WEEVIL_FAIL.INDEX i

/-! ### Split and rejoin at the boundary (R199 to R203) -/

/-- Every output command of the pair is 0 (R199). -/
def State.noCommands (s : State) : Bool := s.outputs.commands = 0

/-- The guards of R202 for target Service: none of the bars holds. -/
def State.serviceGuard (s : State) : Bool :=
  decide (s.rd LKS_STATUS.SPLIT_CAUSE = splitCommand)
    && (decide (s.pair.splitMode = .service) || decide (s.pair.splitMode = .recovery)) && !s.pair.barred

/-- Steps 1 to 3 of an accepted split's hand-over (R200): outputs safe, Crumb with source SPLIT. The mode change is the caller's;
`old` is the mode at the split. -/
def splitHandover (old : Mode) (r : PairReq) (s : State) : State :=
  let s := abandonAllTests { s with pair := { s.pair with splitMode := old, barred := false, splitting := some r } }
  crumb 5 0 0 (pairGo pairSplitting s)

/-- Steps 4 and 5 of the hand-over, before the next tick boundary: comparator off, cores released. -/
def splitFinish (s : State) : State :=
  match s.pair.splitting with
  | none => s
  | some r => pairOutcome r .ok 0 (pairSplitNow splitCommand true true { s with pair := { s.pair with splitting := none } })

/-- Rejoin step 1: both cores stop, STATE REJOINING, then the Weevil run begins (STATE WEEVIL). -/
def rejoinStart (r : PairReq) (s : State) : State :=
  let s := pairGo pairRejoining s
  let s := pairGo pairWeevil (coresOut false false (clearHalts s))
  { (s.wrFlag LKS_WEEVIL.VALID false) with pair := { s.pair with step := .weevil, running := some r } }

/-- A rejoin request evaluated at a boundary (R202): the refusal with its reason, or the start of the rejoin. -/
def rejoinEvaluate (r : PairReq) (s : State) : State :=
  let st := s.rd LKS_STATUS.STATE
  if st = pairSplitting ∨ st = pairRejoining ∨ s.pair.step ≠ .idle then pairOutcome r .busy 0 s
  else if st ≠ pairSplit then pairOutcome r .refusedState 0 s
  else if r.target ≠ Mode.hold.code ∧ r.target ≠ Mode.commission.code ∧ r.target ≠ Mode.service.code then
    pairOutcome r .refusedMode 0 s
  else if s.mode ≠ .hold ∧ s.mode ≠ .commission then pairOutcome r .refusedMode 0 s
  else if !s.mdllA then pairOutcome r .refusedGuard 0x21 s
  else if r.target = Mode.service.code ∧ !s.serviceGuard then pairOutcome r .refusedGuard 0x20 s
  else rejoinStart r s

end Sys2Proof.Machine
end

