-- ==== Sys2Proof/Machine/Clk.lean ====
section
/-!
DEFINITION. The clocks and the Firefly domain (14_clocks.md): loss and return of each clock, the tick's source, the update
strobe of MDLL-B, the time synthesizer.
-/
namespace Sys2Proof.Machine

/-- CLK_FIREFLY and CLK_B_LOSS (R75), block CLK. -/
def causeFirefly : Cause := ⟨0x20, 1, 0xFF⟩
def causeClkB : Cause := ⟨0x21, 1, 0xFF⟩
def causeClkA : Cause := ⟨0x07, 1, 0xFF⟩

/-- The clocks' record changed. -/
def State.modClk (s : State) (f : Clocks → Clocks) : State := { s with clk := f s.clk }

/-- A monitor flag of `CLK_MON` is set, which raises vector 11 (R365, R428). -/
def setMon (f : Fld) (s : State) : State := irq 11 (s.wrFlag f true)

/-- The modes in which a gating of an MDLL counts: all but Dormant and the reset sequence (R65). -/
def State.gateCounts (s : State) : Bool := decide (s.mode ≠ .dormant) && decide (s.mode ≠ .resetSeq)

/-! ### MDLL-A (R36, R65, R102, R192, R363) -/

/-- Proof loses MDLL-A after item 1 has passed: item 1 fails, and Proof ends at the next boundary (R56, R65). -/
def proofLosesA (s : State) : State :=
  if s.mode = .proof ∧ s.itemPassed 1 then
    let s := proofFailure ⟨0x10, 1, 1⟩ (s.wr SYS_PROOF.ITEM_PASS (setBit (s.rd SYS_PROOF.ITEM_PASS) 0 false))
    { s with proof := { s.proof with finished := true } }
  else s

/-- The heartbeat monitor is armed while the pair is joined and MDLL-A runs (R192). -/
def armHeartbeat (on : Bool) (s : State) : State :=
  (s.wrFlag LKS_STATUS.HB_ARMED on).wrFlag LKS_HB.ARMED on

/-- What is posted on a ring has waited across a gating of MDLL-A (R413). -/
def Ring.wait (g : Ring) : Ring := { g with queue := g.queue.map (fun d => { d with waited := true }) }

/-- What a gating of MDLL-A does in a mode in which it counts. -/
def gateACounts (s : State) : State :=
  let s := s.count CLK_MA_STATUS.N_GATE
  let s := s.modClk (fun c => { c with gatedA := true, gateATicks := 0, gateAMode := s.mode, lossRaised := false })
  let s := { s with modes := { s.modes with toRecovery := false }, outputs := { s.outputs with commitDue := false } }
  let s := abandonAllTests (armHeartbeat false s)
  let s := chaferStop (rateToLow (endSlotNow s))
  let s := s.when (decide (s.mode = .service) || decide (s.mode = .recovery)) (saveSections .gating)
  proofLosesA (leavenTrip gfeClkA s)

/-- The output gate of MDLL-A closes. -/
def gateA (s : State) : State :=
  if !s.mdllA then s
  else
    let s := s.wrFlag CLK_STATUS.MA_QUAL false
    let s := { s with rings := s.rings.map (fun (p : Nat × Ring) => (p.1, p.2.wait)) }
    s.when s.gateCounts gateACounts

/-- MDLL-A gated for more than 10 ms is a Hold cause (R65). -/
def clkALoss (s : State) : State :=
  if s.clk.gatedA && !s.clk.lossRaised && s.gateCounts then
    raiseHold causeClkA (s.modClk (fun c => { c with lossRaised := true }))
  else s

/-- A gating that ends: its length; a Hold cause if it lasted longer than 10 ms; Recovery at the next boundary, if it began in Service or Recovery and lasted at most
10 ms (R65). -/
def endGating (us : Nat) (s : State) : State :=
  let s := s.when (decide (10000 < us)) clkALoss
  let back := (decide (s.clk.gateAMode = .service) || decide (s.clk.gateAMode = .recovery))
    && (decide (s.mode = .service) || decide (s.mode = .recovery)) && decide (us ≤ 10000) && !s.clk.lossRaised
  let s := s.wr CLK_MA_STATUS.LAST_US (sat 16 us)
  let s := (s.modClk (fun c => { c with gatedA := false, gateATicks := 0 })).when s.joined (armHeartbeat true)
  let s := s.when s.fullRateMode (fun s => chaferRestart (rateToFull s))
  { s with modes := { s.modes with toRecovery := back } }

/-- MDLL-A is lock-qualified and its gate opens, `us` microseconds after it closed (R363). -/
def qualifyA (us : Nat) (s : State) : State :=
  if s.mdllA || !s.flag CLK_STATUS.REF_OK || (decide (s.mode = .dormant) && !s.modes.waking) then s
  else
    let s := s.wrFlag CLK_STATUS.MA_QUAL true
    s.when s.clk.gatedA (endGating us)

/-! ### MDLL-B (R36, R65, R361, R362) -/

/-- The output gate of MDLL-B closes: recorded. -/
def gateB (s : State) : State :=
  if !s.mdllB then s
  else
    let s := (s.wrFlag CLK_STATUS.MB_QUAL false).modClk (fun c => { c with gateBTick := s.ticks })
    s.when s.gateCounts (recordCause causeClkB)

/-- An outcome of a strobe (R362). -/
def strobeOutcome (status tag : Nat) (s : State) : State :=
  ((s.wr CLK_MB_RESULT.STATUS status).wr CLK_MB_TAG.TAG tag).outcome CLK_MB_RESULT.GEN CLK_MB_RESULT.VALID

/-- The output gate of MDLL-B opens; a strobe that relocked it completes (R362, R363). -/
def openB (s : State) : State :=
  let s := s.wrFlag CLK_STATUS.MB_QUAL true
  if s.clk.relock then strobeOutcome 1 s.clk.strobeTag (s.modClk (fun c => { c with strobe := false, relock := false })) else s

/-- MDLL-B is lock-qualified. -/
def qualifyB (s : State) : State :=
  if s.mdllB || !s.flag CLK_STATUS.REF_OK || (decide (s.mode = .dormant) && !s.modes.waking) then s
  else openB (recGapB s.clk.gateBTick s)

/-- A strobe is written (R362). BUSY reports on the new strobe and leaves the one carried out alone. -/
def strobe (tag : Nat) (s : State) : State :=
  if s.clk.strobe then ((s.wr CLK_MB_RESULT.STATUS 4).wr CLK_MB_TAG.TAG tag).inc CLK_MB_RESULT.GEN
  else if s.mode = .proof ∨ s.mode = .dormant then strobeOutcome 3 tag s
  else if s.rd CLK_MB_SHADOW.SEL = s.rd CLK_MB_ACTIVE.SEL then strobeOutcome 1 tag s
  else (s.wrFlag CLK_MB_RESULT.VALID false).modClk (fun c => { c with strobe := true, strobeTag := tag, strobeTick := s.ticks, relock := false })

/-- The 2 ms of an accepted strobe have passed. -/
def State.strobeOver (s : State) : Bool := decide (100 ≤ s.ticks - s.clk.strobeTick)

/-- The drain of an accepted strobe ends within its 2 ms, or they pass without (R362). -/
def strobeDrainEnd (drained : Bool) (s : State) : State :=
  if !s.clk.strobe || s.clk.relock || (!drained && !s.strobeOver) then s
  else if drained && decide (s.ticks - s.clk.strobeTick ≤ 100) then
    gateB ((s.wr CLK_MB_ACTIVE.SEL (s.rd CLK_MB_SHADOW.SEL)).modClk (fun c => { c with relock := true }))
  else strobeOutcome 8 s.clk.strobeTag (s.modClk (fun c => { c with strobe := false }))

/-- A write of the shadow: ignored and flagged during a strobe (R362). -/
def writeShadow (v : Nat) (s : State) : State :=
  if s.clk.strobe then setMon CLK_MON.WR_IGN s else s.wr CLK_MB_SHADOW.SEL v

/-! ### Loss and return (R365) -/

/-- An MDLL's gate closes: A, or B. -/
def gateMdll (b : Bool) (s : State) : State := if b then gateB s else gateA s

/-- The period guard of an MDLL acts (R364). -/
def periodGuard (b : Bool) (s : State) : State :=
  if (if b then s.mdllB else s.mdllA) then
    gateMdll b (setMon (if b then CLK_MON.GUARD_B else CLK_MON.GUARD_A) s)
  else s

/-- No reference edge for 200 ns (R365). Of two causes of that clock period the lower is recorded last (log 68). -/
def refLoss (s : State) : State :=
  if !s.flag CLK_STATUS.REF_OK then s
  else
    let s := setMon CLK_MON.REF_LOSS ((s.wrFlag CLK_STATUS.REF_OK false).wrFlag CLK_STATUS.TS_QUAL false)
    wakeEvent wakeClock (guardCause gcClock (gateA (gateB s)))

/-- The seed of the dither: the loaf's, or one of the range that is open while no loaf has given one (R368). -/
def State.ditherSeed (s : State) : Nat :=
  if s.rd CLK_TS_CFG.DSEED = 0 then 1 + s.freeVal 32 % 65535 else s.rd CLK_TS_CFG.DSEED

/-- The reference is qualified: the synthesizer starts, its dither seeded anew (R368). -/
def refQualified (s : State) : State :=
  let seed := s.ditherSeed
  (s.nextFree.wrFlag CLK_STATUS.REF_OK true).modClk (fun c => { c with tsLfsr := seed })

/-- 1,024 reference periods within ±2 % (R365): MDLLs and synthesizer restart with their active settings. -/
def refBack (s : State) : State := s.when (decide (s.phase = .done) && !s.flag CLK_STATUS.REF_OK) refQualified

/-- The synthesizer loses lock (R365). -/
def tsUnlock (s : State) : State :=
  if s.flag CLK_STATUS.TS_QUAL then
    guardCause gcClock (setMon CLK_MON.TS_UNLOCK ((s.wrFlag CLK_STATUS.TS_QUAL false).count CLK_TS_STATUS.N_UNLOCK))
  else s

/-- The synthesizer is qualified; the tick takes it over at its next boundary (R369). -/
def tsQualified (s : State) : State := if s.flag CLK_STATUS.REF_OK then s.wrFlag CLK_STATUS.TS_QUAL true else s

/-- The 32.768 kHz crystal stops (R358). -/
def fxStop (s : State) : State :=
  if s.flag CLK_STATUS.FF_XTAL || s.clk.fxRuns then
    let s := setMon CLK_MON.FX_STOP (s.wrFlag CLK_STATUS.FF_XTAL false)
    recordCause causeFirefly (s.modClk (fun c => { c with fxRuns := false, fxReturn := false, fxFailed := true }))
  else s

/-- The crystal runs: FF_CLK is taken from it, unless it has failed before (R358). -/
def crystalRuns (s : State) : State :=
  (s.modClk (fun c => { c with fxRuns := true })).when (!s.clk.fxFailed) (fun s => s.wrFlag CLK_STATUS.FF_XTAL true)

/-- The crystal has run for 32,768 periods and passed its comparison: after a failure it is taken again at the next cycle boundary
(R358). -/
def crystalReturn (s : State) : State :=
  let s := crystalRuns s
  s.modClk (fun c => { c with fxReturn := !s.flag CLK_STATUS.FF_XTAL })

/-- The RC oscillator stops (R365). -/
def rcStop (s : State) : State :=
  let s := setMon CLK_MON.RC_STOP (s.modClk (fun c => { c with rcStopped := true }))
  wakeEvent wakeClock (recordCause causeFirefly s)

/-! ### The time synthesizer (R367) -/

/-- ±1,000 ppm in units of 2^-40. -/
def tsLimit : Int := 1099511627

/-- A write of `CLK_TS_FREQ`: clipped to ±1,000 ppm; the guard applies it within ±500 ppm and notes the write (R383). -/
def tsFreqWrite (v : Int) (s : State) : State :=
  let v' := clampInt (-tsLimit) tsLimit v
  let s := (s.wrS CLK_TS_FREQ.OFFSET v').when (decide (v ≠ v')) (fun s => s.wrFlag CLK_TS_STATUS.CLIP true)
  let s := s.when (decide (549755813 < v'.natAbs)) (fun s => s.wrFlag ETH_SRV_STATUS.RATE_CLAMP true)
  s.modEth (fun e => { e with written := true })

/-- The servo is inactive: holdover (R369). -/
def State.holdover (s : State) : Bool := decide (s.mode = .dormant) || decide (s.mode = .proof)

/-- In `n` ticks the applied offset moves by at most 20 ppm each toward the one that the guard applies (R367, R383). -/
def tsTicks (n : Nat) (s : State) : State :=
  if s.holdover then s
  else s.wrS CLK_TS_APPLIED.OFFSET (s.rdS CLK_TS_APPLIED.OFFSET
    + clampInt (-(21990232 * n : Nat)) (21990232 * n : Nat) (s.tsTarget - s.rdS CLK_TS_APPLIED.OFFSET))

/-! ### Each tick and each cycle -/

/-- The RC periods that the next `n` ticks last while RC steps them: 512 in 25 ticks, by the accumulator (R359). -/
def State.rcPeriods (s : State) (n : Nat) : Nat := (s.clk.rcAcc + 512 * n) / 25

/-- The time that passes in `n` ticks stepped from the reference, in femtoseconds. -/
def refTicksFs (n : Nat) : Nat := 20000000000 * n

/-- How many RC periods end in the next `n` ticks while the time clock is not qualified: as many as step them, or as many of the
measured length as the reference's ticks hold (R359, R366). None end while the RC oscillator stands. -/
def State.rcEnds (s : State) (n : Nat) : Nat :=
  if s.clk.rcStopped then 0
  else if s.flag CLK_STATUS.TICK_RC then s.rcPeriods n
  else (s.clk.rcLag + refTicksFs n) / s.clk.rcPeriod

/-- What the time base advances by in the next `n` ticks, in femtoseconds with the part below a nanosecond that it carries: 20 µs
each of the time clock; without it the measured RC period for each RC period that ends (R366). -/
def State.advanceFs (s : State) (n : Nat) : Nat :=
  s.clk.subNs % 1000000 + (if s.flag CLK_STATUS.TICK_RC || s.flag CLK_STATUS.TICK_REF then s.rcEnds n * s.clk.rcPeriod else refTicksFs n)

/-- What has passed of the RC period under way after the next `n` ticks. -/
def State.lagAfter (s : State) (n : Nat) : Nat :=
  if s.flag CLK_STATUS.TICK_REF && !s.flag CLK_STATUS.TICK_RC then (s.clk.rcLag + refTicksFs n) % s.clk.rcPeriod else 0

/-- The time base runs for `n` ticks (R366); its shift register is stepped an open number of times (R368). -/
def timeTicks (n : Nat) (s : State) : State :=
  let acc := if s.flag CLK_STATUS.TICK_RC then (s.clk.rcAcc + 512 * n) % 25 else s.clk.rcAcc
  let fs := s.advanceFs n
  let lag := s.lagAfter n
  let reg := if s.flag CLK_STATUS.REF_OK then lfsrRun (s.freeVal 16) s.clk.tsLfsr else s.clk.tsLfsr
  { s.nextFree with timeNs := s.timeNs + fs / 1000000
                    clk := { s.clk with rcAcc := acc, rcLag := lag, subNs := fs % 1000000, tsLfsr := reg } }

/-- `n` tick boundaries are stepped by the source that the flags name. -/
def stepTicks (n : Nat) (s : State) : State :=
  let s := timeTicks n s
  let s := tsTicks n { s with ticks := s.ticks + n }
  s.modClk (fun c => { c with gateATicks := if c.gatedA then c.gateATicks + n else c.gateATicks })

/-- The source of the ticks that follow is the best at this tick boundary (R359). -/
def pickSource (s : State) : State :=
  let ts := s.flag CLK_STATUS.TS_QUAL
  let s := s.wrFlag CLK_STATUS.TICK_REF (!ts && s.flag CLK_STATUS.REF_OK)
  s.wrFlag CLK_STATUS.TICK_RC (!ts && !s.flag CLK_STATUS.REF_OK)

/-- `n` tick boundaries are stepped (R359): up to the first one by the source that stepped before, from it on by the best. -/
def clkTicks (n : Nat) (s : State) : State :=
  let s := pickSource (stepTicks (min n 1) s)
  let s := s.when (decide (1 < n)) (stepTicks (n - 1))
  s.when (decide (500 < s.clk.gateATicks)) clkALoss

/-- The RC period as a cross-check has measured it, in femtoseconds: that of the deviation in 0.01 %, within its resolution, which is open
(R365, R366). -/
def State.measuredPeriod (s : State) (rcDev : Int) : Nat :=
  (9765625000000 / (10000 + clampInt (-9000) 9000 rcDev)).toNat - 48828 + s.freeVal 32 % 97657

/-- The RC oscillator measured against the reference. -/
def rcMeasured (rcDev : Int) (s : State) : State :=
  let p := s.measuredPeriod rcDev
  (s.nextFree.wrS CLK_XCHK.RC_DEV rcDev).modClk (fun c => { c with rcPeriod := p })

/-- The RC oscillator as a cycle finds it against the reference (R53, R365): beyond 3 % is recorded. -/
def rcCycle (rcDev : Int) (s : State) : State :=
  (rcMeasured rcDev s).when (decide (300 < rcDev.natAbs)) (fun s => recordCause causeFirefly (setMon CLK_MON.RC_DEV s))

/-- The reference as a cycle finds it against the crystal that runs (R53, R365): beyond 200 ppm is recorded. -/
def fxCycle (fxDev : Int) (s : State) : State :=
  (s.wr CLK_XCHK.FX_DEV (ofSigned 16 fxDev)).when (decide (200 < fxDev.natAbs))
    (fun s => recordCause causeFirefly (setMon CLK_MON.REF_DEV s))

/-- A crystal that has come back is taken at a cycle boundary, unless this boundary's comparison fails (R358). -/
def crystalTaken (measured : Bool) (fxDev : Int) (s : State) : State :=
  s.when (s.clk.fxReturn && (!measured || decide (fxDev.natAbs ≤ 200))) (fun s =>
    (s.wrFlag CLK_STATUS.FF_XTAL true).modClk (fun c => { c with fxReturn := false, fxFailed := false }))

/-- The cross-checks of a cycle (R53, R365): RC against reference in 0.01 %, reference against crystal in ppm, while the reference is
good. -/
def clkCycle (rcDev fxDev : Int) (s : State) : State :=
  let ref := s.flag CLK_STATUS.REF_OK && decide (s.phase = .done)
  let s := s.when (ref && !s.clk.rcStopped) (rcCycle rcDev)
  let measured := ref && s.clk.fxRuns
  let s := if measured then fxCycle fxDev s else s.wr CLK_XCHK.FX_DEV 0x8000
  crystalTaken measured fxDev s

end Sys2Proof.Machine
end

