-- ==== Sys2Proof/Machine/LoafTable.lean ====
section
/-!
DEFINITION. What a loaf can set (R82): for each field, the table that holds it and the range that its chapter gives.
Safety tables have numbers 1 to 9, the control part 0x10. Slice programs (table 9 and control part) come as programs.
-/
namespace Sys2Proof.Machine

/-- A field of the loaf: where it is kept, its table, its range in the field's units, and whether it is signed. -/
structure LoafRow where
  fld : Fld
  table : Nat
  lo : Int
  hi : Int
  signed : Bool
  deriving DecidableEq, Repr

/-- An unsigned field of a table with its range; a field that its width alone bounds; a signed field. -/
def loafU (t : Nat) (f : Fld) (lo hi : Nat) : LoafRow := ⟨f, t, lo, hi, false⟩
def loafW (t : Nat) (f : Fld) : LoafRow := ⟨f, t, 0, (2 ^ f.width - 1 : Nat), false⟩
def loafS (t : Nat) (f : Fld) (hi : Nat) : LoafRow := ⟨f, t, -(hi : Int), hi, true⟩

/-- Table 1: heads, tests, rail return current, recognition (R96, R98, R105, R109, R117, R118, R129). -/
def loafTable1 : List LoafRow :=
  [loafW 1 HFE_HEAD_CFG.USED, loafU 1 HFE_HEAD_CFG.F_FULL 0 15, loafU 1 HFE_HEAD_CFG.F_LOW 0 1,
   loafU 1 HFE_THR0.THR_OPEN 500 8000, loafU 1 HFE_THR0.THR_DAMP 4000 30000, loafU 1 HFE_THR1.THR_SHORT 16000 32000,
   loafU 1 HFE_THR1.SHUNT 30000 45000, loafU 1 HFE_CANC.QUIET 0 8191, loafU 1 HFE_CANC.CLIP 0 8191,
   loafU 1 HFE_TEST_CFG0.T_HST 20 600, loafU 1 HFE_TEST_CFG0.T_OFF 5 50, loafU 1 HFE_TEST_CFG0.T_RST 25 250,
   loafU 1 HFE_TEST_CFG1.DELTA_X 500 8000,
   loafW 1 HFE_RRC_CFG.USED, loafW 1 HFE_RRC_CFG.QUIET, loafW 1 HFE_RRC_CFG.SCALE] ++
  [loafU 1 HFE_CHF_CFG0.L_AB 200 2000, loafU 1 HFE_CHF_CFG0.FILT_TAPS 1 31, loafU 1 HFE_CHF_CFG0.MAG_SKEW 0 10,
   loafU 1 HFE_CHF_CFG0.N_ROCK 1 15, loafU 1 HFE_CHF_CFG1.T_DISC 10 25000, loafU 1 HFE_CHF_CFG1.HYST 0 4000,
   loafU 1 HFE_CHF_CFG2.T_QUIET 100 60000, loafU 1 HFE_CHF_CFG2.T_STAND 10 6000, loafU 1 HFE_CHF_CFG3.V_MAX 1000 5000,
   loafU 1 HFE_CHF_CFG3.LEN_MAX 50 2000, loafU 1 HFE_CHF_CFG4.A_REV 10 100, loafU 1 HFE_CHF_CFG4.TAU_D 1 600,
   loafU 1 HFE_CHF_NOM_A.FREE_NOM 1000 30000, loafU 1 HFE_CHF_NOM_A.DRIFT_LIM 500 8000,
   loafU 1 HFE_CHF_NOM_B.FREE_NOM 1000 30000, loafU 1 HFE_CHF_NOM_B.DRIFT_LIM 500 8000,
   loafU 1 HFE_CHF_POST.RING 0 7, loafU 1 LOAF_HEAD.SLICE 0 127, ⟨LOAF_COEFF.C, 1, -131072, 131071, true⟩]

/-- Tables 2 and 3: counting points and sections (R157, R162). -/
def loafTable23 : List LoafRow :=
  [loafW 2 CNT_CP_CFG.USED, loafW 2 CNT_CP_CFG.LINK, loafW 2 CNT_CP_CFG.SLOT, loafW 2 CNT_CP_CFG.FAR_ID,
   loafW 2 CNT_CP_CFG.EXPORT,
   loafU 3 CNT_SEC_CFG.N_BOUND 0 8, loafW 3 CNT_SEC_CFG.SHARED, loafW 3 CNT_SEC_CFG.LINK, loafW 3 CNT_SEC_CFG.SWEEP_OK,
   loafW 3 CNT_SEC_CFG.CONF_OK, loafU 3 CNT_SEC_CFG.N_SWEEP 1 64, loafW 3 CNT_SEC_CFG.PEER_SEC] ++
  [loafW 3 CNT_SEC_BOUND0.BND0, loafW 3 CNT_SEC_BOUND0.BND1, loafW 3 CNT_SEC_BOUND0.BND2, loafW 3 CNT_SEC_BOUND0.BND3,
   loafW 3 CNT_SEC_BOUND1.BND4, loafW 3 CNT_SEC_BOUND1.BND5, loafW 3 CNT_SEC_BOUND1.BND6, loafW 3 CNT_SEC_BOUND1.BND7,
   loafU 3 CNT_SEC_TIME0.T_PREP 10 3600, loafU 3 CNT_SEC_TIME0.T_CONF_MIN 1 60, loafU 3 CNT_SEC_TIME0.T_CONF_MAX 6 300,
   loafU 3 CNT_SEC_TIME1.T_AGREE 5 200, loafU 3 CNT_SEC_TIME1.T_LINKHOLD 1 80, loafU 3 CNT_SEC_TIME1.NEG_HOLD 2 50]

/-- Tables 4 to 8: outputs, links, the sensor band (R217, R225 to R228, R239, R119). -/
def loafTable48 : List LoafRow :=
  [loafW 4 SOP_CH_CFG.USED, loafW 4 SOP_CH_CFG.SECTION, loafW 5 HFE_SC_MASK.MASK,
   loafU 6 NBL_GLB_STATUS.OWN_ID 1 254, loafW 6 NBL_CFG.USED, loafW 6 NBL_CFG.FAR_PORT, loafU 6 NBL_CFG.FAR_ID 1 254,
   loafU 6 NBL_CFG.N_REP_TX 0 8, loafU 6 NBL_CFG.N_REP_RX 0 8, loafU 6 NBL_CFG.N_HS 0 16, loafW 6 NBL_CONTRACT.CONTRACT,
   loafW 6 LOAF_LINK.TX_POINT, loafW 6 LOAF_LINK.SHARED,
   loafU 7 SOP_TEST_CFG.T_OTEST 10 100, loafU 7 SOP_TEST_CFG.T_PULSE 10 59, loafU 7 SOP_TEST_CFG.T_STEP 5 20,
   loafU 7 SOP_TEST_CFG.T_RB 1 10, loafW 7 SOP_CH_CFG.SLOT,
   loafU 8 HFE_BAND.F_LO 20 2000, loafU 8 HFE_BAND.F_HI 20 2000]

/-- The control part: Leaven (R271, R278, R299). -/
def loafLeaven : List LoafRow :=
  [loafW 0x10 GFE_BASE.F60, loafW 0x10 GFE_BASE.TEST_RUN, loafW 0x10 GFE_BASE.ISO, loafW 0x10 GFE_BASE.AUTO_BS,
   loafW 0x10 GFE_BASE.AUTO_SYNC, loafW 0x10 GFE_BASE.SUP_ACTION, loafU 0x10 GFE_BASE.MIN_BR 1 12,
   loafU 0x10 GFE_BASE.V_BASE 100 1500,
   loafU 0x10 GFE_MACH0.H 5 3000, loafU 0x10 GFE_MACH0.M_P 0 1200, loafU 0x10 GFE_MACH1.N_Q 0 2000,
   loafU 0x10 GFE_MACH1.D 0 1000, loafU 0x10 GFE_MACH2.T_D 10 2000, loafU 0x10 GFE_MACH2.T_P 5 500,
   loafU 0x10 GFE_MACH2.T_Q 5 500, loafU 0x10 GFE_MACH3.T_ISO 1 600, loafU 0x10 GFE_MACH3.P_RAMP 1 1000,
   loafU 0x10 GFE_VIMP.R_V 0 500, loafU 0x10 GFE_VIMP.X_V 0 500, loafU 0x10 GFE_VIMP.X_VFRT 0 1000,
   loafU 0x10 GFE_LIMITS.I_LIM_CONT 100 120, loafU 0x10 GFE_LIMITS.I_LIM_FRT 100 200, loafU 0x10 GFE_LIMITS.P_LIM_SET 0 120,
   loafU 0x10 GFE_LIMITS.F_TRIP 10 100] ++
  [loafU 0x10 GFE_DC.V_DC_MIN 100 1500, loafU 0x10 GFE_DC.V_DC_MAX 100 1500,
   loafU 0x10 GFE_FRT0.V_ENTER 50 95, loafU 0x10 GFE_FRT0.V_EXIT 0 98, loafU 0x10 GFE_FRT0.FRT_DP 5 100,
   loafU 0x10 GFE_FRT0.V_HI 110 130, loafU 0x10 GFE_FRT1.T_FRT_REC 10 1000, loafU 0x10 GFE_FRT1.T_FRT_MAX 100 3000,
   loafW 0x10 GFE_FRT_PT.T, loafU 0x10 GFE_FRT_PT.VMIN 0 95,
   loafU 0x10 GFE_BS0.V_DEAD 5 30, loafU 0x10 GFE_BS0.T_DEAD 10 6000, loafU 0x10 GFE_BS0.V_LIVE 50 95,
   loafU 0x10 GFE_BS1.T_RAMP 10 1000, loafU 0x10 GFE_BS1.BACKOFF_MAX 0 25, loafU 0x10 GFE_BS1.T_BS_ILIM 10 500,
   loafU 0x10 GFE_BS2.T_LIVE 1 6000, loafU 0x10 GFE_BS2.BS_SEED 1 65535,
   loafU 0x10 GFE_SYNC0.SLEW 1 200, loafU 0x10 GFE_SYNC0.PHI_WIN 1 30, loafU 0x10 GFE_SYNC0.F_WIN 1 50,
   loafU 0x10 GFE_SYNC0.V_WIN 10 100] ++
  [loafU 0x10 GFE_SYNC1.T_QUAL 20 2000, loafU 0x10 GFE_SYNC1.T_SYNC_MAX 10 600, loafU 0x10 GFE_SYNC1.F_RAMP 1 100,
   loafU 0x10 GFE_SUP.T_SUP 10 10000,
   loafU 0x10 GFE_FF_CFG0.FF_LIM 0 50, loafU 0x10 GFE_FF_CFG0.FF_HOLD 5 600, loafU 0x10 GFE_FF_CFG0.FF_AGE 10 1000,
   loafW 0x10 GFE_FF_CFG0.FF_RING, loafW 0x10 GFE_FF_CFG1.FF_CONF_MIN, loafU 0x10 GFE_FF_CFG1.FF_RATE 1 1000,
   loafU 0x10 GFE_FF_CFG1.SOC_GAIN 0 100, loafS 0x10 GFE_FF_AMP.A 5000,
   loafW 0x10 GFE_BR_CFG.USED, loafU 0x10 GFE_BR_CFG.RATING 10 1000]

/-- The control part: PWM and power measurement (R304 to R319, R323, R324). -/
def loafPwm : List LoafRow :=
  [loafU 0x10 PWM_UPD.T_UPD 10 39, loafU 0x10 PWM_GEN_CFG0.SPAN 0 200, loafW 0x10 PWM_GEN_CFG0.DITHER_EN,
   loafU 0x10 PWM_GEN_CFG0.MODE 0 2, loafU 0x10 PWM_GEN_CFG0.F_CAR 4000 40000, loafU 0x10 PWM_GEN_CFG1.GUARD 5 200,
   loafW 0x10 PWM_GEN_CFG1.HOLD, loafU 0x10 PWM_GEN_CFG1.SEED 1 65535,
   loafW 0x10 PWM_BR_CFG0.USED, loafW 0x10 PWM_BR_CFG0.OWNER, loafW 0x10 PWM_BR_CFG0.UPD, loafU 0x10 PWM_BR_CFG0.GEN 0 11,
   loafW 0x10 PWM_BR_CFG0.PHASE, loafU 0x10 PWM_BR_CFG0.DSAT_FILT 40 120, loafW 0x10 PWM_BR_CFG0.OC_N,
   loafU 0x10 PWM_BR_CFG1.DT 1280 64000, loafU 0x10 PWM_BR_CFG1.PULSE_MIN 0 25600] ++
  [loafW 0x10 PWM_LEG_CFG.USED, loafU 0x10 PWM_LEG_CFG.BRIDGE 0 11, loafU 0x10 PWM_LEG_CFG.PHASE 0 2,
   loafW 0x10 PWM_LEG_CFG.CHANNEL,
   loafW 0x10 PMA_GRP_CFG.TRIG, loafU 0x10 PMA_GRP_CFG.GEN 0 11, loafW 0x10 PMA_GRP_CFG.BURST, loafW 0x10 PMA_GRP_CFG.OFFSET,
   loafW 0x10 PMA_CH_CFG.USED, loafU 0x10 PMA_CH_CFG.FUNC 1 6, loafU 0x10 PMA_CH_CFG.PHASE 0 2, loafW 0x10 PMA_CH_CFG.BR_MASK,
   loafU 0x10 PMA_CH_CAL.GAIN 16384 49152, loafS 0x10 PMA_CH_CAL.OFFSET 2047,
   loafS 0x10 PMA_CH_WIN0.HI 32767, loafS 0x10 PMA_CH_WIN0.LO 32767, loafW 0x10 PMA_CH_WIN1.ACTION, loafW 0x10 PMA_CH_WIN1.HYS,
   loafU 0x10 PMA_CH_WIN1.OC_FILT 0 40, loafW 0x10 PMA_CH_WIN1.LEG]

/-- The control part: metering, pack map and CAN (R329, R334, R342 to R350). -/
def loafMeter : List LoafRow :=
  [loafU 0x10 MTR_LEDGER_CFG.T_LEDGER 1 3600, loafU 0x10 MTR_LEDGER_CFG.RING 0 7,
   loafW 0x10 MTR_STR_CFG.USED, loafW 0x10 MTR_STR_CFG.I_SIGN, loafW 0x10 MTR_STR_CFG.CAL_TAG,
   loafU 0x10 MTR_STR_SCALE.VSCALE 10 2000, loafU 0x10 MTR_STR_SCALE.ISCALE 1 5000, loafW 0x10 MTR_PACK_STATUS.CTRL,
   loafU 0x10 LOAF_MTR.VGAIN 9000 11000, loafU 0x10 LOAF_MTR.IGAIN 9000 11000, loafS 0x10 LOAF_MTR.VOFF 65535,
   loafS 0x10 LOAF_MTR.IOFF 65535, loafU 0x10 LOAF_MTR.V_TOL 1 100, loafU 0x10 LOAF_MTR.I_TOL 1 100,
   loafU 0x10 LOAF_MTR.E_TOL 1 200, loafU 0x10 LOAF_MTR.E_ABS 0 1000, loafU 0x10 LOAF_MTR.T_PACK 10 10000,
   loafU 0x10 LOAF_MTR.PACK_RING 0 7] ++
  [loafW 0x10 LOAF_PACK.VALID, loafW 0x10 LOAF_PACK.EXT, loafW 0x10 LOAF_PACK.ID,
   loafW 0x10 LOAF_DESC.VALID, loafU 0x10 LOAF_DESC.KIND 1 8, loafW 0x10 LOAF_DESC.FRAME, loafW 0x10 LOAF_DESC.BIG,
   loafW 0x10 LOAF_DESC.SIGNED, loafU 0x10 LOAF_DESC.LEN 1 32, loafW 0x10 LOAF_DESC.OFF, loafW 0x10 LOAF_DESC.SCALE,
   loafW 0x10 LOAF_DESC.OFFSET, loafW 0x10 LOAF_DESC.MIN, loafW 0x10 LOAF_DESC.MAX,
   loafW 0x10 LOAF_CAN.FILT_VALID, loafW 0x10 LOAF_CAN.FILT_EXT, loafW 0x10 LOAF_CAN.FILT_ID, loafW 0x10 LOAF_CAN.FILT_MASK,
   loafU 0x10 LOAF_CAN.D_C 1 100, loafU 0x10 LOAF_CAN.D_M 1 1000, loafW 0x10 LOAF_CAN.NOMINAL, loafW 0x10 LOAF_CAN.DATA]

/-- The control part: clock, network time, rings, Crumb (R368, R371, R375, R385, R386, R396, R407, R414, R439). -/
def loafHost : List LoafRow :=
  [loafU 0x10 CLK_TS_CFG.DSEED 1 65535,
   loafW 0x10 ETH_PTP_CFG.EN, loafU 0x10 ETH_PTP_CFG.PROFILE 1 3, loafW 0x10 ETH_PTP_CFG.P2P, loafU 0x10 ETH_PTP_CFG.CLOCK 1 3,
   loafW 0x10 ETH_PTP_CFG.UDP4, loafU 0x10 ETH_PTP_CFG.DOMAIN 0 127,
   loafU 0x10 ETH_SRV_CFG0.T_J 1 1000000, loafU 0x10 ETH_SRV_CFG0.SYNC_TO 1 600, loafW 0x10 ETH_SRV_CFG1.N_ACQ,
   loafU 0x10 ETH_SRV_CFG1.ACQ_TOL 1 1000, loafU 0x10 ETH_SRV_CFG1.HO_WIDEN 0 100,
   loafW 0x10 ETH_P_CFG.USED, loafW 0x10 ETH_P_CFG.BASEX, loafW 0x10 ETH_P_CFG.PTP, loafW 0x10 ETH_P_LAT.LAT_IN,
   loafW 0x10 ETH_P_LAT.LAT_OUT, loafS 0x10 ETH_P_ASYM.ASYM 1000000] ++
  [loafU 0x10 DMA_MEM_CFG.T_SCRUB 1 168, loafW 0x10 DMA_RING_CFG.KIND, loafW 0x10 DMA_RING_CFG.OWNER,
   loafW 0x10 DMA_RING_CFG.PORT, loafU 0x10 DMA_RING_CFG.SIZE 1 4096, loafU 0x10 DMA_RING_BUDGET.DEF_DEADLINE 1 10000,
   loafW 0x10 DMA_RING_BUDGET.BUDGET,
   loafW 0x10 SNP_CFG.AUTO_LOCK, loafW 0x10 SNP_CFG.EN_JUMP, loafW 0x10 SNP_CFG.EN_LINK, loafW 0x10 SNP_CFG.EN_SECTION,
   loafW 0x10 SNP_CFG.EN_BRIDGE, loafW 0x10 SNP_CFG.EN_LEAVEN]

/-- Every field that a loaf can set; an entry of a loaf names its place in this list. -/
def loafRows : List LoafRow :=
  loafTable1 ++ loafTable23 ++ loafTable48 ++ loafLeaven ++ loafPwm ++ loafMeter ++ loafHost

end Sys2Proof.Machine
end

