-- ==== Sys2Proof/Machine/Loaf.lean ====
section
/-!
DEFINITION. Loading a loaf (Proof items 4 and 5; R51, R54, R55, R76 to R83, R92): which slot, its check values, the seal, the
checks of the decoded tables, and what the load writes.
-/
namespace Sys2Proof.Machine

/-- The slot that the next Proof loads (R51): the one a command selected, else the one the pins showed at reset. -/
def State.loafSlot (s : State) : Nat :=
  if s.flag SYS_BOOT.CMD_SEL then s.rd LOAF_SYS.CMD_SLOT else s.rd SYS_BOOT.LSEL_PIN

/-! ### Item 4 (R78, R54) -/

/-- What item 4 finds in the selected slot: no valid header, a wrong check value, or nothing. -/
inductive SlotFault where
  | empty | crc
  deriving DecidableEq, Repr

/-- The check of the selected slot in item 4; FREE_CRC is not looked at (R79). -/
def State.slotFault (s : State) (i : Nat) : Option SlotFault :=
  if !s.headerValid i then some .empty
  else if s.partGood i 0 && s.partGood i 1 then none
  else some .crc

/-! ### The safety part (R80, R81) -/

/-- A field of the prologue of slot `i`. -/
def State.prologue (s : State) (i off n : Nat) : Nat := s.flashLE (slotBase i + s.partOff i 0 + off) n

/-- The seal field is wrong: not the seal word, not the Crust word, or one of the forbidden values (R81). -/
def sealWrong (sealField word crust : Nat) : Bool :=
  decide (sealField ≠ word) || decide (sealField ≠ crust) || decide (sealField = 0) || decide (sealField = 0xFFFF)

/-- The prologue is out of range (R55, R80), or claims more slices than it says. -/
def State.prologueBad (s : State) (i : Nat) : Bool :=
  decide (64 < s.prologue i 4 1) || decide (96 < s.prologue i 5 1) || decide (32 < s.prologue i 6 1)
    || decide (8 < s.prologue i 7 1) || decide (128 < s.prologue i 8 1) || decide (16 ≤ s.prologue i 9 1)
    || decide (s.prologue i 0xA 2 = 0) || decide (2160 < s.prologue i 0xA 2) || decide (600 < s.prologue i 0xC 2)
    || decide (s.prologue i 8 1 < popcount 128 (s.prologue i 0x10 16))

/-! ### The candidate tables -/

/-- A cell key belongs to a field. -/
def Fld.owns (f : Fld) (k : Nat) : Bool := (List.range f.count).any (fun i => f.key i == k)

/-- Every field a loaf sets back at its default. -/
def clearLoaf (s : State) : State :=
  { s with regs := s.regs.filter (fun c => !(loafRows.any (fun r => r.fld.owns c.1))) }

/-- One entry stored; an entry that names no field or no element of it stores nothing. -/
def putEntry (e : LoafEntry) (s : State) : State :=
  match loafRows[e.field]? with
  | some r => if e.index < r.fld.count then s.wrS r.fld e.value e.index else s
  | none => s

/-- A value inside its field that names no leg and no channel, and is not "none" (R305, R308). -/
def noSuchIndex (f : Fld) (v : Int) : Bool :=
  (decide (f = PMA_CH_WIN1.LEG) && decide (36 ≤ v) && decide (v ≠ 63))
    || (decide (f = PWM_LEG_CFG.CHANNEL) && decide (48 ≤ v) && decide (v ≠ 63))

/-- The entry is out of its range, by its table: a shortcut mask has 72 bits in three words. -/
def entryBad (t : Nat) (e : LoafEntry) : Bool :=
  match loafRows[e.field]? with
  | some r => decide (r.table = t) && (decide (e.value < r.lo) || decide (r.hi < e.value) || decide (r.fld.count ≤ e.index)
      || noSuchIndex r.fld e.value || (decide (r.fld = HFE_SC_MASK.MASK) && decide (e.index % 3 = 2) && decide (255 < e.value)))
  | none => decide (t = 0x10)

/-- Every slice without a program. -/
def clearSlices (s : State) : State :=
  { s.upTo (fun i s => s.wr FAB_SLICE_STATE.FUNC 0 i) 128 with slices := [], routes := [] }

/-- A slice program stored (R83, R91): its class, its words, its constants from address 0 of the local memory on, and the CRC-32C
that the scrub compares (R93). What the rest of the local memory and the accumulator hold is open. -/
def putProgram (p : SliceProgram) (s : State) : State :=
  let words := p.words.map BitVec.toNat
  let consts := p.constants.map BitVec.toNat
  let rest := toBytesLE (4096 - consts.length) (s.freeVal (8 * (4096 - consts.length)))
  let t := s.nextFree
  { (t.wr FAB_SLICE_STATE.FUNC p.func.toNat p.slice.val).nextFree with
    slices := insert s.slices p.slice.val
      { program := words, memory := consts ++ rest, acc := t.freeVal 56, crc := crc32c (words.flatMap (toBytesLE 4) ++ consts) } }

/-- The entries give element `i` of a field. -/
def lists (es : List LoafEntry) (f : Fld) (i : Nat) : Bool :=
  es.any (fun e => decide (e.index = i) && (match loafRows[e.field]? with
    | some r => decide (r.fld = f)
    | none => false))

/-- The default ride-through curve (R278): milliseconds and hundredths of a per unit. -/
def frtDefault : List (Nat × Nat) := [(0, 0), (150, 30), (700, 60), (1500, 80)]

/-- The ride-through curve of a loaf: the default one where it lists no point; a point that it does not list is unused. -/
def putCurve (es : List LoafEntry) (s : State) : State :=
  if anyUpTo (lists es GFE_FRT_PT.T) 8 then
    s.upTo (fun i s => s.when (!lists es GFE_FRT_PT.T i) (fun s => s.wr GFE_FRT_PT.T 0xFFFF i)) 8
  else
    s.upTo (fun i s =>
      let p := frtDefault.getD i (0xFFFF, 0)
      (s.wr GFE_FRT_PT.T p.1 i).wr GFE_FRT_PT.VMIN p.2 i) 8

/-- The tables of a loaf as registers: defaults, entries, programs, routes, and what follows from them. -/
def candidate (es : List LoafEntry) (ps : List SliceProgram) (rs : List Route) (claim : Nat) (s : State) : State :=
  let s := putCurve es (State.each putEntry es (clearLoaf s))
  let s := { State.each putProgram ps (clearSlices s) with routes := rs, crossbar := [] }
  let s := s.upTo (fun i s => s.wrFlag CNT_CP_CFG.REMOTE (decide (96 ≤ i)) i) 128
  let s := s.upTo (fun x s => s.wrFlag CNT_SEC_CFG.USED (decide (s.rd CNT_SEC_CFG.N_BOUND x ≠ 0)) x) 64
  let s := s.upTo (fun o s => s.wrFlag SOP_CH_CFG.GENERAL (decide (64 ≤ o) && s.flag SOP_CH_CFG.USED o) o) 72
  let s := s.upTo (fun i s => s.wr FAB_SLICE_STATE.SIDE
    (if bit claim i then 1 else if 0x10 ≤ s.rd FAB_SLICE_STATE.FUNC i then 2 else 0) i) 128
  let s := s.upTo (fun r s => s.wr DMA_RING_CFG.CLASS (r / 8) r) 32
  let s := s.upTo (fun j s => s.wrFlag PWM_BR_CFG0.UPD (s.flag PWM_BR_CFG0.OWNER j) j) 12
  s.wr GFE_BASE.N_BR (countUpTo (fun j => s.flag GFE_BR_CFG.USED j) 12)

/-! ### The checks of each table -/

/-- Table 1 for a head in use: a sensor system, the recognition parameters, the slice (R96, R98, R129, R92). -/
def State.systemBad (s : State) (q : Nat) (nom : Nat) (drift : Nat) : Bool :=
  let o := s.rd HFE_THR0.THR_OPEN q
  let d := s.rd HFE_THR0.THR_DAMP q
  let sh := s.rd HFE_THR1.THR_SHORT q
  decide (o < 500) || decide (d < o + 1000) || decide (sh < d + 1000) || decide (32000 < sh)
    || decide (s.rd HFE_THR1.SHUNT q < 30000) || decide (nom < 1000)
    || decide (d ≤ nom + drift + s.rd HFE_CHF_CFG1.HYST (q / 2)) || decide (nom ≤ drift + o)

/-- The coefficient set of head `h`: symmetric, its codes summing to 131,072 ± 131. -/
def State.coeffBad (s : State) (h : Nat) : Bool :=
  let n := s.rd HFE_CHF_CFG0.FILT_TAPS h
  let c := fun k => s.rdS LOAF_COEFF.C (31 * h + k)
  let sum := ((List.range n).map c).sum
  decide (n % 2 = 0) || anyUpTo (fun k => decide (c k ≠ c (n - 1 - k))) n || decide (131 < (sum - 131072).natAbs)

/-- The slice of head `h` is no claimed recognition slice, or serves more than two heads (R92). -/
def State.headSliceBad (s : State) (h : Nat) : Bool :=
  let i := s.rd LOAF_HEAD.SLICE h
  decide (s.rd FAB_SLICE_STATE.SIDE i ≠ 1) || decide (s.rd FAB_SLICE_STATE.FUNC i ≠ funcRecognition)
    || decide (2 < countUpTo (fun g => s.headUsed g && decide (s.rd LOAF_HEAD.SLICE g = i)) 96)

/-- Table 1: heads in use; the scale of rail return current channels in use (R116); the record ring (R129). -/
def State.table1Bad (s : State) : Bool :=
  anyUpTo (fun h => s.headUsed h &&
    (s.systemBad (2 * h) (s.rd HFE_CHF_NOM_A.FREE_NOM h) (s.rd HFE_CHF_NOM_A.DRIFT_LIM h)
      || s.systemBad (2 * h + 1) (s.rd HFE_CHF_NOM_B.FREE_NOM h) (s.rd HFE_CHF_NOM_B.DRIFT_LIM h)
      || decide (s.rd HFE_CHF_CFG0.L_AB h < 200) || s.coeffBad h || s.headSliceBad h)) 96
    || anyUpTo (fun c => s.flag HFE_RRC_CFG.USED c && decide (s.rd HFE_RRC_CFG.SCALE c = 0)) 8
    || decide (s.rd DMA_RING_CFG.SIZE (s.rd HFE_CHF_POST.RING) < 256)

/-- The entries of a loaf for a field. -/
def entriesOf (f : Fld) (es : List LoafEntry) : List LoafEntry :=
  es.filter (fun e => match loafRows[e.field]? with
    | some r => decide (r.fld = f)
    | none => false)

/-- The ring of the records is not declared (R129). -/
def ringUndeclared (es : List LoafEntry) : Bool := (entriesOf HFE_CHF_POST.RING es).isEmpty

/-- A filter length is even (R129). -/
def tapsEven (es : List LoafEntry) : Bool := (entriesOf HFE_CHF_CFG0.FILT_TAPS es).any (fun e => decide (e.value % 2 = 0))

/-- A leg is assigned twice (R304). -/
def legTwice (es : List LoafEntry) : Bool :=
  let ls := entriesOf PWM_LEG_CFG.BRIDGE es
  ls.any (fun e => decide (1 < (ls.filter (fun d => decide (d.index = e.index))).length))

/-- Table 2 (R157); `locals` and `remotes` are the prologue's counts. -/
def State.table2Bad (s : State) (locals remotes : Nat) : Bool :=
  let used := fun i => s.flag CNT_CP_CFG.USED i
  anyUpTo (fun i => used i && !s.headUsed i) 96
    || anyUpTo (fun i => used i && anyUpTo (fun l => bit (s.rd CNT_CP_CFG.EXPORT i) l && !s.linkUsed l) 4) 128
    || anyUpTo (fun k =>
      let i := 96 + k
      let l := s.rd CNT_CP_CFG.LINK i
      used i && (!s.linkUsed l || decide (s.rd NBL_CFG.N_REP_RX l ≤ s.rd CNT_CP_CFG.SLOT i)
        || anyUpTo (fun m => used (96 + m) && decide (s.rd CNT_CP_CFG.LINK (96 + m) = l)
          && decide (s.rd CNT_CP_CFG.SLOT (96 + m) = s.rd CNT_CP_CFG.SLOT i)) k)) 32
    || decide (locals < countUpTo used 96) || decide (remotes < countUpTo (fun k => used (96 + k)) 32)

/-- Section `x` breaks R162. -/
def State.sectionBad (s : State) (x : Nat) : Bool :=
  let n := s.rd CNT_SEC_CFG.N_BOUND x
  let p := fun b => s.boundPoint x b % 128
  let l := s.rd CNT_SEC_CFG.LINK x
  let shared := s.flag CNT_SEC_CFG.SHARED x
  anyUpTo (fun b => !s.flag CNT_CP_CFG.USED (p b) || anyUpTo (fun c => decide (p c = p b)) b
      || (decide (96 ≤ p b) && (!shared || decide (s.rd CNT_CP_CFG.LINK (p b) ≠ l)))) n
    || decide (s.rd CNT_SEC_TIME0.T_CONF_MAX x < s.rd CNT_SEC_TIME0.T_CONF_MIN x + 5)
    || (!s.flag CNT_SEC_CFG.SWEEP_OK x && !s.flag CNT_SEC_CFG.CONF_OK x) || (shared && !s.linkUsed l)

/-- Table 3 (R162); `count` and `bound` are the prologue's N_SEC and MAX_BOUND. -/
def State.table3Bad (s : State) (count bound : Nat) : Bool :=
  anyUpTo (fun x => s.secUsed x && (s.sectionBad x || decide (bound < s.rd CNT_SEC_CFG.N_BOUND x))) 64
    || decide (count < countUpTo s.secUsed 64)

/-- Table 4 (R217): section outputs and sections in use belong to each other one by one. -/
def State.table4Bad (s : State) : Bool :=
  let maps := fun o x => s.flag SOP_CH_CFG.USED o && decide (s.rd SOP_CH_CFG.SECTION o = x)
  anyUpTo (fun o => s.flag SOP_CH_CFG.USED o && !s.secUsed (s.rd SOP_CH_CFG.SECTION o)) 64
    || anyUpTo (fun x => s.secUsed x && decide (countUpTo (fun o => maps o x) 64 ≠ 1)) 64

/-- Table 5: a shortcut mask is one of a head that is not in use, or names a channel that is not. -/
def State.table5Bad (s : State) : Bool :=
  anyUpTo (fun h => anyUpTo (fun o =>
    bit (s.rd HFE_SC_MASK.MASK (3 * h + o / 32)) (o % 32) && (!s.headUsed h || !s.flag SOP_CH_CFG.USED o)) 72) 96

/-- The shared sections of link `l` as table 6 lists them, and those that table 3 shares on it in the order of R242: ascending in the
numbers of the device with the lower identity. -/
def State.sharedList (s : State) (l : Nat) : List Nat :=
  (List.range (s.rd NBL_CFG.N_HS l)).map (fun k => s.rd LOAF_LINK.SHARED (16 * l + k))
def State.sharedOrder (s : State) (l : Nat) : List Nat :=
  let own := filterUpTo (fun x => s.secUsed x && s.flag CNT_SEC_CFG.SHARED x && decide (s.rd CNT_SEC_CFG.LINK x = l)) 64
  if s.rd NBL_CFG.FAR_ID l < s.rd NBL_GLB_STATUS.OWN_ID then
    (List.range 64).flatMap (fun n => own.filter (fun x => decide (s.rd CNT_SEC_CFG.PEER_SEC x = n)))
  else own

/-- Table 6 (R239, R242): links beyond those of the prologue; a used link without an identity at either end; a report of nothing that is exported; shared sections that are not
those of table 3 in their order. A slot may stay unassigned (R241). -/
def State.table6Bad (s : State) (links : Nat) : Bool :=
  anyUpTo (fun l => decide (s.linkUsed l ≠ bit links l) || (s.linkUsed l &&
    (anyUpTo (fun j =>
        let p := s.rd LOAF_LINK.TX_POINT (8 * l + j)
        decide (128 ≤ p) && (!s.flag CNT_CP_CFG.USED (p % 128) || decide (96 ≤ p % 128)
          || !bit (s.rd CNT_CP_CFG.EXPORT (p % 128)) l)) (s.rd NBL_CFG.N_REP_TX l)
      || decide (s.sharedList l ≠ s.sharedOrder l) || decide (s.rd NBL_GLB_STATUS.OWN_ID = 0) || decide (s.rd NBL_CFG.FAR_ID l = 0)))) 4

/-- Table 7 (R217, R225): two channels on one slot, or a slot beyond the interval. -/
def State.table7Bad (s : State) : Bool :=
  anyUpTo (fun o => s.flag SOP_CH_CFG.USED o && (decide (100 * s.rd SOP_TEST_CFG.T_OTEST ≤ s.rd SOP_CH_CFG.SLOT o)
    || anyUpTo (fun p => s.flag SOP_CH_CFG.USED p && decide (s.rd SOP_CH_CFG.SLOT p = s.rd SOP_CH_CFG.SLOT o)) o)) 72

/-- Table 8 (R119): a band is missing while a head is in use, or its frequencies stand too close. -/
def State.table8Bad (s : State) : Bool :=
  let lo := s.rd HFE_BAND.F_LO
  let hi := s.rd HFE_BAND.F_HI
  if lo = 0 ∧ hi = 0 then anyUpTo s.headUsed 96
  else decide (lo < 20) || decide (2000 < hi) || decide (100 * hi < 105 * lo)

/-! ### Slices and routes (R91, R92) -/

/-- A program is out of its range: class, words or constants, by its table. -/
def programBad (p : SliceProgram) : Bool :=
  let f := p.func.toNat
  !(if p.safety then decide (1 ≤ f) && decide (f ≤ 2) else decide (0x10 ≤ f) && decide (f ≤ 0x12))
    || decide (512 < p.words.length) || decide (4096 < p.constants.length)

/-- Some program of a table is out of range, or gives a slice a second program: of table 9 among those of table 9, of the control
part among all. -/
def programsBad (safety : Bool) (ps : List SliceProgram) : Bool :=
  ps.any (fun p => decide (p.safety = safety) && (programBad p
    || decide (1 < (ps.filter (fun q => decide (q.slice = p.slice) && (q.safety || !safety))).length)))

/-- The side of a slice: 0 unused, 1 safety, 2 control. -/
def State.sliceSide (s : State) (i : Nat) : Nat := s.rd FAB_SLICE_STATE.SIDE i

/-- A route's source is not declared. -/
def State.sourceBad (s : State) : StreamSource → Bool
  | .system q => !s.sysUsed q.val
  | .rrc c => !s.flag HFE_RRC_CFG.USED c.val
  | .pma c => !s.flag PMA_CH_CFG.USED c.val
  | .canceller => false
  | .slice i _ => decide (s.sliceSide i.val = 0)
  | .ring r => decide (s.rd DMA_RING_CFG.KIND r.val = 0)

/-- What may feed a safety slice: the head front end, a safety slice, the canceller port. -/
def State.feedsSafety (s : State) : StreamSource → Bool
  | .system _ => true
  | .rrc _ => true
  | .canceller => true
  | .slice i _ => decide (s.sliceSide i.val = 1)
  | .pma _ => false
  | .ring _ => false

/-- A route ends in a safety slice; its table is 9, else the control part. -/
def State.routeSafe (s : State) (r : Route) : Bool :=
  match r.dst with
  | .slice i _ => decide (s.sliceSide i.val = 1)
  | .canceller => false
  | .ring _ => false

/-- Rail return current samples go elsewhere than to a canceller control or a canceller-check slice (R116). -/
def State.strayRrc (s : State) (r : Route) : Bool :=
  (match r.src with
    | .rrc _ => true
    | .system _ => false | .pma _ => false | .canceller => false | .slice _ _ => false | .ring _ => false)
  && (match r.dst with
    | .slice i _ => decide (s.rd FAB_SLICE_STATE.FUNC i.val ≠ funcCanceller) && decide (s.rd FAB_SLICE_STATE.FUNC i.val ≠ funcCancellerCheck)
    | .canceller => true
    | .ring _ => true)

/-- A route breaks R92 or R116: an end is not declared, or a safety slice or the canceller port is fed by what may not feed it. -/
def State.routeBad (s : State) (r : Route) : Bool :=
  s.sourceBad r.src || s.strayRrc r ||
    (match r.dst with
    | .slice i _ => decide (s.sliceSide i.val = 0) || (decide (s.sliceSide i.val = 1) && !s.feedsSafety r.src)
    | .canceller => (match r.src with
      | .slice i _ => decide (s.rd FAB_SLICE_STATE.FUNC i.val ≠ funcCanceller)
      | .system _ => true | .rrc _ => true | .pma _ => true | .canceller => true | .ring _ => true)
    | .ring k => decide (s.rd DMA_RING_CFG.KIND k.val = 0))

/-- An input of a slice is fed twice. -/
def inputTwice (rs : List Route) (r : Route) : Bool :=
  match r.dst with
  | .slice _ _ => decide (1 < (rs.filter (fun q => decide (q.dst = r.dst))).length)
  | .canceller => false
  | .ring _ => false

/-- Some route of a table breaks R92. -/
def State.routesBad (s : State) (safety : Bool) : Bool :=
  s.routes.any (fun r => decide (s.routeSafe r = safety) && (s.routeBad r || inputTwice s.routes r))

/-- Where the table after the one at an offset of the safety part stands (R82): its 4-byte length counts the bytes after it. -/
def State.tableNext (s : State) (i off : Nat) : Nat := off + 4 + s.prologue i off 4

/-- Where the first `n` tables end: they follow the prologue in order. -/
def State.tablesEnd (s : State) (i : Nat) : Nat → Nat
  | 0 => 0x20
  | n + 1 => s.tableNext i (s.tablesEnd i n)

/-- Table `n` runs beyond the safety part. -/
def State.tableOutside (s : State) (i n : Nat) : Bool :=
  decide (s.partLen i 0 < s.tablesEnd i (n - 1) + 4) || decide (s.partLen i 0 < s.tablesEnd i n)

/-- Table 9 (R92, R118): claimed slices and safety programs belong together; a canceller needs a check. -/
def State.table9Bad (s : State) : Bool :=
  let safe := fun i => decide (s.rd FAB_SLICE_STATE.FUNC i = 1) || decide (s.rd FAB_SLICE_STATE.FUNC i = 2)
  anyUpTo (fun i => decide ((s.rd FAB_SLICE_STATE.SIDE i = 1) ≠ (safe i = true))) 128
    || (anyUpTo (fun q => s.sysUsed q && decide (s.rd HFE_CANC.CLIP q ≠ 0)) 192
      && !anyUpTo (fun i => decide (s.rd FAB_SLICE_STATE.FUNC i = funcCancellerCheck)) 128)

/-! ### The checks of the control part -/

/-- The bridges of Leaven as a mask. -/
def State.leavenMask (s : State) : Nat := mapWord (fun j => s.flag GFE_BR_CFG.USED j) 0 12

/-- R278 and R271 for a loaf that assigns bridges to Leaven. -/
def State.leavenBad (s : State) : Bool :=
  let n := s.rd GFE_BASE.N_BR
  let t := fun i => s.rd GFE_FRT_PT.T i
  (decide (0 < n) &&
    (decide (n < s.rd GFE_BASE.MIN_BR) || anyUpTo (fun j => s.flag GFE_BR_CFG.USED j && decide (s.rd GFE_BR_CFG.RATING j < 10)) 12
      || decide (s.rd GFE_BS2.BS_SEED = 0) || decide (s.rd GFE_BASE.V_BASE < 100) || decide (s.rd GFE_DC.V_DC_MIN < 100)
      || decide (s.rd GFE_DC.V_DC_MAX < 100)))
    || ((s.flag GFE_BASE.ISO && decide (s.rd GFE_MACH0.M_P ≠ 0)) || (!s.flag GFE_BASE.ISO && decide (s.rd GFE_MACH0.M_P = 0))
      || decide (s.rd GFE_VIMP.X_VFRT < s.rd GFE_VIMP.X_V) || decide (s.rd GFE_LIMITS.I_LIM_FRT < s.rd GFE_LIMITS.I_LIM_CONT)
      || decide (s.rd GFE_LIMITS.I_LIM_CONT < s.rd GFE_LIMITS.P_LIM_SET)
      || decide (s.rd GFE_FRT0.V_EXIT < s.rd GFE_FRT0.V_ENTER + 2) || decide (s.rd GFE_BS0.V_LIVE < s.rd GFE_BS0.V_DEAD + 20)
      || decide (18 * s.rd GFE_SYNC0.F_WIN < s.rd GFE_SYNC0.SLEW) || decide (t 0 = 0xFFFF)
      || anyUpTo (fun i => decide (t i ≠ 0xFFFF) && decide (s.rd GFE_FRT1.T_FRT_MAX < t i)) 8
      || anyUpTo (fun i => decide (t (i + 1) ≠ 0xFFFF) && decide (t (i + 1) ≤ t i)) 7)

/-- Channels in use with a function for bridge `j`. -/
def State.bridgeChannels (s : State) (func j : Nat) : List Nat :=
  filterUpTo (fun c => s.flag PMA_CH_CFG.USED c && decide (s.rd PMA_CH_CFG.FUNC c = func) && bit (s.rd PMA_CH_CFG.BR_MASK c) j) 48

/-- Bridge `j` in use breaks R304 or R305. -/
def State.bridgeBad (s : State) (j : Nat) : Bool :=
  let legs := fun ph => countUpTo (fun m => s.flag PWM_LEG_CFG.USED m && decide (s.rd PWM_LEG_CFG.BRIDGE m = j)
    && decide (s.rd PWM_LEG_CFG.PHASE m = ph)) 36
  let cur := s.bridgeChannels 1 j
  anyUpTo (fun ph => decide (legs ph ≠ 1)) 3 || decide (s.flag PWM_BR_CFG0.OWNER j = s.flag GFE_BR_CFG.USED j)
    || decide (cur.length < 2) || cur.any (fun c => decide (c / 8 ≠ cur.headD 0 / 8)) || (s.bridgeChannels 2 j).isEmpty
    || (s.flag PWM_GEN_CFG0.DITHER_EN (s.rd PWM_BR_CFG0.GEN j) && decide (s.rd PWM_GEN_CFG1.SEED (s.rd PWM_BR_CFG0.GEN j) = 0))
    || decide (s.rd PWM_GEN_CFG0.F_CAR (s.rd PWM_BR_CFG0.GEN j) < 4000)

/-- The converter group of a channel that Leaven uses does not run with the control step (R323). -/
def State.groupBad (s : State) (c : Nat) : Bool :=
  let f := s.rd PMA_CH_CFG.FUNC c
  let leavens := decide (f = 3) || decide (f = 4)
    || anyUpTo (fun j => bit (s.rd PMA_CH_CFG.BR_MASK c) j && s.flag GFE_BR_CFG.USED j) 12
  let u := c / 8
  s.flag PMA_CH_CFG.USED c && leavens && !(decide (s.rd PMA_GRP_CFG.TRIG u = 0)
    || (decide (s.rd PMA_GRP_CFG.TRIG u = 1) && decide (s.rd PMA_GRP_CFG.OFFSET u = 0)))

/-- PWM and power measurement (R304, R305, R323): also a Leaven bridge that is not in use, and missing bus channels. -/
def State.pwmBad (s : State) : Bool :=
  anyUpTo (fun j => (s.bridgeUsed j && s.bridgeBad j) || (s.flag GFE_BR_CFG.USED j && !s.bridgeUsed j)) 12
    || (decide (0 < s.rd GFE_BASE.N_BR) && anyUpTo (fun ph => !anyUpTo (fun c => s.flag PMA_CH_CFG.USED c
      && decide (s.rd PMA_CH_CFG.FUNC c = 3) && decide (s.rd PMA_CH_CFG.PHASE c = ph)) 48) 3)
    || (decide (0 < s.rd GFE_BASE.N_BR) && anyUpTo s.groupBad 48)

/-- Strings, rings, clock and network time (R329, R368, R371, R386, R414, R426). -/
def State.hostBad (s : State) : Bool :=
  let used := fun r => decide (s.rd DMA_RING_CFG.KIND r ≠ 0)
  anyUpTo (fun k => s.strUsed k && (decide (s.rd MTR_STR_SCALE.VSCALE k < 10) || decide (s.rd MTR_STR_SCALE.ISCALE k < 1)
      || (s.flag LOAF_PACK.VALID (4 * k) && decide (s.rd LOAF_MTR.T_PACK k < 10)))) 32
    || decide (s.rd CLK_TS_CFG.DSEED = 0) || decide (s.rd ETH_SRV_CFG1.N_ACQ = 1)
    || (s.flag ETH_PTP_CFG.UDP4 && decide (s.rd ETH_PTP_CFG.PROFILE = 3))
    || anyUpTo (fun r => used r && decide (s.rd DMA_RING_CFG.OWNER r = 2)) 16
    || anyUpTo (fun r => used r && decide (s.rd DMA_RING_CFG.OWNER r = 1)) 8
    || anyUpTo (fun k => used (8 + k) && decide (s.rd DMA_RING_BUDGET.BUDGET (8 + k) = 0)) 8
    || decide (4000 < ((List.range 8).map (fun k => if used (8 + k) then s.rd DMA_RING_BUDGET.BUDGET (8 + k) else 0)).sum)

/-- A control program in a safety slice (R92). -/
def State.controlSliceBad (s : State) : Bool :=
  anyUpTo (fun i => decide (s.rd FAB_SLICE_STATE.SIDE i = 1) && decide (0x10 ≤ s.rd FAB_SLICE_STATE.FUNC i)) 128

/-! ### The load -/

/-- The lowest INDEX of R82 that a failure of the candidate's checks gives, if one fails. -/
def State.loafIndex (s : State) (i : Nat) (es : List LoafEntry) (ps : List SliceProgram) : Option Nat :=
  let bad := fun t => es.any (entryBad t) || (decide (1 ≤ t) && decide (t ≤ 9) && s.tableOutside i t)
  let checks : List (Nat × Bool) :=
    [(0, s.prologueBad i), (1, bad 1 || ringUndeclared es || tapsEven es || s.table1Bad), (2, bad 2 || s.table2Bad (s.prologue i 5 1) (s.prologue i 6 1)),
     (3, bad 3 || s.table3Bad (s.prologue i 4 1) (s.prologue i 7 1)), (4, bad 4 || s.table4Bad), (5, bad 5 || s.table5Bad),
     (6, bad 6 || s.table6Bad (s.prologue i 9 1)), (7, bad 7 || s.table7Bad), (8, bad 8 || s.table8Bad),
     (9, bad 9 || programsBad true ps || s.routesBad true || s.table9Bad),
     (0x10, bad 0x10 || programsBad false ps || s.routesBad false || legTwice es || s.leavenBad || s.pwmBad || s.hostBad
       || s.controlSliceBad)] ++
    (List.range 12).map (fun g => (0x20 + g,
      anyUpTo (fun j => s.bridgeUsed j && decide (s.rd PWM_BR_CFG0.GEN j = g)) 12 && decide ((s.allowedSet g).isEmpty)))
  (checks.find? (fun c => c.2)).map (fun c => c.1)

/-- The Crust word is read and latched (R86). -/
def latchCrust (s : State) : State := s.wr FAB_CRUST.LATCHED s.pins.crust

/-- The proof-test status follows T_proof (R60): T_proof − 24 h, or half of a T_proof of at most 24 h in whole hours. -/
def State.dueHours (s : State) : Nat :=
  let t := s.rd SYS_PROOF_TIMER.LIMIT
  if 24 < t then t - 24 else t / 2

/-- DUE is set where the hours have reached it, and recorded as PROOF_DUE. -/
def showDue (s : State) : State :=
  if s.rd SYS_PROOF_TIMER.LIMIT ≠ 0 ∧ s.dueHours ≤ s.rd SYS_PROOF_TIMER.HOURS ∧ !s.flag SYS_PROOF.DUE then
    recordCause ⟨0x24, 0, 0xFF⟩ (s.wrFlag SYS_PROOF.DUE true)
  else s

/-- The load of slot `i` with tables that have passed: identity, prologue, slices, and what blocks take from the tables. -/
def loadLoaf (i : Nat) (s : State) : State :=
  let s := (s.wrFlag FAB_STATUS.LOADED true).wr FAB_STATUS.SLOT i
  let s := (s.wr FAB_LOAF_ID.LOAF_ID (s.hdr i 8 4)).wr FAB_LOAF_CRC_SAFE.CRC (s.partCrc i 0)
  let s := (s.wr FAB_LOAF_CRC_CTRL.CRC (s.partCrc i 1)).wr FAB_SEAL.SEAL (s.prologue i 0 2)
  let s := (s.wr SYS_BOOT.LSEL_USED i).wrFlag FAB_CRUST.CHG_DORMANT false
  let s := s.wr SYS_PROOF_TIMER.LIMIT (s.prologue i 0xA 2)
  let s := s.wr LOAF_SYS.T_REC (if s.prologue i 0xC 2 = 0 then 50 else s.prologue i 0xC 2)
  let s := s.upTo (fun k s => s.wr FAB_SLICE_STATE.FAULT 0 k) 128
  let s := (s.upTo hsupByLoaf 192).upTo barUnused 72
  let s := (s.upTo barLeg 36).upTo buildAllowed 12
  let s := (s.upTo loadStrCfg 32).modMeter (fun m => { m with interval := s.rd MTR_LEDGER_CFG.T_LEDGER })
  showDue s

/-- Proof item 5: the failures it records, with the state it leaves. On a failure the tables in force stay (R83). -/
def itemFiveLoad (es : List LoafEntry) (ps : List SliceProgram) (rs : List Route) (unread : Bool) (s : State) : List Cause × State :=
  let i := s.loafSlot
  let s := latchCrust s
  let sealField := s.prologue i 0 2
  let wrong := unread || sealWrong sealField (sealWord (s.partBytes i 0)) s.pins.crust
  let c := candidate es ps rs (s.prologue i 0x10 16) s
  let table := (c.loafIndex i es ps).map (fun n => (⟨0x16, 0x10, n⟩ : Cause))
  let fails := table.toList ++ (if wrong then [(⟨0x05, 0x10, 5⟩ : Cause)] else [])
  if fails.isEmpty then ([], loadLoaf i c) else (fails, s)

end Sys2Proof.Machine
end

