-- ==== Sys2Proof/Machine/Modes.lean ====
section
/-!
DEFINITION. The mode controller (02_modes_proof_and_hold.md): requests, transitions, what entering and leaving a mode does,
and its work at a cycle boundary.
-/
namespace Sys2Proof.Machine

/-- The record of the mode controller changed. -/
def State.modModes (s : State) (f : ModeCtl → ModeCtl) : State := { s with modes := f s.modes }

/-! ### The endpoint (R427, R448) -/

/-- The link of the endpoint is down: host-space rings abort with reason LINK. -/
def endpointLinkDown (s : State) : State :=
  ((((s.wrFlag SYS_HOST_CFG.LINK_UP false).wr SYS_HOST_CFG.SPEED 0).wr SYS_HOST_CFG.WIDTH 0).wrFlag SYS_HOST_CFG.L1 false).upTo
    (linkDownRing Desc.hostSide) 32

/-- The endpoint alone is reset: configuration, mailbox and MSI-X state. `down`: its link goes down as well. -/
def endpointReset (down : Bool) (s : State) : State :=
  let s := { s with reqBuf := [], endpoint := default, hostPort := { s.hostPort with held := [], waits := [] } }.modChannel 0
    (fun c => { c with response := [] })
  ((s.clr SYS_IRQ_PEND.VEC).clr SYS_IRQ_MASK.VEC).when down endpointLinkDown

/-! ### Mode requests (R43, R45) -/

/-- The modes from which outputs, sections and Leaven run: Service and Recovery. -/
def Mode.live : Mode → Bool
  | .service => true | .recovery => true
  | .resetSeq => false | .dormant => false | .proof => false | .hold => false | .commission => false | .reserved => false

/-- The answer to the command that asked, if one did (R434): the mode after the evaluation, and `SYS_MODE.GEN`. -/
def modeAnswer (q : ModeReq) (st : Status) (reason : Nat) (s : State) : State :=
  match q.channel with
  | none => s
  | some ch => respond ch st reason ([s.mode.code, 0] ++ toBytesLE 2 (s.rd SYS_MODE.GEN)) s

/-- The result registers take an outcome; the codes 1 to 6 of RESULT are those of R433. -/
def modeResult (q : ModeReq) (st : Status) (reason : Nat) (s : State) : State :=
  ((s.wr SYS_MODE_STATUS.RESULT st.code).wr SYS_MODE_STATUS.REASON reason).wr SYS_MODE_TAG.TAG q.tag

/-- The outcome of a request. -/
def modeOutcome (q : ModeReq) (st : Status) (reason : Nat) (s : State) : State :=
  modeAnswer q st reason ((modeResult q st reason s).outcome SYS_MODE_STATUS.GEN SYS_MODE_STATUS.VALID)

/-- No request for a mode with this code is ever accepted (R43, R45). -/
def neverTarget (target : Nat) : Bool := decide (target = 0) || decide (target = 6) || decide (7 ≤ target)

/-- A request that arrives in Proof: BUSY, or for Hold DEFERRED (R45). -/
def proofRequest (q : ModeReq) (s : State) : State :=
  if neverTarget q.target then modeOutcome q .refusedMode 0 s
  else if q.target = Mode.hold.code then
    modeOutcome q .deferred 0 (s.modModes (fun m => { m with deferredHold := some q }))
  else modeOutcome q .busy 0 s

/-- A write of `SYS_MODE_CTRL` with GO: the request waits for the next cycle boundary. One that arrives while another waits is
BUSY, and that one stands; in Proof and during a rejoin the answer comes at once (R45, R203). -/
def modeSubmit (q : ModeReq) (s : State) : State :=
  if s.modes.request.isSome then modeAnswer q .busy 0 ((modeResult q .busy 0 s).inc SYS_MODE_STATUS.GEN)
  else if s.mode = .proof then proofRequest q s
  else if s.pair.step ≠ .idle then modeOutcome q .busy 0 s
  else (s.wrFlag SYS_MODE_STATUS.VALID false).modModes (fun m => { m with request := some q })

/-- The mode that an accepted request for a target enters (R44). -/
def Mode.route (cur target : Mode) : Option Mode :=
  match cur with
  | .service => if target = .dormant ∨ target = .proof ∨ target = .hold then some target else none
  | .recovery => if target = .proof ∨ target = .hold then some target else none
  | .hold => if target = .service ∨ target = .proof then some .proof else if target = .commission then some target else none
  | .commission => if target = .service ∨ target = .proof then some .proof else if target = .hold then some target else none
  | .resetSeq => none | .dormant => none | .proof => none | .reserved => none

/-- Some section in use is OCCUPIED or PREPARED. -/
def State.sectionsBusy (s : State) : Bool :=
  anyUpTo (fun x => s.secShown secOccupied x || s.secShown secPrepared x) 64

/-- The first guard of R70 that fails; none fails with 0. A LEDGER_READ is answered within its command and is never in progress
at a boundary; when a Crumb readout is in progress is the model's choice (log 29). -/
def State.dormantGuard (s : State) : Nat :=
  if s.gfe ≠ gfeOff ∨ anyUpTo s.bridgeGates 12 then 1
  else if s.sectionsBusy then 2
  else if anyUpTo (fun q => decide (s.sysShown q = 1)) 192 then 3
  else if s.counting.request.isSome then 4
  else if s.snap.reading then 5
  else if !anyUpTo (fun k => s.wakeEnabled (k + 1)) 6 then 6
  else 0

/-! ### Leaving and entering (R42, R57, R58, R65, R66, R74) -/

/-- The mode changes: PREV, CUR, GEN, vector 2. -/
def modeGo (m : Mode) (s : State) : State :=
  irq 2 (((s.wr SYS_MODE.PREV s.mode.code).wr SYS_MODE.CUR m.code).inc SYS_MODE.GEN)

/-- The sections' states go into the retention store, unless they went there when the engine stopped. -/
def saveOnce (kind : SaveKind) (s : State) : State :=
  if s.kept.kind = .none then saveSections kind s else { s with kept := { s.kept with kind := kind } }

/-- What any change out of the present mode does: Commission ends a flash operation (R89); Service and Recovery answer a
pending section reset (R172). -/
def leaveMode (next : Mode) (s : State) : State :=
  let s := s.when (decide (s.mode = .commission)) (fun s => (flashAbort s).clr FAB_FLASH_CTRL.BOOT_UNLOCK)
  s.when (s.mode.live && !next.live) resetRefuse

/-- MDLL-A stands still on entry to a mode in which it should run: its gating is timed from now, unless it already is, and its
return will restart what it clocks (R65). -/
def awaitMdllA (s : State) : State :=
  if s.clk.gatedA then s
  else s.modClk (fun c => { c with gatedA := true, gateATicks := 0, gateAMode := s.mode, lossRaised := false })

/-- Proof is left: a pair that was not joined is split with cause PROOF (R197); the application cores run, CAN, full rate and
Chafer start (R42). -/
def leaveProof (s : State) : State :=
  let s := bankSStop s
  let st := s.rd LKS_STATUS.STATE
  let s := s.when (decide (st = pairReset) || decide (st = pairWeevil)) (pairSplitNow splitProof true false)
  let s := testProofEnd (chaferStart ({ s with appCores := .running }.upTo canOn 8)) |>.upTo sopProofEnd 72
  if s.mdllA then rateToFull s
  else awaitMdllA (chaferStop s)

/-- Dormant is left: the clocks run where the reference does; heads at full rate, Chafer restarts (R140), the converters,
CAN and the heartbeat monitor start, the link leaves L1. -/
def leaveDormant (s : State) : State :=
  let ok := s.flag CLK_STATUS.REF_OK
  let s := (s.wrFlag CLK_STATUS.MA_QUAL ok).when ok openB
  let s := if ok then chaferRestart (rateToFull s) else awaitMdllA s
  let s := s.when (ok && s.joined) (armHeartbeat true)
  let s := (s.wrFlag PMA_GLB_STATUS.RUN true).wrFlag SYS_HOST_CFG.L1 false
  { (s.upTo canOn 8).modModes (fun m => { m with waking := false }) with appCores := .running }

/-- What leaving Proof or Dormant does, for the modes that follow them. -/
def leaveStopped (s : State) : State :=
  if s.mode = .proof then leaveProof s else if s.mode = .dormant then leaveDormant s else s

/-- Hold is entered (R66). After a Proof that began in Hold, Commission or the reset sequence the sections restart (R57). -/
def enterHold (s : State) : State :=
  let restart := decide (s.mode = .proof) && (decide (s.kept.kind = .none) || decide (s.kept.kind = .restart))
  let s := leaveStopped (leaveMode .hold s)
  let s := modeGo .hold (bridgesOff (((abandonAllTests s).upTo linkToDown 4).upTo holdEndsReset 64))
  let s := s.modModes (fun m => { m with raised := [], toRecovery := false, waking := false, deferredHold := none })
  gfeModeLeft (s.when restart (fun s => publishedStill (resumeSections s)))

/-- Recovery begins: at a cycle boundary `need` is 3, else 4, so that three whole cycles pass (R63). -/
def recoveryBegin (need : Nat) (s : State) : State :=
  let s := modeGo .recovery (leaveStopped (leaveMode .recovery s))
  let s := s.modModes (fun m => { m with recoveryCycles := 0, recoveryNeed := need, tRecPassed := false, toRecovery := false })
  s.upTo linkEstablish 4

/-- Recovery is entered at a cycle boundary: its first cycle begins. -/
def enterRecovery (s : State) : State := resumeSections (recoveryBegin 3 s)

/-- Commission is entered. -/
def enterCommission (s : State) : State := (modeGo .commission (leaveMode .commission s)).upTo linkEstablish 4

/-- Service is entered. -/
def enterService (s : State) : State := modeGo .service s

/-- What Proof stops (R42, R58, R113, R124, R197, R384, R419, R448). -/
def stopForProof (s : State) : State :=
  let s := testProofBegin (recDisable (abandonAllTests (endSlotNow s)))
  let s := (rateToLow (chaferStop s)).upTo makeSuspect 192
  let s := ((pairToReset ((s.upTo linkToDown 4).upTo linkProofBegin 4)).upTo ringToIdle 32).upTo canOff 8
  endpointReset true (guardModeEntry ((bridgesOff s).wrFlag PMA_GLB_STATUS.RUN false))

/-- Proof is entered: its items start anew. -/
def enterProof (s : State) : State :=
  let old := s.mode
  let s := leaveMode .proof s
  let s := if old.live then saveOnce .proof s
    else if old = .resetSeq then s else { s with kept := { (default : Retention) with kind := .restart } }
  let s := modeGo .proof (({ stopForProof s with appCores := .inReset }.wr SYS_PROOF.ITEM_PASS 0).wrFlag CHK_STATUS.KAT_PASS false)
  let s := s.modModes (fun m => { m with autoSince := none, wakeProof := false, toRecovery := false })
  gfeModeLeft { s with proof := { ended := 0, failures := [], fromMode := old, finished := false, dramCold := s.proof.dramCold,
                                  refStart := 0, refA := 0, refB := 0 } }

/-- Dormant is entered (R42, R58, R65, R71, R339, R442). -/
def enterDormant (s : State) : State :=
  let s := saveOnce .dormant (leaveMode .dormant s)
  let s := rateToLow (chaferStop (abandonAllTests (endSlotNow s)))
  let s := (s.upTo linkToDown 4).upTo canOff 8
  let s := meterDormant (snapDisarm (guardModeEntry s))
  let s := (s.wrFlag CLK_STATUS.MA_QUAL false).wrFlag CLK_STATUS.MB_QUAL false
  let s := (armHeartbeat false s).wrFlag PMA_GLB_STATUS.RUN false
  let s := s.wrFlag SYS_HOST_CFG.L1 (s.flag SYS_HOST_CFG.LINK_UP)
  modeGo .dormant ({ s with appCores := .stopped }.modModes (fun m => { m with waking := false, toRecovery := false }))

/-! ### Requests at a boundary (R44 to R46, R199 to R203) -/

/-- HOST_HOLD, SPLIT_REQ (R75). -/
def causeHostHold : Cause := ⟨0x0A, 0, 0xFF⟩
def causeSplitReq : Cause := ⟨0x09, 7, 0xFF⟩

/-- An accepted request enters its mode. -/
def modeEnter (m : Mode) (s : State) : State :=
  match m with
  | .hold => enterHold (raiseHold causeHostHold s)
  | .proof => enterProof s
  | .commission => enterCommission s
  | .dormant => enterDormant s
  | .service => s | .recovery => s | .resetSeq => s | .reserved => s

/-- A request evaluated at a boundary (R45). -/
def modeEvaluate (q : ModeReq) (s : State) : State :=
  let target := Mode.ofCode q.target
  if neverTarget q.target then modeOutcome q .refusedMode 0 s
  else if s.mode = .proof then proofRequest q s
  else if target = s.mode then modeOutcome q .ok 0 s
  else
    match s.mode.route target with
    | none => modeOutcome q .refusedMode 0 s
    | some m =>
      let g := if m = .dormant then s.dormantGuard else 0
      if g ≠ 0 then modeOutcome q .refusedGuard g s else modeOutcome q .ok 0 (modeEnter m s)

/-- The waiting mode request is evaluated. -/
def modeRequestBoundary (s : State) : State :=
  match s.modes.request with
  | none => s
  | some q => modeEvaluate q (s.modModes (fun m => { m with request := none }))

/-- An accepted split (R199, R200): from Service or Recovery into Hold with SPLIT_REQ, in Hold recorded only, in Commission
the mode stays. The Crumb of SPLIT_REQ is the hand-over's, with source SPLIT (log 82). -/
def splitAccept (r : PairReq) (s : State) : State :=
  let old := s.mode
  let s := if old.live then enterHold (holdCause causeSplitReq (saveOnce .rejoin s))
    else s.when (decide (old = .hold)) (holdCause causeSplitReq)
  splitHandover old r { s with snap := { s.snap with latchedNow := none } }

/-- A split request evaluated at a boundary (R199). -/
def splitEvaluate (r : PairReq) (s : State) : State :=
  let st := s.rd LKS_STATUS.STATE
  if s.mode = .proof ∨ st = pairSplitting ∨ st = pairRejoining ∨ s.pair.step ≠ .idle then pairOutcome r .busy 0 s
  else if st ≠ pairJoined then pairOutcome r .refusedState 0 s
  else if !s.noCommands then pairOutcome r .refusedGuard 0x10 s
  else splitAccept r s

/-- The waiting split or rejoin request is evaluated. -/
def pairRequestBoundary (s : State) : State :=
  match s.pair.request with
  | none => s
  | some r =>
    let s := { s with pair := { s.pair with request := none } }
    if r.rejoin then rejoinEvaluate r s else splitEvaluate r s

/-- A write of `LKS_CTRL`: the request waits for the next cycle boundary; while one waits another is BUSY, and that one
stands. -/
def pairSubmit (r : PairReq) (s : State) : State :=
  if s.pair.request.isSome then
    let s := ((s.wr LKS_RESULT.OP (if r.rejoin then 2 else 1)).wr LKS_RESULT.REASON 0).wr LKS_RESULT.STATUS (lksStatusCode .busy)
    let s := (s.wr LKS_RESULT_TAG.TAG r.tag).inc LKS_RESULT.GEN
    match r.channel with
    | none => s
    | some ch => respond ch .busy 0 [s.rd LKS_STATUS.STATE, s.rd LKS_STATUS.SPLIT_CAUSE, 0, 0] s
  else { (s.wrFlag LKS_RESULT.VALID false) with pair := { s.pair with request := some r } }

/-- The guard of R202 that fails at step 5, 0 for none; the pair is joined by then. -/
def State.rejoinGuard (s : State) (target : Nat) : Nat :=
  if !s.mdllA then 0x21
  else if target = Mode.service.code ∧ ((s.pair.splitMode ≠ .service ∧ s.pair.splitMode ≠ .recovery) ∨ s.pair.barred) then 0x20
  else 0

/-- Step 5 enters the target mode (R203). -/
def rejoinTarget (target : Nat) (s : State) : State :=
  if target = Mode.service.code then enterRecovery s
  else if target = Mode.hold.code then (if s.mode = .hold then s else enterHold s)
  else if s.mode = .commission then s else enterCommission s

/-- Step 5 of a rejoin (R203): a guard that fails leaves the pair joined, in Hold. -/
def rejoinFinish (r : PairReq) (s : State) : State :=
  let s := { s with pair := { s.pair with step := .idle, running := none } }
  let g := s.rejoinGuard r.target
  if g = 0 then pairOutcome r .ok 0 (rejoinTarget r.target s)
  else pairOutcome r .refusedGuard g (if s.mode = .hold then s else enterHold s)

/-- A rejoin goes on by one of its parts at a boundary (R203, R204): Weevil run, image, step 5. -/
def rejoinBoundary (s : State) : State :=
  match s.pair.running with
  | none => s
  | some r =>
    match s.pair.step with
    | .idle => s
    | .weevil =>
      let s := weevilRun 2 r.weevilFail s
      if r.weevilFail.isSome then rejoinFail ⟨0x17, 7, 0xFF⟩ s
      else imageScan { (pairGo pairRejoining s) with pair := { s.pair with step := .image } }
    | .image =>
      let bad := r.image.bad || s.seqMeets 0 r.image.found (fun _ => true)
      let s := bankSEnd r.image.found s
      if bad then rejoinFail ⟨0x13, 0x10, 0xFF⟩ { s with pair := { s.pair with step := .idle } }
      else { (pairJoin s) with pair := { s.pair with step := .joined } }
    | .joined => rejoinFinish r s

/-- A Hold cause wins over the requests that wait (R46, R201). -/
def preemptRequests (s : State) : State :=
  let s := match s.modes.request with
    | none => s
    | some q => modeOutcome q .preempted 0 (s.modModes (fun m => { m with request := none }))
  match s.pair.request with
  | none => s
  | some r => pairOutcome r .preempted 0 { s with pair := { s.pair with request := none } }

/-! ### What a boundary finds (R63, R65, R69, R85, R86, R208) -/

/-- Item 5 of this Proof has read and latched the Crust word. -/
def State.crustLatched (s : State) : Bool :=
  s.itemEnded 5 && !s.proof.failures.any (fun c => decide (c.code = 0x1A) && decide (c.index = 5))

/-- The word at a boundary is compared with the latched one in this mode (R86). -/
def State.crustCompared (s : State) : Bool :=
  match s.mode with
  | .proof => s.crustLatched
  | .hold => true | .commission => true | .service => true | .recovery => true
  | .resetSeq => false | .dormant => false | .reserved => false

/-- A changed Crust word by the mode (R69, R86): Proof ends failed; Service and Recovery have a Hold cause; Hold and
Commission record a change of the sampled word, which bars a rejoin into Service (R202). -/
def crustDiffers (changed : Bool) (s : State) : State :=
  let differs := decide (s.rd FAB_SEAL.CRUST_LIVE ≠ s.rd FAB_CRUST.LATCHED)
  match s.mode with
  | .proof =>
    if differs && !s.proof.failures.any (fun c => decide (c.code = 5)) then
      let s := proofFailure ⟨5, 0x10, 5⟩ s
      { s with proof := { s.proof with finished := true } }
    else s
  | .service => s.when differs (raiseHold ⟨5, 0x10, 0xFF⟩)
  | .recovery => s.when differs (raiseHold ⟨5, 0x10, 0xFF⟩)
  | .hold => s.when changed (fun s => recordCause ⟨0x23, 0x10, 0xFF⟩ { s with pair := { s.pair with barred := true } })
  | .commission => s.when changed (fun s => recordCause ⟨0x23, 0x10, 0xFF⟩ { s with pair := { s.pair with barred := true } })
  | .resetSeq => s | .dormant => s | .reserved => s

/-- The Crust word is sampled and compared at a boundary (R85). -/
def crustBoundary (s : State) : State :=
  if s.mode = .dormant ∨ s.mode = .resetSeq then s
  else
    let changed := decide (s.rd FAB_SEAL.CRUST_LIVE ≠ s.pins.crust)
    let s := s.wr FAB_SEAL.CRUST_LIVE s.pins.crust
    if s.crustCompared then
      crustDiffers changed (s.when (decide (s.rd FAB_SEAL.CRUST_LIVE ≠ s.rd FAB_CRUST.LATCHED))
        (fun s => s.wrFlag FAB_CRUST.CHG_SINCE true))
    else s

/-- CYCLE_OVERRUN (R208): the cycle that ends owed a commit and none was accepted. -/
def overrunBoundary (s : State) : State :=
  if s.mode.live && s.outputs.commitDue && !s.flag SOP_COMMIT_STATUS.VALID then raiseHold ⟨4, 7, 0xFF⟩ s else s

/-- Proof has ended (R44, R45, R56): into Recovery, or into Hold with its failure or a deferred request. -/
def proofEnd (s : State) : State :=
  let deferred := s.modes.deferredHold.isSome
  let s := s.modModes (fun m => { m with deferredHold := none })
  if !s.proof.failures.isEmpty then enterHold s
  else if deferred then enterHold (raiseHold causeHostHold s)
  else enterRecovery s

/-- The periodic Proof starts at this boundary (R61). -/
def State.autoProofDue (s : State) : Bool :=
  s.mode.live && ((s.modes.wakeProof && decide (s.mode = .recovery)) ||
    (match s.modes.autoSince with
      | some c => !s.sectionsBusy || decide (3600000 ≤ s.cycles - c)
      | none => false))

/-- A request for Hold waits (R63). -/
def State.holdAsked (s : State) : Bool :=
  match s.modes.request with
  | some q => decide (q.target = Mode.hold.code)
  | none => false

/-- Recovery is complete (R63). -/
def State.recoveryDone (s : State) : Bool :=
  decide (s.mode = .recovery) && !s.holdAsked && decide (s.modes.recoveryNeed ≤ s.modes.recoveryCycles)
    && (s.modes.tRecPassed || allUpTo s.linkSettled 4) && s.modes.raised.isEmpty

/-- T_rec passes (R63). -/
def recoveryExpiry (s : State) : State :=
  if s.mode = .recovery ∧ !s.modes.tRecPassed then
    ((s.upTo linkDeclareLost 4).upTo recoveryLinkLost 64).modModes (fun m => { m with tRecPassed := true })
  else s

/-- Recovery at a boundary. -/
def recoveryBoundary (s : State) : State :=
  if s.recoveryDone then enterService s
  else s.when (decide (0 < s.rd LOAF_SYS.T_REC) && decide (100 * s.rd LOAF_SYS.T_REC ≤ s.modes.recoveryCycles)) recoveryExpiry

/-- The transitions that wait for no request. -/
def ownTransitions (s : State) : State :=
  if s.modes.toRecovery && s.mode.live && s.mdllA then enterRecovery s
  else if s.autoProofDue then enterProof s
  else if s.mode = .recovery then recoveryBoundary s
  else s

/-- The mode controller's work at a boundary without a Hold cause. In Dormant requests wait for Recovery (R45). That a waiting
request goes before a periodic Proof that is due at the same boundary is the model's choice (log 65). -/
def modeWork (s : State) : State :=
  match s.mode with
  | .resetSeq => s | .dormant => s | .reserved => s
  | .proof =>
    let s := pairRequestBoundary (modeRequestBoundary s)
    if s.proof.finished then proofEnd s else s
  | .hold => pairRequestBoundary (rejoinBoundary (modeRequestBoundary s))
  | .commission => pairRequestBoundary (rejoinBoundary (modeRequestBoundary s))
  | .service =>
    let g := s.rd SYS_MODE.GEN
    let s := pairRequestBoundary (modeRequestBoundary s)
    if s.rd SYS_MODE.GEN = g ∧ s.modes.raised.isEmpty then ownTransitions s else s
  | .recovery =>
    let g := s.rd SYS_MODE.GEN
    let s := pairRequestBoundary (modeRequestBoundary s)
    if s.rd SYS_MODE.GEN = g ∧ s.modes.raised.isEmpty then ownTransitions s else s

/-- A Hold cause that has arisen in Hold since the last boundary wins over the requests that wait (R46, R201). -/
def holdCauseBoundary (s : State) : State :=
  let won := s.modes.holdCause && decide (s.mode = .hold)
  (s.modModes (fun m => { m with holdCause := false })).when won preemptRequests

/-- The mode controller at a cycle boundary (R44, R46): a cause raised before makes the mode Hold; a cause that the boundary
itself finds wins over the requests; else these are evaluated. -/
def modeBoundary (s : State) : State :=
  let s := holdCauseBoundary s
  let s := s.when (decide (s.mode = .recovery)) (fun s => s.modModes (fun m => { m with recoveryCycles := m.recoveryCycles + 1 }))
  if s.modes.raised.isEmpty then
    let s := overrunBoundary (crustBoundary s)
    if s.modes.raised.isEmpty then modeWork s else preemptRequests s
  else crustBoundary (enterHold (preemptRequests s))

/-! ### Wake (R73, R74, R86) -/

/-- MDLL-A is qualified after a wake: Recovery, and Hold at once where the Crust changed meanwhile. The sections resume with the first
whole cycle. -/
def wakeRecovery (s : State) : State :=
  if s.mode = .dormant ∧ s.modes.waking ∧ s.flag CLK_STATUS.REF_OK ∧ s.modes.raised.isEmpty then
    let s := recoveryBegin 4 s
    s.when (s.flag FAB_CRUST.CHG_DORMANT) (raiseHold ⟨5, 0x10, 0xFF⟩)
  else s

/-! ### The proof-test timer (R59 to R61) -/

/-- T_proof expires: a start by itself waits in Service and Recovery, Dormant wakes, Hold and Commission are overdue. That an expiry
in Proof or in the reset sequence has no effect is the model's choice (log 65). -/
def tProofExpiry (s : State) : State :=
  match s.mode with
  | .service => s.when s.modes.autoSince.isNone (fun s => s.modModes (fun m => { m with autoSince := some s.cycles }))
  | .recovery => s.when s.modes.autoSince.isNone (fun s => s.modModes (fun m => { m with autoSince := some s.cycles }))
  | .dormant => wakeEvent wakeTProof (s.modModes (fun m => { m with wakeProof := true }))
  | .hold => if s.flag SYS_PROOF.OVERDUE then s else recordCause ⟨0x25, 0, 0xFF⟩ (s.wrFlag SYS_PROOF.OVERDUE true)
  | .commission => if s.flag SYS_PROOF.OVERDUE then s else recordCause ⟨0x25, 0, 0xFF⟩ (s.wrFlag SYS_PROOF.OVERDUE true)
  | .resetSeq => s | .proof => s | .reserved => s

/-- Another hour since the last passed Proof. -/
def proofHour (s : State) : State :=
  let s := showDue (s.count SYS_PROOF_TIMER.HOURS)
  s.when (decide (s.rd SYS_PROOF_TIMER.HOURS = s.rd SYS_PROOF_TIMER.LIMIT)) tProofExpiry

/-- The periodic Proof starts (R61). -/
def autoProof (hourOver : Bool) (s : State) : State :=
  if s.mode.live ∧ s.modes.autoSince.isSome ∧ s.modes.raised.isEmpty ∧ (!s.sectionsBusy ∨ hourOver) then enterProof s else s

end Sys2Proof.Machine
end

