-- ==== Sys2Proof/Machine/Sop.lean ====
section
/-!
DEFINITION. Safety outputs (08_safety_outputs.md): commit, release, unlock, tests, readback.
-/
namespace Sys2Proof.Machine

/-! ### Commands (R220 to R222) -/

/-- The 72 staged command bits of `SOP_CMD0` to `SOP_CMD2`. -/
def State.stagedCommands (s : State) : Nat :=
  s.rd SOP_CMD.CMD 0 + 2 ^ 32 * s.rd SOP_CMD.CMD 1 + 2 ^ 64 * (s.rd SOP_CMD.CMD 2 % 256)

/-- The 72 staged release bits. -/
def State.stagedReleases (s : State) : Nat :=
  s.rd SOP_REL.REL 0 + 2 ^ 32 * s.rd SOP_REL.REL 1 + 2 ^ 64 * (s.rd SOP_REL.REL 2 % 256)

/-- The first condition of R26: a section output's section is CLEAR; a general output is commanded energised. -/
def State.releaseOwn (s : State) (o : Nat) : Bool :=
  if s.flag SOP_CH_CFG.GENERAL o then bit s.outputs.commands o else s.outSectionClear o

/-- R26 permits the release of the latch of output `o` now. -/
def State.releasePermitted (s : State) (o : Nat) : Bool :=
  s.chanUsed o && s.releaseOwn o && !s.mappedCrossing o && (s.chan o).prevMet

/-- A staged release applied at the commit where R26 permits it (R222). -/
def applyRelease (rel : Nat) (o : Nat) (s : State) : State :=
  if bit rel o && s.releasePermitted o then s.wrFlag SOP_CH_STATE.LATCH false o else s

/-- How many commands of section outputs the hardware masks by R221. -/
def State.maskedCount (s : State) (cmds : Nat) : Nat :=
  countUpTo (fun o => bit cmds o && s.chanUsed o && !s.flag SOP_CH_CFG.GENERAL o && !s.outSectionClear o) 72

/-- A split-switch test runs on channel `o`. -/
def State.splitRuns (s : State) (o : Nat) : Bool :=
  decide ((s.chan o).test = .stepH) || decide ((s.chan o).test = .gap) || decide ((s.chan o).test = .stepL)

/-- A demand to energise abandons a split-switch test (R229): every term but the test term is true. -/
def demandAbandon (o : Nat) (s : State) : State := s.when (s.splitRuns o && s.baseTerm o) (outTestAbandon true o)

/-- The commit time in `LKS_CMD_TIME` (R208). -/
def recordCommitTime (us : Nat) (s : State) : State :=
  let s := s.wr LKS_CMD_TIME.LAST (sat 12 us)
  let s := s.wr LKS_CMD_TIME.MAX (max (s.rd LKS_CMD_TIME.MAX) (sat 12 us))
  s.when (200 < us) (fun s => s.count LKS_CMD_TIME.N_LATE)

/-- An accepted commit (R220): the staged commands take effect, the releases are applied, masked commands are counted. -/
def acceptCommit (gen us : Nat) (s : State) : State :=
  let cmds := s.stagedCommands
  let rel := s.stagedReleases
  let s := s.count SOP_COMMIT_STATUS.MASKED 0 (s.maskedCount cmds)
  let s := { s with outputs := { s.outputs with commands := cmds } }
  let s := s.upTo (applyRelease rel) 72
  let s := ((s.wr SOP_REL.REL 0 0).wr SOP_REL.REL 0 1).wr SOP_REL.REL 0 2
  let s := ((s.wr SOP_COMMIT_STATUS.GEN gen).wrFlag SOP_COMMIT_STATUS.VALID true).wr SOP_COMMIT_STATUS.RESULT 1
  recordCommitTime us ((breakPulses s).upTo demandAbandon 72)

/-- A write of `SOP_COMMIT` with GO: refused as STALE or REPEAT, or accepted (R220). A stale second commit is STALE. -/
def sopCommit (gen us : Nat) (s : State) : State :=
  if gen ≠ s.rd CNT_CYCLE.GEN then s.wr SOP_COMMIT_STATUS.RESULT 2
  else if s.flag SOP_COMMIT_STATUS.VALID then s.wr SOP_COMMIT_STATUS.RESULT 3
  else acceptCommit gen us s

/-! ### Unlocking (R230) -/

/-- A write of `SOP_UNLOCK` with GO: faults 0x4 and 0x5 alone unlock, when the channel is de-energised and a split-switch
test has passed since the fault. -/
def sopUnlock (o : Nat) (s : State) : State :=
  let c := s.chan o
  if o < 72 ∧ s.chanUsed o ∧ c.faults ≠ 0 ∧ c.faults % 8 = 0 ∧ c.splitPassed ∧ !s.energised o then
    ((s.modChan o (fun c => { c with faults := 0, splitPassed := false })).wr SOP_CH_STATE.FAULT 0 o).wr
      SOP_GLB_STATUS.UNLOCK_RES 1
  else s.wr SOP_GLB_STATUS.UNLOCK_RES 3

/-! ### Tests (R224 to R229) -/

/-- The modes in which tests run, with MDLL-A qualified (R225). -/
def State.testsRun (s : State) : Bool :=
  s.mdllA && (match s.mode with
    | .recovery => true | .service => true | .hold => true | .commission => true
    | .resetSeq => false | .dormant => false | .proof => false | .reserved => false)

/-- The test interval in cycles (R225). -/
def State.tOtest (s : State) : Nat := s.rd SOP_TEST_CFG.T_OTEST * 100

/-- No test action has run in this cycle, and none is running (R225: at most one per cycle). -/
def State.actionFree (s : State) : Bool :=
  decide (s.outputs.actionCycle ≠ s.cycles + 1) && !anyUpTo (fun o => s.testing o) 72

/-- The test action of this cycle is taken. -/
def takeAction (s : State) : State := { s with outputs := { s.outputs with actionCycle := s.cycles + 1 } }

/-- This cycle is channel `o`'s slot; some channel's (R225). -/
def State.inSlot (s : State) (o : Nat) : Bool := s.chanUsed o && decide (s.cycles % s.tOtest = s.rd SOP_CH_CFG.SLOT o)
def State.someSlot (s : State) : Bool := anyUpTo s.inSlot 72

/-- The test window opens in this tick: 250 µs after the cycle boundary (R225, R228). -/
def State.windowOpens (s : State) : Bool := decide (s.ticks % 50 = 12)

/-- The running part of channel `o`'s test has lasted `us` microseconds, to a tick. -/
def State.testLasted (s : State) (o us : Nat) : Bool := decide (us ≤ 20 * (s.ticks - (s.chan o).testTick) + 20)

/-- What a part that began with the test window has lasted beyond the ticks since the one before it: the window opens half a tick
after a tick boundary (R225). -/
def windowLag : Nat := 10

/-- A test starts: `SOP_CH_TEST.VALID` is 0 while it runs. -/
def startOutTest (o : Nat) (k : OutTestKind) (s : State) : State :=
  noteGates o (((takeAction s).wrFlag SOP_CH_TEST.VALID false o).modChan o
    (fun c => { c with test := k, testTick := s.ticks, broken := false }))

/-- In its slot an energised channel starts an OFF pulse on the gate whose turn it is (R225, R226). -/
def offPulse (o : Nat) (s : State) : State :=
  if s.testsRun && s.windowOpens && s.inSlot o && s.actionFree && s.energised o then
    startOutTest o (if s.flag SOP_CH_STATE.NEXT_L o then .pulseL else .pulseH) s
  else s

/-- The fault of a test row of R219 from the readbacks: rows 3 and 6 expect both low. -/
def rowLowLow (som sov : Bool) : Nat := if sov then 1 else if som then 2 else 0

/-- Rows 4 and 5 expect `SOM` high and `SOV` low. -/
def rowHighLow (som sov : Bool) : Nat := if sov then 3 else if !som then 4 else 0

/-- Row 2 expects both high. -/
def rowHighHigh (som sov : Bool) : Nat := if !som then 4 else if !sov then 5 else 0

/-- T_PULSE ends: INTERRUPTED where another term went false, else the readbacks of rows 3 or 4 are judged (R219, R229). -/
def offPulseEnd (o : Nat) (som sov : Bool) (s : State) : State :=
  let c := s.chan o
  if (decide (c.test = .pulseH) || decide (c.test = .pulseL)) && s.testLasted o (5 * s.rd SOP_TEST_CFG.T_PULSE + windowLag) then
    if c.broken || !s.baseTerm o then (outTestFinish o c.test.code 0xF .none s).count SOP_CH_CNT.INTERRUPT o
    else
      let f := if c.test = .pulseH then rowLowLow som sov else rowHighLow som sov
      let s := outTestCompleted o (outTestFinish o c.test.code f .none s)
      let s := (s.inc SOP_CH_CNT.PULSES o).wrFlag SOP_CH_STATE.NEXT_L (c.test = .pulseH) o
      lockChannel o f s
  else s

/-- A locked channel may still be tested where its faults are 0x4 and 0x5 alone (R225, R230). -/
def State.splitTestable (s : State) (o : Nat) : Bool :=
  s.chanUsed o && decide ((s.chan o).faults % 8 = 0) && !s.energised o

/-- A split-switch test that falls due in a mode in which tests do not run is deferred (R225). -/
def deferDue (o : Nat) (s : State) : State := s.when (!s.testsRun && s.inSlot o && s.splitTestable o) (deferSplitTest o)

/-- The test at the head of the queue is taken; where its channel cannot be tested by then it is dropped (R225). -/
def takeDeferred (o : Nat) (s : State) : State :=
  let s := { s with outputs := { s.outputs with deferred := s.outputs.deferred.tail } }
  if s.splitTestable o then startOutTest o .stepH s else s

/-- A de-energised channel starts a split-switch test in its slot, or, in a cycle that is no channel's slot, from the head of the
queue; where tests do not run it is deferred (R225, R227). -/
def splitSwitchTest (o : Nat) (s : State) : State :=
  if !s.testsRun then deferDue o s
  else if !s.windowOpens || !s.actionFree then s
  else if s.inSlot o then (if s.splitTestable o then startOutTest o .stepH s else s)
  else if !s.someSlot && s.outputs.deferred.head? == some o then takeDeferred o s
  else s

/-- The lower of two fault codes, of which 0 is none. -/
def lowerFault (a b : Nat) : Nat := if a = 0 then b else if b = 0 then a else min a b

/-- The end of step L of a split-switch test: steps H and L are judged by rows 5 and 6, the lowest code locks (R219, R227). An
abandon sequence ends here too, once its 48 µs have passed to a tick (R229). -/
def splitSwitchTestEnd (o : Nat) (somH sovH somL sovL : Bool) (s : State) : State :=
  match (s.chan o).test with
  | .stepL =>
    if !s.testLasted o (10 * s.rd SOP_TEST_CFG.T_STEP) then s
    else
      let a := rowHighLow somH sovH
      let b := rowLowLow somL sovL
      let f := lowerFault a b
      let s := outTestCompleted o (outTestFinish o 3 f .none s)
      let s := s.when (f = 0) (fun s => s.modChan o (fun c => { c with splitPassed := true }))
      lockChannel o b (lockChannel o a s)
  | .abandon => s.when (decide ((s.chan o).abandonTicks ≤ 1)) (fun s => s.modChan o (fun c => { c with test := .none, abandonTicks := 0 }))
  | _ => s

/-- No test of a channel in use has completed for 2 × T_OTEST (R225). -/
def State.testOverdue (s : State) (o : Nat) : Bool := s.chanUsed o && decide (2 * s.tOtest ≤ s.cycles - (s.chan o).lastTest)

/-- TEST_LATE of a channel in use (R225). -/
def outputTestLate (o : Nat) (s : State) : State := s.when (s.testOverdue o) (fun s => s.wrFlag SOP_CH_STATE.TEST_LATE true o)

/-! ### Readback (R219) -/

/-- The filtered readback levels are taken, and the tick of the last gate change is noted. -/
def noteReadback (som sov : Nat) (o : Nat) (s : State) : State :=
  noteGatesAt s.ticks o ((s.wrFlag SOP_CH_STATE.SOM (bit som o) o).wrFlag SOP_CH_STATE.SOV (bit sov o) o)

/-- T_RB has passed since the last change of a gate of channel `o` (R219). -/
def State.readbackDue (s : State) (o : Nat) : Bool := decide (s.rd SOP_TEST_CFG.T_RB * 5 ≤ s.ticks - (s.chan o).gateTick)

/-- The continuous rows 1 and 2 at a tick, once T_RB has passed since the last gate change, in an interrupted pulse too (R219, R223).
The rows of a channel under item 10 are the item's (R231). -/
def readbackCheck (o : Nat) (s : State) : State :=
  if s.chanUsed o && decide ((s.chan o).test.code ≠ 4) && s.readbackDue o then
    let som := s.flag SOP_CH_STATE.SOM o
    let sov := s.flag SOP_CH_STATE.SOV o
    if s.soh o && s.sol o then lockChannel o (rowHighHigh som sov) s
    else if !s.soh o && !s.sol o then lockChannel o (if som then 2 else 0) (lockChannel o (if sov then 1 else 0) s)
    else s
  else s

/-- A split-switch test goes on: from step H to the gap of one tick, and to step L (R227). -/
def splitAdvance (o : Nat) (s : State) : State :=
  let dt := 20 * (s.ticks - (s.chan o).testTick)
  match (s.chan o).test with
  | .stepH => s.when (decide (10 * s.rd SOP_TEST_CFG.T_STEP + windowLag ≤ dt)) (fun s => s.modChan o (fun c => { c with test := .gap, testTick := s.ticks }))
  | .gap => s.when (decide (20 ≤ dt)) (fun s => s.modChan o (fun c => { c with test := .stepL, testTick := s.ticks }))
  | _ => s

/-- An abandon sequence counts down (48 µs: three ticks at most). -/
def abandonCountdown (o : Nat) (s : State) : State :=
  let c := s.chan o
  if c.test = .abandon then
    s.modChan o (fun c => if c.abandonTicks ≤ 1 then { c with test := .none, abandonTicks := 0 }
      else { c with abandonTicks := c.abandonTicks - 1 })
  else s

/-! ### At the cycle boundary, at a reset and at the loaf's load -/

/-- The conditions of R26 of the cycle that ends, kept for the next one; a crossing that goes on falls in the next one too. Late
tests, and a slot that falls where tests do not run (R225). -/
def sopCycleChannel (o : Nat) (s : State) : State :=
  let own := if s.flag SOP_CH_CFG.GENERAL o then bit s.outputs.commands o && s.flag SOP_COMMIT_STATUS.VALID
    else s.outSectionClear o
  let now := s.mappedCrossing o
  let met := s.chanUsed o && own && !(s.chan o).crossed && !now
  let judged := decide (s.mode ≠ .proof) && decide (s.mode ≠ .resetSeq)
  deferDue o ((s.modChan o (fun c => { c with prevMet := met, crossed := now })).when judged (outputTestLate o))

/-- The outputs at a cycle boundary, before the publication: R26's conditions, late tests, and the missing commit. -/
def sopCycle (s : State) : State := (s.upTo sopCycleChannel 72).wrFlag SOP_COMMIT_STATUS.VALID false

/-! ### Proof item 10 (R230, R231) -/

/-- The part of item 10 that runs, as the test of its channel. -/
def itemKind (part : Nat) : OutTestKind := if part = 1 then .itemH else if part = 3 then .itemL else .check

/-- How long a part of item 10 lasts, in µs: a check 1 ms, a step T_STEP. -/
def State.partUs (s : State) (part : Nat) : Nat := if part = 1 ∨ part = 3 then 10 * s.rd SOP_TEST_CFG.T_STEP else 1000

/-- A part of item 10 begins at a tick. -/
def itemTenPart (r : ItemTen) (s : State) : State :=
  let s := s.modChan r.channel (fun c => { c with test := itemKind r.part, testTick := s.ticks })
  noteGatesAt s.ticks r.channel { s with outputs := { s.outputs with item := some r } }

/-- A run of item 10 on channel `o` begins: `SOP_CH_TEST.VALID` is 0 while it lasts. -/
def itemTenRun (again : Bool) (o : Nat) (s : State) : State := itemTenPart ⟨o, again, 0, 0⟩ (s.wrFlag SOP_CH_TEST.VALID false o)

/-- The next channel in use from `o` on is tested; without one item 10 has run (R231). -/
def itemTenFrom (o : Nat) (s : State) : State :=
  match (List.range 72).find? (fun k => decide (o ≤ k) && s.chanUsed k) with
  | some k => itemTenRun false k s
  | none => { s with outputs := { s.outputs with item := none } }

/-- Item 10 passes channel `o`: it is unlocked (R230). -/
def itemTenPass (o : Nat) (s : State) : State := (s.modChan o (fun c => { c with faults := 0 })).wr SOP_CH_STATE.FAULT 0 o

/-- A run ends: a channel without a mismatch is unlocked; one with a mismatch is tested once more, and a mismatch in the repeat locks it and
is named (R54, R230, R231). -/
def itemTenRunEnd (r : ItemTen) (s : State) : State :=
  let s := outTestCompleted r.channel (outTestFinish r.channel 4 r.fault .none s)
  if r.fault = 0 then itemTenFrom (r.channel + 1) (itemTenPass r.channel s)
  else if r.again then itemTenFrom (r.channel + 1) (recordCause ⟨0x22, 4, r.channel⟩ (lockChannel r.channel r.fault s))
  else itemTenRun true r.channel s

/-- The fault that the readbacks of a tick show in a part of item 10: row 1 at every tick of a check once T_RB has passed since the last
gate change; row 5 or 6 once, at the end of a step (R219, R231). -/
def State.partFault (s : State) (r : ItemTen) (ended : Bool) : Nat :=
  let som := s.flag SOP_CH_STATE.SOM r.channel
  let sov := s.flag SOP_CH_STATE.SOV r.channel
  if r.part = 1 then (if ended then rowHighLow som sov else 0)
  else if r.part = 3 then (if ended then rowLowLow som sov else 0)
  else if s.readbackDue r.channel then rowLowLow som sov else 0

/-- Item 10 at a tick, with the readbacks taken: the running part is judged, and at its end the next one begins (R231). -/
def itemTenTick (s : State) : State :=
  match s.outputs.item with
  | some r =>
    if s.itemRuns 10 && decide ((s.chan r.channel).test.code = 4) then
      let ended := decide (s.partUs r.part ≤ 20 * (s.ticks - (s.chan r.channel).testTick))
      let r := { r with fault := lowerFault r.fault (s.partFault r ended) }
      if !ended then { s with outputs := { s.outputs with item := some r } }
      else if r.part = 4 then itemTenRunEnd r s
      else itemTenPart { r with part := r.part + 1 } s
    else s
  | none => s

/-- Item 10 is broken off by its limit: the test path is released (R52). -/
def itemTenStop (s : State) : State :=
  match s.outputs.item with
  | some r => outTestAbandon false r.channel { s with outputs := { s.outputs with item := none } }
  | none => s

/-- The outputs at a tick. -/
def sopTick (som sov : Nat) (s : State) : State :=
  let s := (breakPulses s).upTo splitAdvance 72
  itemTenTick (((s.upTo abandonCountdown 72).upTo (noteReadback som sov) 72).upTo readbackCheck 72)

end Sys2Proof.Machine
end

