-- ==== Sys2Proof/Machine/Proof.lean ====
section
/-!
DEFINITION. The items of Proof (R52 to R56, R269, R467): what each finds, records and does, and when Proof is over.
-/
namespace Sys2Proof.Machine

/-- Proof is over once no item runs (R56). -/
def proofMayEnd (s : State) : State :=
  if anyUpTo (fun k => s.itemRuns (k + 1)) 12 then s else { s with proof := { s.proof with finished := true } }

/-- Item `i` ends with the failures it found; without one its bit of ITEM_PASS is set (R56). -/
def itemEnd (i : Nat) (fails : List Cause) (s : State) : State :=
  let s := { s with proof := { s.proof with ended := setBit s.proof.ended (i - 1) true } }
  if fails.isEmpty then s.wr SYS_PROOF.ITEM_PASS (setBit (s.rd SYS_PROOF.ITEM_PASS) (i - 1) true)
  else State.each proofFailure fails s

/-- A failure where a check did not hold. -/
def failIf (b : Bool) (c : Cause) : List Cause := if b then [c] else []

/-- Item 1 (R52, R360): both loops are qualified, their gates open. -/
def itemOne (ok : Bool) (s : State) : State :=
  if ok && s.flag CLK_STATUS.REF_OK then
    let s := openB (s.wrFlag CLK_STATUS.MA_QUAL true)
    itemEnd 1 [] (s.modClk (fun c => { c with gatedA := false, gateATicks := 0 }))
  else itemEnd 1 [⟨0x10, 1, 1⟩] s

/-- Item 2 (R398): the march leaves the SRAM 0. -/
def itemTwo (ok : Bool) (s : State) : State :=
  itemEnd 2 (failIf (!ok) ⟨0x11, 0xE, 2⟩) { s with mem := s.mem.clearKind .sram }

/-- Item 3 (R53): RC within 3 % of the reference, a running crystal within 200 ppm; a late crystal is noted. -/
def itemThree (rcDev : Int) (fxRuns : Bool) (fxDev : Int) (s : State) : State :=
  let s := (rcMeasured rcDev s).wr CLK_XCHK.FX_DEV (if fxRuns then ofSigned 16 fxDev else 0x8000)
  let s := (if fxRuns then crystalRuns s else fxStop s).wrFlag SYS_PROOF.FX_LATE (!fxRuns)
  itemEnd 3 (failIf (decide (300 < rcDev.natAbs) || (fxRuns && decide (200 < fxDev.natAbs))) ⟨0x12, 1, 3⟩) s

/-- What item 4 finds in the selected slot: an unreadable byte fails as the header or the part that holds it (R54, R78, R399). -/
def State.itemFourSlot (s : State) (header parts : Bool) : List Cause :=
  if !header then [⟨0x15, 0x10, 4⟩]
  else
    match s.slotFault s.loafSlot with
    | some .empty => [⟨0x15, 0x10, 4⟩]
    | some .crc => [⟨0x14, 0x10, 4⟩]
    | none => failIf (!parts) ⟨0x14, 0x10, 4⟩

/-- Item 4 (R52, R54, R269, R399): known answers first; on a wrong one nothing else is looked at. -/
def itemFour (kat boot : Bool) (f : MemFound) (s : State) : State :=
  let s := s.wrFlag CHK_STATUS.KAT_PASS kat
  if !kat then itemEnd 4 [⟨0x13, 0x10, 0xFE⟩] (katWrong s)
  else
    let image := boot && !s.seqMeets 0 f (fun k => decide (k = .boot))
    let header := !s.seqMeets 0 f (fun k => decide (k = .header))
    let parts := !s.seqMeets 0 f ScanKind.isPart
    let s := (bankSEnd f s).wr SYS_BOOT.LSEL_USED s.loafSlot
    itemEnd 4 (failIf (!image) ⟨0x13, 0x10, 4⟩ ++ s.itemFourSlot header parts) s

/-- Item 8 begins (R104): the A systems, then the B systems are disconnected for at most 8 ms each; how long is open. -/
def refBegin (s : State) : State :=
  let a := s.ticks + 1 + s.freeVal 32 % 400
  let s := s.nextFree
  { s.nextFree with proof := { s.proof with refStart := s.ticks, refA := a, refB := a + 1 + s.freeVal 32 % 400 } }

/-- What starts with items 6 and 8 (R102, R197, R331, R322): the pair's Weevil run, full rate, power measurement, and after a cold
reset metering. -/
def startAfterFive (s : State) : State :=
  let s := refBegin (meterStart (rateToFull (pairGo pairWeevil (s.wrFlag LKS_WEEVIL.VALID false))))
  (s.wrFlag PMA_GLB_STATUS.RUN true).upTo (fun q s => s.modSys q (fun r => { r with proofFaults := 0 })) 192

/-- Item 5 (R55, R81, R86): the load, or its failures. A seal word that cannot be formed, for its scan met an unreadable word, counts as
one that does not match: the model's choice (log 80). -/
def itemFive (es : List LoafEntry) (ps : List SliceProgram) (rs : List Route) (f : MemFound) (s : State) : State :=
  let r := itemFiveLoad es ps rs (s.seqMeets 0 f ScanKind.isPart) (bankSEnd f s)
  let s := itemEnd 5 r.1 r.2
  s.when r.1.isEmpty startAfterFive

/-- Item 6 (R194, R195, R197): the Weevil run, then lockstep. -/
def itemSix (fail : Option (Nat × Nat)) (s : State) : State :=
  let s := weevilRun 1 fail s
  if fail.isNone then itemEnd 6 [] (pairJoin s) else itemEnd 6 [⟨0x17, 7, 6⟩] (pairSplitNow splitProof true false s)

/-- A damaged DRAM word of 32 bytes that could not be read: logged, and its bytes take the value of unwritten DRAM (R397). -/
def damagedWord (a : Word) (s : State) : State :=
  let lo := a.toNat / 32 * 32
  if inDram lo 32 then
    let s := uncorrectable lo logReqScrub 0xFF s
    { s with mem := s.mem.clearRange lo (lo + 32) }
  else s

/-- Item 7 (R397): the first pass after a cold reset writes the whole DRAM; each later one heals what it cannot read. -/
def itemSeven (ok : Bool) (damaged : List Word) (s : State) : State :=
  let s := if s.proof.dramCold then { s with mem := s.mem.clearKind .dram }
    else State.each damagedWord damaged s
  let s := s.when ok (fun s => { s with proof := { s.proof with dramCold := false } })
  itemEnd 7 (failIf (!ok) ⟨0x18, 0xE, 7⟩) s

/-- A degraded channel (R54). -/
def causeChannel (block index : Nat) : Cause := ⟨0x22, block, index⟩

/-- Four conversions of a reference level pass (R104), the level as its fourfold code: every code within ±40 of their mean, the mean
within ±0.3 % of the level ±10 codes. -/
def levelPass (level4 : Int) (codes : List Int) : Bool :=
  let sum := codes.sum
  decide (1000 * (sum - level4).natAbs ≤ 3 * level4.natAbs + 40000) && codes.all (fun c => decide ((4 * c - sum).natAbs ≤ 160))

/-- The reference conversions of a converter pass: at both rates, +0.750 V, 0 V and -0.750 V. -/
def refPass (codes : List Int) : Bool :=
  (List.range 6).all (fun g => levelPass (([98301, 0, -98301] : List Int).getD (g % 3) 0) ((codes.drop (4 * g)).take 4))

/-- The converters whose reference conversions fail. -/
def refFails {n : Nat} (l : List (Fin n × List (BitVec 16))) : List Nat :=
  (l.filter (fun p => !refPass (p.2.map (fun c => saturated c.toInt)))).map (fun p => p.1.val)

/-- The reference conversions of a power-measurement channel pass (R324): every code within ±40 of the mean of its level; the gain that
brings the outer levels to theirs within 1 % of 1; the offset that brings 0 V to 0 within ±200 codes, before or after the gain. -/
def pmaRefPass (codes : List Int) : Bool :=
  let level := fun (g : Nat) => (codes.drop (4 * g)).take 4
  let near := fun (g : Nat) => (level g).all (fun c => decide ((4 * c - (level g).sum).natAbs ≤ 160))
  let span := (level 0).sum - (level 2).sum
  let zero := (level 1).sum
  near 0 && near 1 && near 2 && decide (100 * ((196602 - span).natAbs : Int) ≤ span)
    && (if Config.offsetFirst then decide (zero.natAbs ≤ 800) else decide ((zero * 196602).natAbs ≤ 800 * span.natAbs))

/-- The power-measurement channels that fail: by their conversions, or by a crossing that the comparator did not report. -/
def pmaRefFails (l : List (Fin 48 × List (BitVec 16) × Bool)) : List Nat :=
  (l.filter (fun p => !(p.2.2 && pmaRefPass (p.2.1.map (fun c => saturated c.toInt))))).map (fun p => p.1.val)

/-- The reference check of system `q` (R54, R115): ADC_REF ends with a pass; a failure raises it and names the head. -/
def checkSystem (fails : List Nat) (q : Nat) (s : State) : State :=
  if !s.sysUsed q then s
  else if fails.contains q then recordCause (causeChannel 2 (q / 2)) (raiseSysFault q faultAdcRef [] s)
  else if bit (s.sys q).faults faultAdcRef then clearSysFault faultAdcRef q s else s

/-- A rail return current channel fails its check, and is absent for the canceller (R54). -/
def failRrc (c : Nat) (s : State) : State :=
  if s.flag HFE_RRC_CFG.USED c then
    recordCause (causeChannel 2 c) ((s.wrFlag HFE_RRC_STATUS.FAILED true c).wrFlag HFE_RRC_STATUS.ABSENT true c)
  else s

/-- A power-measurement channel fails its check: the bridges assigned to it are disabled (R54, R326). -/
def failPma (c : Nat) (s : State) : State :=
  if s.flag PMA_CH_CFG.USED c then
    let s := s.wrFlag PMA_CH_STATUS.FAILED true c
    let m := s.rd PMA_CH_CFG.BR_MASK c
    recordCause (causeChannel 0xA c) (s.upTo (fun j s => s.when (bit m j) (fun s => s.wrFlag PWM_BR_STATUS.CH_FAIL true j)) 12)
  else s

/-- The trim that item 8 measures for a channel that passes (R324): within ±1 % and ±200 codes, else open. -/
def trimPma (c : Nat) (s : State) : State :=
  if s.flag PMA_CH_CFG.USED c && !s.flag PMA_CH_STATUS.FAILED c then
    let g := s.freeVal 32 % 655
    let s := (s.wr PMA_CH_TRIM.GAIN (32441 + g) c).nextFree
    (s.wrS PMA_CH_TRIM.OFFSET ((s.freeVal 32 % 401 : Nat) - 200) c).nextFree
  else s

/-- A string whose metering channel failed is named (R54). -/
def failString (k : Nat) (s : State) : State := s.when (s.strUsed k) (recordCause (causeChannel 0xB k))

/-- The numbers of a list as a mask. -/
def maskOf (l : List Nat) : Nat := l.foldl (fun m i => setBit m i true) 0

/-- Item 8 (R54, R330): a failed bandgap fails Proof; channels degrade. -/
def itemEight (bandgap : Bool) (systems rrc pma strings : List Nat) (spareFail : Bool) (s : State) : State :=
  let s := s.upTo (fun c s => (s.wrFlag HFE_RRC_STATUS.FAILED false c)) 8
  let s := s.upTo (fun c s => (s.wrFlag PMA_CH_STATUS.FAILED false c)) 48
  let s := s.upTo (fun j s => (s.wrFlag PWM_BR_STATUS.CH_FAIL false j)) 12
  let s := (State.each failPma pma (State.each failRrc rrc (s.upTo (checkSystem systems) 192))).upTo trimPma 48
  let s := s.upTo holdThresholds 48
  let s := State.each failString strings (s.upTo (checkString spareFail (maskOf strings)) 32)
  let s := s.wrFlag MTR_GLB_STATUS.SPARE_FAIL spareFail
  itemEnd 8 (failIf (!bandgap) ⟨0x19, 2, 8⟩) s

/-- Item 9 (R252, R254): the loopback of each link. -/
def itemNine (flips : List LoopFlip) (idle : Nat) (s : State) : State := itemEnd 9 [] (s.upTo (linkLoopback flips idle) 4)

/-- Item 10 (R230, R231): its end, once every channel in use has been tested. -/
def itemTen (s : State) : State := s.when (decide (s.outputs.item = none)) (itemEnd 10 [])

/-- A head with a failed supply-line test is recorded; one named in item 8 already has been (R54). -/
def recordHead (h : Nat) (s : State) : State :=
  let adc := bit (s.sys (2 * h)).faults faultAdcRef || bit (s.sys (2 * h + 1)).faults faultAdcRef
  if s.headProofFails h && !adc then recordCause (causeChannel 2 h) s else s

/-- Item 11 (R111, R112, R467): its end, once either moment of R467 has come. -/
def itemLines (s : State) : State := s.when s.linesOver (fun s => itemEnd 11 [] ((testItemEnd s).upTo recordHead 96))

/-- Item 12 passes (R52, R59, R60, R216): the application cores are released, the hours restart, the fault record is cleared; DUE and OVERDUE end with a Proof
that passes. A T_proof of 1 h is due at once. -/
def itemTwelve (s : State) : State :=
  let s := itemEnd 12 [] (({ s with appCores := .running }.wr SYS_PROOF_TIMER.HOURS 0).wrFlag LKS_FAULT0.VALID false)
  if s.proof.failures.isEmpty then showDue ((s.wrFlag SYS_PROOF.DUE false).wrFlag SYS_PROOF.OVERDUE false) else s

/-- The item that a result belongs to. -/
def itemOf : ItemResult → Nat
  | .clocks _ => 1 | .sram _ => 2 | .crossCheck _ _ _ => 3 | .flash _ _ _ => 4 | .loaf _ _ _ _ => 5 | .weevil _ => 6
  | .dram _ _ => 7 | .references _ _ _ _ _ _ => 8 | .loopback _ _ => 9 | .outputs => 10 | .lines => 11 | .results => 12

/-- What an item that runs does with its result. -/
def itemResult (r : ItemResult) (s : State) : State :=
  match r with
  | .clocks ok => itemOne ok s
  | .sram ok => itemTwo ok s
  | .crossCheck rc fx fd => itemThree rc.toInt fx fd.toInt s
  | .flash k b f => itemFour k b f s
  | .loaf es ps rs f => itemFive es ps rs f s
  | .weevil f => itemSix f s
  | .dram ok d => itemSeven ok d s
  | .references b q c p k sp => itemEight b (refFails q) (refFails c) (pmaRefFails p) (k.map Fin.val) sp s
  | .loopback f i => itemNine f i.toNat s
  | .outputs => itemTen s
  | .lines => itemLines s
  | .results => itemTwelve s

/-- What begins with an item that runs by what `g` does: items 4 and 5 take bank S for their scans (R258), item 10 its first channel, item 11 its order. -/
def beginItems (g : State → State) (s : State) : State :=
  let t := g s
  let t := t.when (t.itemRuns 4 && !s.itemRuns 4) (itemFourScans t.loafSlot)
  let t := t.when (t.itemRuns 5 && !s.itemRuns 5) (itemFiveScans t.loafSlot)
  let t := t.when (t.itemRuns 10 && !s.itemRuns 10) (itemTenFrom 0)
  t.when (t.itemRuns 11 && !s.itemRuns 11) testItemBegin

/-- A Proof item finishes: one that runs takes its result, the items that depend on it start, and Proof is over once none
runs (R52). -/
def proofItemComplete (r : ItemResult) (s : State) : State :=
  if s.itemRuns (itemOf r) then proofMayEnd (beginItems (itemResult r) s) else s

/-- An item that runs exceeds its limit (R52): PROOF_TIMEOUT with the item's number. -/
def proofTimeout (i : Nat) (s : State) : State :=
  if s.itemRuns i then
    let s := (s.when (decide (i = 4) || decide (i = 5)) bankSStop).when (decide (i = 10)) itemTenStop
    proofMayEnd (beginItems (itemEnd i [⟨0x1A, 0, i⟩]) s)
  else s

end Sys2Proof.Machine
end

