-- ==== Sys2Proof/Machine/Reset.lean ====
section
/-!
DEFINITION. Reset (R12, R48 to R51, R89, R99, R331, R373, R384, R442, R444, R452): cold and warm reset, the request for one,
and the reset sequence up to Proof.
-/
namespace Sys2Proof.Machine

/-- The cells of the flash, which no reset clears. -/
def flashCells (m : Mem) : Mem := (m.clearRange 0 0x40000000).clearRange 0x42000000 (2 ^ 64)

/-- A cold reset (R12): everything but the flash and the world around the device returns to its value after power-up. A
flash operation is interrupted wherever it is (R89). -/
def coldReset (s : State) : State :=
  let s := flashInterrupt s
  { State.reset with mem := flashCells s.mem, pins := s.pins, meter := { (default : Metering) with events := s.meter.events },
                     out := s.out, free := s.free, pending := s.pending }

/-- A cell belongs to a field that keeps its value across a warm reset (R12). -/
def keptKey (k : Nat) : Bool :=
  match regAt (k / 32) with
  | some (r, _) => r.fields.any (fun f => decide (f.lo = k % 32) && (f.kept || decide (f.acc = .rws)))
  | none => false

/-- The registers after a warm reset: RWS and kept fields stay (R12). -/
def warmRegs (t : Tab Nat) : Tab Nat := t.filter (fun c => keptKey c.1)

/-- What a warm reset keeps beside registers (R33, R42, R89, R230, R331, R366, R442, R461): memory, time, the test access port, the snapshot, metering, the
flash operation until its next boundary, locks of output channels, and what the slow oscillators do. -/
def warmKept (s : State) : State :=
  { State.reset with
    regs := warmRegs s.regs, mem := s.mem, timeNs := s.timeNs, pins := s.pins, tap := s.tap,
    flash := { s.flash with abortCycle := 0, doneCycle := none, abortLate := s.flash.running },
    snap := { s.snap with armedAt := none, latchedNow := none }, strings := s.strings, meter := s.meter,
    chans := s.chans.map (fun p => (p.1, { (default : OutChannel) with faults := p.2.faults })),
    clk := { (default : Clocks) with fxRuns := s.clk.fxRuns, rcStopped := s.clk.rcStopped, rcPeriod := s.clk.rcPeriod,
                                     subNs := s.clk.subNs, timeRuns := decide (s.phase ≠ .held) || s.clk.timeRuns },
    proof := { (default : ProofRun) with dramCold := s.proof.dramCold },
    eth := s.eth, out := s.out, free := s.free, pending := s.pending }

/-- The fault that a locked channel shows stays with its lock (R230). -/
def showLock (o : Nat) (s : State) : State := s.wr SOP_CH_STATE.FAULT (lowestFault (s.chan o).faults) o

/-- The system whose samples stay BLANK across a warm reset, and for how many ticks (R113): T_RST from the rise of its supply, else
until the time that R108 gives. -/
def State.blankLeft (s : State) : Option (Nat × Nat) :=
  match s.sched.slot with
  | some sl =>
    if sl.phase = .pulse ∨ sl.phase = .cut then some (sl.q, s.rd HFE_TEST_CFG0.T_RST)
    else some (sl.q, (s.sys sl.q).blankUntil - s.ticks)
  | none => none

/-- The blanking goes on from the reset's tick boundary. -/
def keepBlank (b : Option (Nat × Nat)) (s : State) : State :=
  match b with
  | some (q, n) => s.modSys q (fun r => { r with blankUntil := n })
  | none => s

/-- A warm reset (R12): a flash operation is asked to end, the guard enters HOLDOVER, the supply pins go high. -/
def warmReset (s : State) : State :=
  let applied := s.rdS CLK_TS_APPLIED.OFFSET
  let blanked := s.blankLeft
  let s := flashAbort s
  keepBlank blanked (allHsupHigh ((guardWarm applied (warmKept s)).upTo showLock 72))

/-- Reset is released (R49): the Firefly domain leaves reset, every supply pin is driven high (R99), and the sequence waits for
the oscillator. -/
def resetRelease (s : State) : State := if s.phase = .held then allHsupHigh { s with phase := .waiting } else s

/-- The value of `SYS_RESET_REQ.KEY` that a request needs. -/
def resetKey : Nat := 0xC3A5

/-- A write of `SYS_RESET_REQ` by the Scarab pair (R444): a warm reset that is released again at once. -/
def sysResetReq (key : Nat) (go : Bool) (s : State) : State :=
  if key ≠ resetKey then accessError .scarab .notPermitted true SYS_RESET_REQ.KEY.base s
  else if go then resetRelease (warmReset s) else s

/-- The 25 MHz oscillator is qualified: the pins are sampled, and Proof is entered (R49). -/
def oscillatorQualified (loafSel : Nat) (s : State) : State :=
  if s.phase = .waiting then
    enterProof ({ (refQualified s).wr SYS_BOOT.LSEL_PIN loafSel with phase := .done })
  else s

end Sys2Proof.Machine
end

