-- ==== Sys2Proof/Machine/Host.lean ====
section
/-!
DEFINITION. The host interfaces (17_host_commands_and_crumbs.md): commands and their executors, SUMMARY, interrupts, the
endpoint's resets and the memory window.
-/
namespace Sys2Proof.Machine

/-! ### Requests (R431, R432, R434) -/

/-- The payload lengths of a command; none where the code has no command. -/
def payloadLengths : Nat → Option (List Nat)
  | 0x01 => some [1] | 0x02 => some [1] | 0x03 => some [4] | 0x04 => some [0, 12] | 0x05 => some [0] | 0x06 => some [0]
  | 0x07 => some [1] | 0x08 => some [8] | 0x5A => some [0] | _ => none

/-- The parts of a request. -/
def reqCode (req : List Nat) : Nat := req.getD 0 0
def reqTag (req : List Nat) : Nat := req.getD 1 0
def reqLen (req : List Nat) : Nat := ofBytesLE (slice req 2 2)
def reqPayload (req : List Nat) : List Nat := req.drop 4

/-- A field of a request's payload. -/
def reqField (req : List Nat) (off n : Nat) : Nat := ofBytesLE (slice (reqPayload req) off n)

/-- The check before execution (R432): an unknown code, then a wrong length. -/
def reqRefusal (req : List Nat) : Option Status :=
  match payloadLengths (reqCode req) with
  | none => some .unknownCmd
  | some ls =>
    if req.length < 4 ∨ (reqPayload req).length ≠ reqLen req ∨ !ls.contains (reqLen req) then some .badLength else none

/-- The commands that the Scarab pair executes (R434). -/
def pairCode (code : Nat) : Bool := decide (code = 1) || decide (code = 3) || decide (code = 6) || decide (code = 7)

/-- Core 0 runs firmware: in the joined pair, or alone while split (R198). -/
def State.coreZeroRuns (s : State) : Bool :=
  s.mdllA && decide (s.mode ≠ .dormant) && (s.joined || (decide (s.rd LKS_STATUS.STATE = pairSplit) && s.flag LKS_STATUS.CORE0_RUN))

/-- The pair can take a command (R198, R434): only the joined pair writes `CNT_RESET_CMD`. During a rejoin requests for a mode, a
split or a rejoin are answered without it (R199, R203). -/
def State.canTake (s : State) (code : Nat) : Bool :=
  if code = 3 then s.coreZeroRuns && s.joined else s.coreZeroRuns || decide (s.pair.step ≠ .idle)

/-! ### Hardware commands -/

/-- LOAF_SELECT (R51, R84): accepted in Commission for a slot with a valid header; it bars a rejoin into Service (R202). -/
def loafSelect (ch slot : Nat) (s : State) : State :=
  let refuse (st : Status) : State := (respond ch st 0 (toBytesLE 4 (s.freeVal 32)) s).nextFree
  match s.loafSelectRefusal slot with
  | some false => refuse .refusedMode
  | some true => if 3 < slot then refuse .refusedRange else refuse .loafEmpty
  | none =>
    if 3 < slot then refuse .refusedRange
    else
      let s := ((s.wrFlag SYS_BOOT.CMD_SEL true).wr LOAF_SYS.CMD_SLOT slot)
      respond ch .ok 0 (toBytesLE 4 (s.hdr slot 8 4)) { s with pair := { s.pair with barred := true } }

/-- SNAP without a time (R442). -/
def snapNow (ch : Nat) (s : State) : State :=
  let locked := s.flag SNP_STATUS.LOCKED
  let s := crumb 3 0 0 s
  respond ch (if locked then .refusedState else .ok) 0 (toBytesLE 2 (s.rd SNP_STATUS.GEN) ++ [0, 0]) s

/-- SNAP with a time (R7, R442): malformed nanoseconds are out of range. -/
def snapAt (ch ns sec : Nat) (s : State) : State :=
  let open_ (st : Status) : State := (respond ch st 0 (toBytesLE 2 (s.freeVal 16) ++ [0, 0]) s).nextFree
  let t := 1000000000 * sec + ns
  if 1000000000 ≤ ns then open_ .refusedRange
  else
    match s.armResult t with
    | .busy => open_ .busy
    | .range => open_ .refusedRange
    | .armed => respond ch .ok 0 [0, 0, 0, 0] (snapArm t s)

/-- STEP_ARM (R387). -/
def stepArmCommand (ch : Nat) (s : State) : State :=
  match s.stepArmRefused with
  | some 0x02 => respond ch .refusedMode 0 [] s
  | some _ => respond ch .refusedGuard 0 [] s
  | none => respond ch .ok 0 [] (guardArm s)

/-- LEDGER_READ (R340). -/
def ledgerReadCommand (ch k n first : Nat) (s : State) : State :=
  let a := s.ledgerAnswer k n first
  (respond ch a.1 0 a.2 s).nextFree

/-- A command runs: by hardware, or as the pair takes it (R434). SUMMARY waits for the publication (R438). -/
def runCommand (ch : Nat) (req : List Nat) (s : State) : State :=
  let c := s.channel ch
  let tag := reqTag req
  match reqCode req with
  | 0x01 => modeSubmit ⟨reqField req 0 1 % 8, tag, some ch⟩ s
  | 0x02 => loafSelect ch (reqField req 0 1) s
  | 0x03 => resetCommand ch (reqField req 1 1) (reqField req 0 1) (reqField req 2 2) s
  | 0x04 => if reqLen req = 0 then snapNow ch s else snapAt ch (reqField req 0 4) (reqField req 4 6) s
  | 0x05 => stepArmCommand ch s
  | 0x06 => pairSubmit ⟨false, 0, tag, some ch, none, default⟩ s
  | 0x07 => pairSubmit ⟨true, reqField req 0 1 % 8, tag, some ch, c.weevilFail, c.image⟩ s
  | 0x08 => ledgerReadCommand ch (reqField req 0 1) (reqField req 1 1) (reqField req 4 4) s
  | _ => s

/-- The request pending on a channel is checked and, where its executor can take it, runs (R432, R435). -/
def serveChannel (ch : Nat) (s : State) : State :=
  match (s.channel ch).request with
  | none => s
  | some req =>
    match reqRefusal req with
    | some st => respond ch st 0 [] s
    | none =>
      if (s.channel ch).taken || (pairCode (reqCode req) && !s.canTake (reqCode req)) then s
      else runCommand ch req (s.modChannel ch (fun c => { c with taken := true }))

/-- The requests that wait for the pair, in order of posting (R432). -/
def serveChannels (s : State) : State :=
  if (s.channel 1).posted < (s.channel 0).posted then serveChannel 0 (serveChannel 1 s) else serveChannel 1 (serveChannel 0 s)

/-! ### Posting (R42, R430, R432, R436) -/

/-- The outcome of a Weevil run and of an image check that a REJOIN is to find, where the row does not say: open. -/
def State.openFindings (s : State) : Option (Nat × Nat) × ImageCheck :=
  let v := s.freeVal 32
  let w := v / 4 % 7 + 1
  (if bit v 0 then some (w, v / 32 % weevilCount w) else none, ⟨bit v 1, .clean⟩)

/-- A post reaches a channel: ignored and counted while a command is pending, else copied and served. -/
def postAndServe (ch : Nat) (req : List Nat) (finds : Option (Nat × Nat) × ImageCheck) (s : State) : State :=
  if (s.channel ch).request.isSome then postRequest ch req s
  else
    let s := (postRequest ch req s).modChannel ch (fun c => { c with weevilFail := finds.1, image := finds.2 })
    serveChannel ch s

/-- The PCIe link can be up: Hold, Commission, Service, Recovery (R42, R448). -/
def State.pcieReach (s : State) : Bool := s.fullRateMode

/-- A host that reaches the endpoint has trained its link; speed and width are open. -/
def pcieUp (s : State) : State :=
  if s.flag SYS_HOST_CFG.LINK_UP then s.wrFlag SYS_HOST_CFG.L1 false
  else
    let v := s.freeVal 32
    (((s.wrFlag SYS_HOST_CFG.LINK_UP true).wr SYS_HOST_CFG.SPEED (v % 3 + 1)).wr SYS_HOST_CFG.WIDTH (v / 4 % 2 + 1)).nextFree

/-- The doorbell (R432): the request is what the request buffer holds, as long as its LEN says. -/
def doorbell (finds : Option (Nat × Nat) × ImageCheck) (s : State) : State :=
  let buf := s.reqBuf ++ List.replicate (1024 - s.reqBuf.length) 0
  postAndServe 0 (buf.take (4 + reqLen buf)) finds s

/-- A request written into BAR4 and posted. -/
def pciePost (req : List Nat) (finds : Option (Nat × Nat) × ImageCheck) (s : State) : State :=
  let s := pcieUp s
  doorbell finds { s with reqBuf := req ++ s.reqBuf.drop req.length }

/-- The bytes of a held write (R436): a post has its request and its doorbell. -/
def HeldWrite.size : HeldWrite → Nat
  | .reg _ n _ => n
  | .mailbox _ bytes => bytes.length
  | .post bytes => bytes.length + 4

/-- A posted write of the host in Dormant: held while it fits, else lost; the exit from L1 wakes (R436). -/
def holdWrite (w : HeldWrite) (s : State) : State :=
  let n := (s.hostPort.held.map HeldWrite.size).sum + w.size
  let p := if n ≤ 1040 then { s.hostPort with held := s.hostPort.held ++ [w] } else { s.hostPort with lost := s.hostPort.lost + 1 }
  wakeEvent wakePcie { s with hostPort := p }

/-- The service port accepts frames (R430). -/
def State.svReady (s : State) : Bool := decide (s.phase = .done) && decide (s.mode ≠ .dormant) && s.mdllB

/-- The assertion of `SV_CS_N` (R73). -/
def svSelect (s : State) : State := wakeEvent wakeService s

/-- LAST_ERR is set. -/
def svError (s : State) : State := { s with hostPort := { s.hostPort with svErr := true } }

/-- A request is posted on a channel: 0 PCIe, 1 the service port. -/
def hostPost (ch : Nat) (req : List Nat) (finds : Option (Nat × Nat) × ImageCheck) (s : State) : State :=
  if ch = 0 then
    if s.mode = .dormant then holdWrite (.post req) s else if s.pcieReach then pciePost req finds s else s
  else if s.svReady then postAndServe 1 req finds s else svError (svSelect s)

/-- A command posted with code, tag and payload; it fills its channel's request. -/
def command (ch code tag : Nat) (payload : List Nat) (s : State) : State :=
  hostPost ch (requestBytes code tag payload) (none, default) s

/-- REJOIN posted, with what its Weevil run and its image check are to find. -/
def rejoinCommand (ch tag target : Nat) (weevilFail : Option (Nat × Nat)) (image : ImageCheck) (s : State) : State :=
  hostPost ch (requestBytes 7 tag [target]) (weevilFail, image) s

/-- The 10 ms of the command pending on a channel have passed (R435). -/
def State.takeOver (s : State) (ch : Nat) : Bool := decide (500 ≤ s.ticks - (s.channel ch).postedTick)

/-- A command that the pair has not taken within 10 ms is withdrawn and answered TIMEOUT (R435). -/
def commandTimeout (ch : Nat) (s : State) : State :=
  match (s.channel ch).request with
  | none => s
  | some req => if !(s.channel ch).taken && pairCode (reqCode req) && s.takeOver ch then respond ch .timeout 0 [] s else s

/-! ### SUMMARY (R437, R438) -/

/-- The words of link `l` in SUMMARY. -/
def State.summaryLink (s : State) (l : Nat) : List Nat :=
  s.regBytes NBL_STATE.reg l ++ s.regBytes NBL_SEQ.reg l ++ toBytesLE 4 (s.link l).err0 ++ [0, 0, 0, 0]

/-- The words of ring `r` in SUMMARY. -/
def State.summaryRing (s : State) (r : Nat) : List Nat :=
  s.regBytes DMA_RING_STATE.reg r ++ toBytesLE 2 (s.rd DMA_RING_HEAD.HEAD r) ++ toBytesLE 2 (s.rd DMA_RING_TAIL.TAIL r)
    ++ s.regBytes DMA_RING_CNT.reg r ++ [0, 0, 0, 0]

/-- The record before its check value. -/
def State.summaryBody (s : State) : List Nat :=
  assemble 0
    [(0x000, toBytesLE 4 0x4D4D5553 ++ toBytesLE 2 1 ++ toBytesLE 2 (b2n (!s.mdllA) + 2 * b2n (!s.mdllB)) ++ timeBytes s.timeNs),
     (0x014, s.seqBytes [SYS_ID.reg, SYS_MODE.reg, SYS_MODE_STATUS.reg, SYS_BOOT.reg, SYS_PROOF.reg, SYS_PROOF_TIMER.reg,
        FAB_LOAF_ID.reg, FAB_SEAL.reg, FAB_CRUST.reg, LKS_STATUS.reg, SOP_SAFE.reg,
        SYS_CAUSE_HOLD0.reg, SYS_CAUSE_HOLD1.reg, SYS_CAUSE_HOLD2.reg, SYS_CAUSE_HOLD3.reg,
        SYS_CAUSE_LAST0.reg, SYS_CAUSE_LAST1.reg, SYS_CAUSE_LAST2.reg, SYS_CAUSE_LAST3.reg]
        ++ s.groupBytes [SYS_CAUSE_SET.reg] 2
        ++ s.seqBytes [LKS_FAULT0.reg, LKS_FAULT1.reg, LKS_FAULT2.reg, LKS_FAULT3.reg, LKS_FAULT4.reg, CNT_CYCLE.reg]),
     (0x080, s.groupBytes [CNT_SEC_STATE.reg] 64 ++ s.groupBytes [HFE_CHF_STATE.reg] 96 ++ s.groupBytes [HFE_FAULT_MAP.reg] 6
        ++ s.groupBytes [HFE_DAMP_MAP.reg] 6 ++ s.groupBytes [SOP_ON_MAP.reg] 3 ++ s.groupBytes [SOP_LATCH_MAP.reg] 3
        ++ s.groupBytes [SOP_LOCK_MAP.reg] 3),
     (0x360, (List.range 4).flatMap s.summaryLink),
     (0x3A0, s.seqBytes [GFE_STATUS.reg, GFE_BRIDGES.reg, GFE_MEAS0.reg, GFE_MEAS1.reg, GFE_MEAS2.reg, GFE_MEAS3.reg,
        GFE_FF_STATUS.reg, PWM_GLB_STATUS.reg, CLK_STATUS.reg, CLK_MON.reg, CLK_TS_STATUS.reg]),
     (0x3D0, s.seqBytes [ETH_SRV_STATUS.reg, ETH_SRV_OFFSET0.reg, ETH_SRV_OFFSET1.reg, ETH_SRV_OFFSET2.reg, ETH_SRV_CNT.reg]),
     (0x400, (List.range 32).flatMap s.summaryRing),
     (0x600, s.groupBytes [MTR_STR_STATUS.reg, MTR_PACK_STATUS.reg] 32
        ++ s.seqBytes [MTR_LEDGER_STATUS.reg, DMA_DRAM_ECC.reg, DMA_SRAM_ECC.reg, DMA_FLASH_ECC.reg, SNP_STATUS.reg, SNP_MISSED.reg])]
    0xFFC

/-- The SUMMARY requests of both channels, PCIe first, latched in one clock period. -/
def answerSummaries (s : State) : State :=
  let both := fun (b : Nat) => decide (((s.channel b).request.map reqCode) = some 0x5A)
  let record := sealed s.summaryBody
  let s := s.when (both 0) (respond 0 .ok 0 record)
  let s := s.when (both 1) (respond 1 .ok 0 record)
  s.nextFree

/-! ### Interrupts (R428, R444) -/

/-- A write of `SYS_IRQ_MASK`: a pending vector that it unmasks sends one message. -/
def maskWrite (v : Nat) (s : State) : State :=
  let opened := fun k => bit (s.rd SYS_IRQ_MASK.VEC) k && !bit v k && bit (s.rd SYS_IRQ_PEND.VEC) k
  (s.wr SYS_IRQ_MASK.VEC v).upTo (fun k s => s.when (opened k) (sendMsix k)) 32

/-- One vector is unmasked. -/
def irqUnmask (k : Nat) (s : State) : State := maskWrite (setBit (s.rd SYS_IRQ_MASK.VEC) k false) s

/-! ### The endpoint's resets and BAR2 (R396, R400, R426, R427) -/

/-- A reset of the endpoint alone: the link goes down with a hot reset and with its loss. -/
def pcieLinkReset (kind : LinkReset) (s : State) : State := endpointReset (decide (kind ≠ .functionLevel)) s

/-- How an access of the host over PCIe fails (R425, R426). -/
inductive HostFail where
  | unsupported | abort
  deriving DecidableEq, Repr, Inhabited

/-- A failed access of the host: noted by Advanced Error Reporting; a read is completed with its status, a write is discarded. -/
def hostFails (why : HostFail) (write : Bool) (s : State) : State :=
  let n := match why with
    | .unsupported => 20
    | .abort => 15
  let s := { s with endpoint := { s.endpoint with errors := setBit s.endpoint.errors n true } }
  if write then s
  else s.emit (match why with
    | .unsupported => .unsupported
    | .abort => .completerAbort)

/-- Some byte of device ranges lies in the DRAM. -/
def dramRanges (ps : List (Nat × Nat)) : Bool := ps.any (fun p => touchesDram p.1 p.2)

/-- Device ranges written in order (R396). -/
def hostStore (f : MemFound) : List (Nat × Nat) → List Nat → State → State
  | [], _, s => s
  | p :: ps, bs, s => hostStore f ps (bs.drop p.2) (storeBytes f logReqHost 0xFF p.1 (bs.take p.2) s)

/-- Some range meets a word that cannot be read. -/
def readFails (f : MemFound) (ps : List (Nat × Nat)) : Bool := ps.any (fun p => f.meets p.1 p.2)

/-- A read of device ranges: corrected errors are counted; a word that cannot be read is logged (R395, R398 to R400). -/
def hostLoad (f : MemFound) (ps : List (Nat × Nat)) (s : State) : State :=
  s.each (fun p s => damages f logReqHost 0xFF p.1 p.2 (corrections f logReqHost p.1 p.2 s)) ps

/-- An access served: its bytes read or stored. -/
def hostServe (ps : List (Nat × Nat)) (write : Option (List Nat)) (f : MemFound) (s : State) : State :=
  match write with
  | some bs => hostStore f ps bs s
  | none =>
    let s := hostLoad f ps s
    if readFails f ps then hostFails .abort false s else s.emit (.memData (readRanges s ps))

/-- The access waits: for the DRAM while MDLL-B is gated, for all of the device until a Dormant ends. -/
def State.barWaits (s : State) (ps : List (Nat × Nat)) : Bool := decide (s.mode = .dormant) || (dramRanges ps && !s.mdllB)

/-- A BAR2 access is served, or waits; a read of the DRAM that waits more than 5 ms fails (R426). -/
def barStep (w : BarWait) (s : State) : State :=
  if !s.barWaits w.parts then hostServe w.parts w.write w.found s
  else if w.write.isNone && dramRanges w.parts && decide (250 < s.ticks - w.tick) then hostFails .abort false s
  else { s with hostPort := { s.hostPort with waits := s.hostPort.waits ++ [w] } }

/-- The accesses that wait are looked at again. -/
def barTick (s : State) : State :=
  let ws := s.hostPort.waits
  if ws = [] then s else { s with hostPort := { s.hostPort with waits := [] } }.each barStep ws

/-- An access of the window, page by page: the device ranges, or how it fails. The read of a table entry that is uncorrectable fails it
as a read of its own would (R400). `fuel` bounds the pages. -/
def windowWalk (dom : Nat) (write : Bool) (f : MemFound) : Nat → Nat → Nat → State → State × Except HostFail (List (Nat × Nat))
  | 0, _, _, s => (s, .ok [])
  | fuel + 1, iova, n, s =>
    if n = 0 then (s, .ok [])
    else
      match s.walkDamage f dom iova with
      | some a => (uncorrectable a logReqWalk 0xFF (s.count DMA_IOMMU_STAT.MISS), .error .abort)
      | none =>
        match translate dom write iova s with
        | (s, .fault _) => (s, .error .unsupported)
        | (s, .ok pa room) =>
          let m := min room n
          match windowWalk dom write f fuel (iova + m) (n - m) s with
          | (s, .ok ps) => (s, .ok ((pa, m) :: ps))
          | (s, .error e) => (s, .error e)

/-- An access of BAR2 at an offset (R426): translated under the host domain, and served. -/
def hostWindow (iova len : Nat) (write : Option (List Nat)) (late : Bool) (f : MemFound) (s : State) : State :=
  match windowWalk (s.rd SYS_HOST_CFG.DOM) write.isSome f (len + 1) iova len s with
  | (s, .error e) => hostFails e write.isSome s
  | (s, .ok ps) => if late && write.isNone && dramRanges ps then hostFails .abort false s else barStep ⟨s.ticks, ps, write, f⟩ s

/-! ### BAR4 and the configuration space (R423, R424) -/

/-- Bytes of an image replaced from an offset on, within its size. -/
def patch (size off : Nat) (bs image : List Nat) : List Nat :=
  (List.range size).map (fun k => if off ≤ k ∧ k < off + bs.length then bs.getD (k - off) 0 else image.getD k 0)

/-- The byte of BAR4 at an offset: request buffer, response buffer, MSI-X table, pending bits; elsewhere 0. -/
def State.mailboxByte (s : State) (k : Nat) : Nat :=
  if k < 0x400 then s.reqBuf.getD k 0
  else if 0x1000 ≤ k ∧ k < 0x2008 then (s.channel 0).response.getD (k - 0x1000) 0
  else if 0x3000 ≤ k ∧ k < 0x3200 then s.endpoint.msixTable.getD (k - 0x3000) 0
  else if 0x3800 ≤ k ∧ k < 0x3804 then bits (s.rd SYS_IRQ_PEND.VEC) (8 * (k - 0x3800)) 8
  else 0

/-- A write of BAR4 reaches the device: the request buffer and the MSI-X table take their bytes. -/
def mailboxStore (off : Nat) (bs : List Nat) (s : State) : State :=
  { s with reqBuf := if off < 0x400 then patch 0x400 off bs s.reqBuf else s.reqBuf
           endpoint := { s.endpoint with
             msixTable := if off < 0x3200 ∧ 0x3000 < off + bs.length then
                 patch 0x200 (off - 0x3000) (bs.drop (0x3000 - off)) s.endpoint.msixTable
               else s.endpoint.msixTable } }

/-- An access of BAR4: in Dormant the endpoint holds a write. -/
def hostMailbox (off len : Nat) (write : Option (List Nat)) (s : State) : State :=
  match write with
  | some bs => if s.mode = .dormant then holdWrite (.mailbox off bs) s else mailboxStore off bs s
  | none => s.emit (.memData ((List.range len).map (fun k => s.mailboxByte (off + k))))

/-- The byte of the configuration space at an offset: Vendor and Device ID, class code, the errors noted; the rest is open. -/
def State.configByte (s : State) (k : Nat) : Nat :=
  if k < 4 then bits (0x9600 * 65536 + Config.vendorId.toNat) (8 * k) 8
  else if 9 ≤ k ∧ k < 12 then bits 0x118000 (8 * (k - 9)) 8
  else if 0x104 ≤ k ∧ k < 0x108 then bits s.endpoint.errors (8 * (k - 0x104)) 8
  else bits (s.freeVal 4096) (8 * (k % 512)) 8

/-- An access of the configuration space: what a write does is left to the PCI Express specification. -/
def hostConfig (off len : Nat) (write : Option (List Nat)) (s : State) : State :=
  match write with
  | some _ => s
  | none => (s.emit (.memData ((List.range len).map (fun k => s.configByte (off + k))))).nextFree

/-- An access over PCIe outside the registers. In Dormant its exit from L1 wakes; where that is not enabled, one of the window waits too
long. -/
def hostMemory (place : HostSpace) (len : Nat) (write : Option (List Nat)) (late : Bool) (f : MemFound) (s : State) : State :=
  let asleep := decide (s.mode = .dormant)
  let s := wakeEvent wakePcie s
  if !s.pcieReach && !asleep then s
  else
    let s := s.when (!asleep) pcieUp
    match place with
    | .window off =>
      if asleep && !s.modes.waking then hostFails .abort write.isSome s else hostWindow off.toNat len write late f s
    | .mailbox off => hostMailbox off.toNat len write s
    | .config off => hostConfig off.toNat len write s

end Sys2Proof.Machine
end

