-- ==== Sys2Proof/Machine/Access.lean ====
section
/-!
DEFINITION. Register accesses (R9 to R14, R83, R198, R425): what each requester may write, what a write does, and what a read
returns and changes.
-/
namespace Sys2Proof.Machine

/-! ### Who may write (R14, R198, and the register section of each chapter) -/

/-- Who may write a register. -/
inductive Writers where
  | pair          -- the joined pair
  | pairOrZero    -- the joined pair, or core 0 while split
  | app           -- the application cores
  | cores         -- any core
  | appPair       -- the application cores and the Scarab pair
  | appPairHost   -- those and the host
  | recorder      -- the application cores and the host
  | bridge        -- the application cores, where they own the bridge of the register
  | ring          -- the owner of the ring
  | all           -- every requester but a ring and the device's own blocks
  | nobody
  deriving DecidableEq, Repr

/-- The writers of a register that has fields to write, by its first address and entry. -/
def writersOf (r : Reg) (i : Nat) : Writers :=
  let a := r.base
  match a / 0x10000 with
  | 0x0 =>
    if a = SYS_MODE_CTRL.reg.base then .pairOrZero
    else if a = SYS_HOST_CFG.reg.base then .app
    else if a = SYS_CAUSE_SET.reg.base ∨ a = SYS_ACC_ERR0.reg.base ∨ a = SYS_IRQ_PEND.reg.base ∨ a = SYS_IRQ_MASK.reg.base
      ∨ a = SYS_CMD_DOORBELL.reg.base then .all
    else .pair
  | 0x1 => if a = CLK_MB_SHADOW.reg.base ∨ a = CLK_MB_CTRL.reg.base ∨ a = CLK_TS_FREQ.reg.base then .app else .cores
  | 0x2 => if a = HFE_REC_BASE.reg.base ∨ a = HFE_REC_LEN.reg.base ∨ a = HFE_REC_CTRL.reg.base then .recorder else .all
  | 0x3 => .pair
  | 0x4 => .pair
  | 0x5 => .pair
  | 0x6 => if a = CHK_STATUS.reg.base ∨ a = CHK_ERR_ADDR.reg.base then .cores else if i = 0 then .pair else .app
  | 0x7 => if a = LKS_CTRL.reg.base then .pairOrZero else if a = LKS_DBG.reg.base then .all else .nobody
  | 0x8 => .app
  | 0x9 => .bridge
  | 0xA => .all
  | 0xC => .app
  | 0xD => .app
  | 0xE => if a < DMA_RING_CFG.reg.base then .app else .ring
  | 0xF => if a = SNP_CTRL.reg.base then .appPairHost else .appPair
  | 0x10 => .all
  | _ => .nobody

/-- Core 0 runs alone (R198). -/
def State.zeroAlone (s : State) : Bool := decide (s.rd LKS_STATUS.STATE = pairSplit) && s.flag LKS_STATUS.CORE0_RUN

/-- A core of the Scarab pair. -/
def isScarab : Requester → Bool
  | .scarab => true | .core0 => true | .core1 => true | _ => false

/-- The host, over PCIe or through the service port. -/
def isHost : Requester → Bool
  | .host => true | .sv => true | _ => false

/-- The bridge of a PWM register. -/
def State.pwmBridge (s : State) (r : Reg) (i : Nat) : Nat := if r.base = PWM_BR_CTRL.reg.base then i else s.legBridge i

/-- The requester owns ring `i` (R407): OWNER 0 the pair, 1 the application cores, 2 the host, 3 hardware. -/
def State.ownsRing (s : State) (req : Requester) (i : Nat) : Bool :=
  match s.rd DMA_RING_CFG.OWNER i with
  | 0 => decide (req = .scarab) && s.joined
  | 1 => decide (req = .app)
  | 2 => isHost req
  | _ => false

/-- The requester is one of the writers. -/
def State.isWriter (s : State) (req : Requester) (r : Reg) (i : Nat) : Writers → Bool
  | .pair => decide (req = .scarab) && s.joined
  | .pairOrZero => (decide (req = .scarab) && s.joined) || (decide (req = .core0) && s.zeroAlone)
  | .app => decide (req = .app)
  | .cores => decide (req = .app) || isScarab req
  | .appPair => decide (req = .app) || isScarab req
  | .appPairHost => decide (req = .app) || isScarab req || isHost req
  | .recorder => decide (req = .app) || isHost req
  | .bridge => decide (req = .app) && (decide (r.base = PWM_BR_CTRL.reg.base) || s.legUsed i) && s.coreOwned (s.pwmBridge r i)
  | .ring => s.ownsRing req i
  | .all => decide (req = .app) || isScarab req || isHost req
  | .nobody => false

/-- The windows in which core 1 writes nothing (R198). -/
def coreOneBarred (a : Nat) : Bool := [0x0, 0x3, 0x4, 0x5, 0x7, 0x10].contains (a / 0x10000)

/-- A requester may write a register's entry. -/
def State.mayWrite (s : State) (req : Requester) (r : Reg) (i : Nat) : Bool :=
  !(decide (req = .core1) && coreOneBarred r.base) && s.isWriter req r i (writersOf r i)

/-! ### Plain writes (R11) -/

/-- A write replaces, clears or sets by the access type. -/
def writeField (f : Fld) (i v : Nat) (s : State) : State :=
  let x := bits v f.lo f.width
  match f.acc with
  | .rw => s.wr f x i
  | .rws => s.wr f x i
  | .w1c => s.wr f (s.rd f i - (s.rd f i &&& x)) i
  | .w1s => s.wr f (s.rd f i ||| x) i
  | .ro => s | .wo => s | .rc => s

/-- A write of a register whose fields have no other effect. -/
def writeFields (r : Reg) (i v : Nat) (s : State) : State := s.each (fun f s => writeField f i v s) r.fields

/-- The register has a field that a write can change or trigger. -/
def Reg.writable (r : Reg) : Bool := r.fields.any (fun f => f.acc ≠ .ro && f.acc ≠ .rc)

/-! ### What a write does, block by block -/

/-- SYS (R45, R73, R428, R432, R444). A write of 0 to EN_DAMP is ignored while a section is mapped to
an output. -/
def writeSys (r : Reg) (i v : Nat) (s : State) : State :=
  if r.base = SYS_MODE_CTRL.reg.base then s.when (bit v 3) (modeSubmit ⟨v % 8, bits v 16 16, none⟩)
  else if r.base = SYS_RESET_REQ.reg.base then sysResetReq (bits v 16 16) (bit v 0) s
  else if r.base = SYS_IRQ_MASK.reg.base then maskWrite v s
  else if r.base = SYS_CMD_DOORBELL.reg.base then s.when (bit v 0) (fun s => (doorbell s.openFindings s).nextFree)
  else if r.base = SYS_DORMANT_CFG.reg.base then writeFields r i (setBit v 0 (bit v 0 || (s.sectionMapped && s.flag SYS_DORMANT_CFG.EN_DAMP))) s
  else writeFields r i v s

/-- CLK (R362, R367). -/
def writeClk (r : Reg) (i v : Nat) (s : State) : State :=
  if r.base = CLK_MB_SHADOW.reg.base then writeShadow v s
  else if r.base = CLK_MB_CTRL.reg.base then s.when (bit v 0) (strobe (bits v 16 16))
  else if r.base = CLK_TS_FREQ.reg.base then tsFreqWrite (toSigned 32 v) s
  else writeFields r i v s

/-- HFE (R120 to R123): while ENABLE is 1 the recorder's configuration takes no write. -/
def writeHfe (r : Reg) (i v : Nat) (s : State) : State :=
  let on := s.flag HFE_REC_CTRL.ENABLE
  if r.base = HFE_REC_BASE.reg.base ∨ r.base = HFE_REC_LEN.reg.base then if on then s else writeFields r i v s
  else if r.base = HFE_REC_CTRL.reg.base then
    let s := if on then s else (s.wr HFE_REC_CTRL.POST (bits v 16 12)).wr HFE_REC_CTRL.DECIM (bits v 8 3)
    let s := s.when (bit v 1) recArm
    if bit v 0 then recEnable s else s.when on recDisable
  else writeFields r i v s

/-- CNT (R172, R213, R468). -/
def writeCnt (r : Reg) (i v : Nat) (s : State) : State :=
  if r.base = CNT_RESET_CMD.reg.base then s.when (bit v 7) (resetWrite ⟨bits v 8 4, bits v 0 6, bits v 16 16, none⟩)
  else if r.base = CNT_FORCE.reg.base then s.when (bit v 7) (cntForce (bits v 0 6))
  else writeFields r i v s

/-- SOP (R220, R222, R230). How far into its cycle a commit comes is open. -/
def writeSop (r : Reg) (i v : Nat) (s : State) : State :=
  if r.base = SOP_COMMIT.reg.base then s.when (bit v 0) (fun s => sopCommit (bits v 16 16) (s.freeVal 32 % 10000) s.nextFree)
  else if r.base = SOP_REL.reg.base then s.wr SOP_REL.REL (if i = 2 then v % 256 else v) i
  else if r.base = SOP_CMD.reg.base then s.wr SOP_CMD.CMD (if i = 2 then v % 256 else v) i
  else if r.base = SOP_UNLOCK.reg.base then s.when (bit v 7) (sopUnlock (bits v 0 7))
  else writeFields r i v s

/-- LKS (R199, R202, R216): a write with both bits 1 is refused. -/
def writeLks (r : Reg) (i v : Nat) (s : State) : State :=
  if r.base = LKS_CTRL.reg.base then
    let tag := bits v 16 16
    if bit v 0 && bit v 1 then pairOutcome ⟨decide (s.freeVal 1 = 1), bits v 4 3, tag, none, none, default⟩ .refusedState 0 s.nextFree
    else if bit v 1 then
      let f := s.openFindings
      pairSubmit ⟨true, bits v 4 3, tag, none, f.1, f.2⟩ s.nextFree
    else s.when (bit v 0) (pairSubmit ⟨false, 0, tag, none, none, default⟩)
  else writeFields r i v s

/-- CHK (R261, R266, R267): an abort comes before a start of the same write; how much an aborted scan had entered is open. -/
def writeChk (r : Reg) (i v : Nat) (s : State) : State :=
  if r.base = CHK_x_CTRL.reg.base then
    let s := s.when (bit v 1) (fun s => (chkAbort i (s.freeVal 29) (s.freeVal 8) s).nextFree)
    s.when (bit v 0) (chkGo i (bits v 16 16) (bits v 2 2))
  else if r.base = CHK_STATUS.reg.base then writeFields r i v s
  else if s.scanBusy i then s.wrFlag CHK_STATUS.WR_IGN true
  else writeFields r i v s

/-- GFE (R279, R283, R286). -/
def writeGfe (r : Reg) (i v : Nat) (s : State) : State :=
  if r.base = GFE_CTRL.reg.base then s.when (bit v 7) (gfeSubmit (v % 16))
  else if r.base = GFE_KICK.reg.base then s.when (bit v 0) gfeKick
  else if r.base = GFE_SET0.reg.base then writeSet0 v s
  else if r.base = GFE_SET1.reg.base then writeSet1 v s
  else writeFields r i v s

/-- PWM (R307, R312, R320): CLR_TRIP is judged by ENABLE as it stands; whether 50 ns remain to the update point is open. -/
def writePwm (r : Reg) (i v : Nat) (s : State) : State :=
  if r.base = PWM_BR_CTRL.reg.base then
    let s := s.when (bit v 1) (clrTrip i)
    let s := s.when (bit v 0 ≠ s.flag PWM_BR_CTRL.ENABLE i) (bridgeEnable i (bit v 0))
    s.when (bit v 2) (fun s => (loadDuties i (decide (s.freeVal 1 = 1)) s).nextFree)
  else writeFields r i v s

/-- CAN (R350, R352): how far an aborted frame has come on the bus is open. -/
def writeCan (r : Reg) (i v : Nat) (s : State) : State :=
  if r.base = CAN_TX_POST.reg.base then canPost i (bits v 16 16) (bits v 14 2) (bits v 7 7) s
  else if r.base = CAN_TX_ABORT.reg.base then
    let tag := bits v 16 16
    let most := match (s.can i).frames.find? (fun f => decide (f.tag = tag)) with
      | some f => (s.upNs - f.postedNs) / 100000
      | none => 0
    s.when (bit v 0) (fun s => (canAbort i tag (s.freeVal 8 % 3) (s.freeVal 32 % (most + 1)) s).nextFree)
  else writeFields r i v s

/-- ETH (R384). -/
def writeEth (r : Reg) (i v : Nat) (s : State) : State :=
  if r.base = ETH_SRV_CTRL.reg.base then srvWrite 0 (v % 8) s
  else if r.base = ETH_SRV_PARENT0.reg.base then srvWrite 1 v s
  else if r.base = ETH_SRV_PARENT1.reg.base then srvWrite 2 v s
  else if r.base = ETH_SRV_PARENT2.reg.base then srvWrite 3 v s
  else writeFields r i v s

/-- A command of `DMA_RING_CTRL` (R418, R419). -/
def ringOp (r op seq : Nat) (s : State) : State :=
  match op with
  | 1 => ringStart r s | 2 => ringStop r s | 3 => ringResume r s | 4 => ringAbort r seq s | 5 => ringFlush r s
  | _ => ringResult r false s

/-- The arrays of ring `i` may be set (R407). -/
def State.ringSettable (s : State) (i : Nat) : Bool :=
  decide (s.ringState i = ringIdle)
    || (decide (s.ringState i = ringStopped) && decide (s.rd DMA_RING_TAIL.TAIL i = s.rd DMA_RING_HEAD.HEAD i))

/-- DMA (R406, R407, R419). -/
def writeDma (r : Reg) (i v : Nat) (s : State) : State :=
  if r.base = DMA_IOMMU_INV.reg.base then s.when (bit v 0) (iommuInvalidate (bits v 4 2) (bits v 8 4) (bits v 12 20 * 4096))
  else if r.base = DMA_IOMMU_CTX0.reg.base then s.wr DMA_IOMMU_CTX0.MODE (if bits v 30 2 = 3 then 0 else bits v 30 2) i
  else if r.base = DMA_RING_HEAD.reg.base then ringPost i (v % 65536) s
  else if r.base = DMA_RING_CTRL.reg.base then s.when (bit v 7) (ringOp i (v % 16) (bits v 16 16))
  else if r.base = DMA_RING_CFG.reg.base then
    let s := (s.wr DMA_RING_CFG.DOM (bits v 24 4) i).wr DMA_RING_CFG.TRANSLATE (if i < 8 then 0 else bits v 13 1) i
    s.when (s.ringSettable i) (fun s => s.wr DMA_RING_CFG.SIZE (bits v 0 13) i)
  else if r.base = DMA_RING_DBASE.reg.base then s.when (s.ringSettable i) (fun s => s.wr DMA_RING_DBASE.BASE (v / 32 * 32) i)
  else if r.base = DMA_RING_CBASE.reg.base then s.when (s.ringSettable i) (fun s => s.wr DMA_RING_CBASE.BASE (v / 16 * 16) i)
  else writeFields r i v s

/-- The time that ARM arms (R442), none where its nanoseconds are malformed (R7). -/
def State.matchTime (s : State) : Option Nat :=
  let ns := s.rd SNP_TMATCH0.NS
  if 1000000000 ≤ ns then none
  else some (1000000000 * (s.rd SNP_TMATCH1.SEC_LO + 2 ^ 32 * s.rd SNP_TMATCH2.SEC_HI) + ns)

/-- ARM of `SNP_CTRL` (R442). -/
def snapArmWrite (s : State) : State :=
  match s.matchTime with
  | none => s
  | some t => match s.armResult t with
    | .armed => snapArm t s
    | .busy => s | .range => s

/-- SNP (R439, R441, R442, R445): the host may only unlock. -/
def writeSnp (req : Requester) (r : Reg) (i v : Nat) (s : State) : State :=
  if r.base = SNP_CTRL.reg.base then
    if isHost req && (bit v 0 || bit v 2 || bit v 3) then accessError req .notPermitted true r.base s
    else
      let s := s.when (bit v 1) snapUnlock
      let s := s.when (bit v 3) snapDisarm
      let s := s.when (bit v 2) snapArmWrite
      s.when (bit v 0) (crumb 6 0 0)
  else writeFields r i v s

/-- FAB (R87, R89): other operation codes start nothing. That ABORT acts before GO in one write is the model's choice (log 34). -/
def writeFab (r : Reg) (i v : Nat) (s : State) : State :=
  if r.base = FAB_FLASH_CTRL.reg.base then
    let s := (writeFields r i v s).when (bit v 5) flashAbort
    s.when (bit v 4 && decide (1 ≤ v % 16) && decide (v % 16 ≤ 4)) (flashStart (v % 16) (bit v 8))
  else writeFields r i v s

/-- The effect of a permitted write. -/
def writeEffect (req : Requester) (r : Reg) (i v : Nat) (s : State) : State :=
  match r.base / 0x10000 with
  | 0x0 => writeSys r i v s | 0x1 => writeClk r i v s | 0x2 => writeHfe r i v s | 0x3 => writeCnt r i v s
  | 0x4 => writeSop r i v s | 0x6 => writeChk r i v s | 0x7 => writeLks r i v s | 0x8 => writeGfe r i v s
  | 0x9 => writePwm r i v s | 0xC => writeCan r i v s | 0xD => writeEth r i v s | 0xE => writeDma r i v s
  | 0xF => writeSnp req r i v s | 0x10 => writeFab r i v s
  | _ => writeFields r i v s

/-! ### Accesses (R9, R10, R14, R83, R394, R425) -/

/-- The address lies in a block window. -/
def mapped (a : Nat) : Bool := decide (a < 0x110000)

/-- What is wrong with the shape of an access, if anything: longer than a word; narrow or unaligned; outside every window. A
ring reaches no register (R394). -/
def shapeError (req : Requester) (a size : Nat) : Option AccErr :=
  if 4 < size then some .size
  else if size < 4 ∨ a % 4 ≠ 0 then some .narrow
  else if !mapped a then some .unmapped
  else match req with
    | .ring _ => some .notPermitted
    | _ => none

/-- The register shows what a loaf has set. -/
def reflectsLoaf (r : Reg) : Bool := decide (r.base = FAB_SLICE_STATE.reg.base) || loafRows.any (fun l => decide (l.fld.base = r.base))

/-- What the loaf has set accepts no write: from the end of Proof item 5 to the next Proof (R83). -/
def State.loafLocked (s : State) : Bool := s.itemEnded 5

/-- A write of a register without fields to write: LOCKED where a loaf set it; an error in the blocks that admit certain
writers only (R258, R259, R270, R370), and in the Ethernet block for anyone (R392); else ignored. -/
def readOnlyWrite (req : Requester) (r : Reg) (i : Nat) (s : State) : State :=
  if s.loafLocked && reflectsLoaf r then accessError req .locked true (r.addr i) s
  else if r.base / 0x10000 = 0xD ∨ ((r.base / 0x10000 = 1 ∨ r.base / 0x10000 = 6) ∧ !s.mayWrite req r i) then
    accessError req .notPermitted true (r.addr i) s
  else s

/-- A fabric slice reaches for what is not among its streams (R20): a slice of the control part is turned away and recorded; `REQ`
has no code for it, and what it shows is open. Other slices reach nothing. -/
def sliceAccess (i : Nat) (write : Bool) (a : Nat) (s : State) : State :=
  if s.rd FAB_SLICE_STATE.SIDE i = 2 ∧ s.mdllA then
    let held := s.flag SYS_ACC_ERR0.VALID
    let s := accessError .hardware .notPermitted write a s
    if held then s else (s.wr SYS_ACC_ERR0.REQ (s.freeVal 3)).nextFree
  else s

/-- A write of a register by a requester. -/
def registerWrite (req : Requester) (a size v : Nat) (s : State) : State :=
  match shapeError req a size with
  | some e => accessError req e true a s
  | none =>
    match regAt a with
    | none => s
    | some (r, i) =>
      if !r.writable then readOnlyWrite req r i s
      else if writersOf r i = .nobody then s
      else if s.mayWrite req r i then writeEffect req r i v s
      else accessError req .notPermitted true a s

/-- The clock of the window of an address stands still (R19, R357). In Dormant Firefly clocks the head front end. -/
def State.clockStopped (s : State) (a : Nat) : Bool :=
  match a / 0x10000 with
  | 0x0 => false | 0x1 => false | 0xF => false
  | 0x2 => !s.mdllA && decide (s.mode ≠ .dormant)
  | 0xB => !s.mdllB | 0xC => !s.mdllB | 0xD => !s.mdllB
  | 0xE => !s.mdllA && !s.mdllB
  | _ => !s.mdllA

/-- The counters that a read of a register clears (R11). The result FIFOs pop instead. -/
def clearRead (r : Reg) (i : Nat) (s : State) : State :=
  if r.base = CAN_TX_DONE.reg.base ∨ r.base = ETH_P_TXTS0.reg.base then s
  else s.each (fun f s => s.when (decide (f.acc = .rc)) (fun s => s.wr f 0 i)) r.fields

/-- The value that a read returns: the register, or the word latched with `ETH_SRV_OFFSET0`. -/
def State.readValue (s : State) (r : Reg) (i : Nat) : Nat :=
  match s.eth.latched with
  | some (w1, w2) =>
    if r.base = ETH_SRV_OFFSET1.reg.base then w1 else if r.base = ETH_SRV_OFFSET2.reg.base then w2 else s.regWord r i
  | none => s.regWord r i

/-- What a read changes beside the counters it clears (R122, R265, R354, R379, R382, R401, R421, R437). -/
def readEffect (req : Requester) (r : Reg) (i v : Nat) (s : State) : State :=
  match r.base / 0x10000 with
  | 0x2 => s.when (decide (r.base = HFE_REC_SEQ_LO.reg.base)) recLatchSeq
  | 0x5 => s.when (decide (r.base = NBL_ERR0.reg.base)) (fun s => s.modLink i (fun l => { l with err0 := v }))
  | 0x6 => s.when (decide (r.base = CHK_x_RESULT.reg.base)) (fun s => s.modScan i (fun c => { c with resultRead := true }))
  | 0xB =>
    if r.base = MTR_STR_EDIS_LO.reg.base then s.wr MTR_STR_EDIS_HI.E ((s.str i).eDis / 2 ^ 64) i
    else if r.base = MTR_STR_ECHG_LO.reg.base then s.wr MTR_STR_ECHG_HI.E ((s.str i).eChg / 2 ^ 64) i
    else s
  | 0xC => s.when (decide (r.base = CAN_TX_DONE.reg.base)) (fun s => (canPop i s).1)
  | 0xD =>
    if r.base = ETH_P_TXTS0.reg.base then txtsPop i s
    else if r.base = ETH_SRV_OFFSET0.reg.base then latchOffset s
    else s
  | 0xE => s.when (decide (r.base = DMA_ERR_LOG0.reg.base)) (fun s => (errLogRead (decide (req = .app)) s).1)
  | 0xF => s.when (decide (r.base = SNP_DATA.reg.base)) (snapRead i)
  | _ => s

/-- What has run on in a block when one of its registers is read: the scans, the carriers, a pending invalidation (R265, R309,
R406). -/
def runOn (block : Nat) (s : State) : State :=
  match block with
  | 0x6 => scansGoOn s
  | 0x9 => gensOn s
  | 0xE => invGoesOn s
  | _ => s

/-- A read of a register by a requester: the state after it, and the value returned. -/
def registerRead (req : Requester) (a size : Nat) (s : State) : State × Nat :=
  match shapeError req a size with
  | some e => (accessError req e false a s, 0)
  | none =>
    match regAt a with
    | none => (s, 0)
    | some (r, i) =>
      if s.clockStopped a then (accessError req .clockStop false a s, 0)
      else
        let s := runOn (r.base / 0x10000) s
        let v := s.readValue r i
        ((clearRead r i (readEffect req r i v s)).nextFree, v)

/-! ### The host's accesses (R42, R425, R430, R436) -/

/-- A write of the host over PCIe: while the link is down there is none; in Dormant the endpoint holds it. One longer than a word is an
Unsupported Request (R425). -/
def hostWrite (a size v : Nat) (s : State) : State :=
  if s.mode = .dormant then holdWrite (.reg a size v) s
  else if s.pcieReach then
    let s := registerWrite .host a size v (pcieUp s)
    s.when (decide (4 < size)) (hostFails .unsupported true)
  else s

/-- What a read answers. -/
def answerRead (p : State × Nat) : State := p.1.emit (.readData p.2)

/-- What a read of a core answers: its value, or a bus error where it is longer than a word. -/
def answerCore (size : Nat) (p : State × Nat) : State := p.1.emit (if 4 < size then .busError else .readData p.2)

/-- What a read of the host answers: its value, or Unsupported Request where it is longer than a word (R425). -/
def answerHost (size : Nat) (p : State × Nat) : State := if 4 < size then hostFails .unsupported false p.1 else answerRead p

/-- A read of the host over PCIe; in Dormant its exit from L1 wakes. -/
def hostRead (a size : Nat) (s : State) : State :=
  if s.mode = .dormant then answerHost size (registerRead .host a size (wakeEvent wakePcie s))
  else if s.pcieReach then answerHost size (registerRead .host a size (pcieUp s))
  else s

/-- A held write reaches the device (R436). -/
def deliverOne (w : HeldWrite) (s : State) : State :=
  match w with
  | .reg a n v => registerWrite .host a n v s
  | .mailbox off bytes => mailboxStore off bytes s
  | .post bytes => (pciePost bytes s.openFindings s).nextFree

/-- The writes held in Dormant are delivered, and those lost are recorded, at addresses that the manual does not name (R436). -/
def deliverHeld (s : State) : State :=
  if s.hostPort.held.isEmpty && decide (s.hostPort.lost = 0) then s
  else
    let p := s.hostPort
    let s := pcieUp { s with hostPort := { p with held := [], lost := 0 } }
    let s := s.each deliverOne p.held
    s.upTo (fun _ s => (accessError .host .clockStop true (s.freeVal 32) s).nextFree) p.lost

end Sys2Proof.Machine
end

