-- ==== Sys2Proof/Machine/SvPort.lean ====
section
/-!
DEFINITION. The service port (R429, R430): its frames and their effects.
-/
namespace Sys2Proof.Machine

/-- Bytes driven on the port. -/
def svDrive (bs : List Nat) (s : State) : State := s.emit (.svBytes bs)

/-- The status byte: READY, CMD_PENDING, RESP_VALID, LAST_ERR. -/
def State.svStatusByte (s : State) : Nat :=
  b2n s.svReady + 2 * b2n (s.flag SYS_CMD_STAT_SV.PENDING) + 4 * b2n (s.flag SYS_CMD_STAT_SV.VALID) + 8 * b2n s.hostPort.svErr

/-- Opcode 0x05, always answered: the status byte; LAST_ERR is cleared. Until Proof is entered the port's lines are in high impedance
(R448). -/
def svStatus (s : State) : State :=
  if s.phase = .done then
    let s := svSelect s
    let b := s.svStatusByte
    svDrive [b] { s with hostPort := { s.hostPort with svErr := false } }
  else s

/-- A frame that the port accepts only while READY is 1; else its start may wake the device, and it is ignored. -/
def svFrame (g : State → State) (s : State) : State := if s.svReady then g s else svSelect s

/-- `n` registers read from an address upward: the state, and the bytes in order. -/
def svReadWords (a : Nat) : Nat → State → State × List Nat
  | 0, s => (s, [])
  | n + 1, s =>
    let p := registerRead .sv (a % 2 ^ 32) 4 s
    let q := svReadWords (a + 4) n p.1
    (q.1, toBytesLE 4 p.2 ++ q.2)

/-- Opcode 0x0B. -/
def svRegRead (a n : Nat) (s : State) : State :=
  svFrame (fun s => let p := svReadWords a n s; svDrive p.2 p.1) s

/-- Words written from an address upward. -/
def svWriteWords (a : Nat) : List Nat → State → State
  | [], s => s
  | v :: vs, s => svWriteWords (a + 4) vs (registerWrite .sv (a % 2 ^ 32) 4 v s)

/-- Opcode 0x02. -/
def svRegWrite (a : Nat) (vs : List Nat) (s : State) : State := svFrame (svWriteWords a vs) s

/-- The `n` addresses from `a` upward. -/
def addrsFrom (a n : Nat) : List Nat := (List.range n).map (fun k => (a + k) % 2 ^ 32)

/-- An access error at the first address of a list that meets `p`, if one does. -/
def svErrorAt (p : Nat → Bool) (ty : AccErr) (write : Bool) (as : List Nat) (s : State) : State :=
  match as.find? p with
  | some a => accessError .sv ty write a s
  | none => s

/-- A device address belongs to no memory. -/
def noMemory (a : Nat) : Bool := (memKindAt a).isNone

/-- The word that holds an address, of 32 bytes in the DRAM and of 8 elsewhere (R395, R398, R399), cannot be read. -/
def wordLost (f : MemFound) (a : Nat) : Bool := if inDram a 1 then f.meets (a / 32 * 32) 32 else f.meets (a / 8 * 8) 8

/-- The byte of a read at an address: 0 where no memory is, and where the word cannot be read. -/
def State.svByte (s : State) (f : MemFound) (a : Nat) : Nat := if noMemory a || wordLost f a then 0 else (s.mem.read a).toNat

/-- Opcode 0x0D: device memory, untranslated. Data that is not ready reads 0 and sets LAST_ERR. That data which cannot be read does the
same is the model's choice (log 81). -/
def svMemRead (a n : Nat) (ready : Bool) (f : MemFound) (s : State) : State :=
  svFrame (fun s =>
    if !ready then svError (svDrive (List.replicate n 0) s)
    else
      let as := addrsFrom a n
      let s := (damages f logReqHost 0xFF a n (corrections f logReqHost a n s)).when (as.any (wordLost f)) svError
      svErrorAt noMemory .unmapped false as (svDrive (as.map (s.svByte f)) s)) s

/-- The region takes no write from the service port (R394). -/
def svBarred (a : Nat) : Bool := inSafety a 1 || inFlash a 1

/-- A byte stored where the service port may write (R393, R394), unless it belongs to a word written in part that cannot be read. -/
def svStore (lost : Nat → Bool) (p : Nat × Nat) (s : State) : State :=
  if noMemory p.1 || svBarred p.1 || lost p.1 then s else s.memWrite p.1 [p.2]

/-- The byte at an address lies in a DRAM word that the write of `n` bytes from `a` fills in part and that cannot be read (R396). -/
def partLost (f : MemFound) (a n x : Nat) : Bool :=
  inDram x 1 && f.meets (x / 32 * 32) 32 && (decide (x / 32 * 32 < a) || decide (a + n < x / 32 * 32 + 32))

/-- Opcode 0x12, subject to R394. An uncorrectable word that it writes in part keeps its content and is counted; LAST_ERR tells of it
(log 81). -/
def svMemWrite (a : Nat) (bs : List Nat) (f : MemFound) (s : State) : State :=
  svFrame (fun s =>
    let as := addrsFrom a bs.length
    let lost := partLost f a bs.length
    let s := s.each (fun w s => uncorrectable w logReqHost 0xFF s) (as.filter (fun x => lost x && decide (x % 32 = 0 ∨ x = a)))
    let s := s.when (as.any lost) svError
    svErrorAt noMemory .unmapped true as (svErrorAt svBarred .notPermitted true as (s.each (svStore lost) (as.zip bs)))) s

/-- Opcode 0x20 with the bytes of a request: not ready, it posts nothing and sets LAST_ERR (R430). -/
def svPost (bs : List Nat) (s : State) : State := (hostPost 1 bs s.openFindings s).nextFree

/-- Opcode 0x21: the response buffer; bytes beyond the response read 0. -/
def svReadResponse (n : Nat) (s : State) : State :=
  svFrame (fun s => svDrive (((s.channel 1).response ++ List.replicate n 0).take n) s) s

/-- An unknown opcode. -/
def svUnknown (s : State) : State := svFrame svError s

/-- A frame cut short: whole register words already written stay, the rest is discarded (R429). -/
def svFrameCut (a : Nat) (vs : List Nat) (s : State) : State := svFrame (fun s => svError (svWriteWords a vs s)) s

end Sys2Proof.Machine
end

