-- ==== Sys2Proof/Machine/Cycle.lean ====
section
/-!
DEFINITION. What happens at a tick and at a cycle boundary over all blocks, and the events of slices, junction and memory that
belong to no block alone.
-/
namespace Sys2Proof.Machine

/-! ### Ticks and cycles (R8, R359) -/

/-- `n` ticks pass while a warm reset is asserted: the time base runs on (R373), and metering with its milliseconds (R331, R339). -/
def passHeld (n : Nat) (s : State) : State :=
  let k := s.meter.heldTicks % 50 + n
  let s := (timeTicks n s).modMeter (fun m => { m with heldTicks := k % 50 })
  s.when (decide (50 ≤ k)) meterCycle

/-- A tick boundary: the readbacks of the safety outputs as sampled now, and the intervals counted in ticks. While a warm reset is
asserted only the time base and metering run on. -/
def tick (som sov : Nat) (s : State) : State :=
  if s.phase = .held then s.when s.clk.timeRuns (passHeld 1)
  else snapTimeMatch (barTick (ringsTick (invComplete (pdelayTick (guardTick (testTick (sopTick som sov (clkTicks 1 (splitFinish s)))))))))

/-- How many ticks lie before the boundary that comes now: none at a 50th tick whose boundary has not been worked, else those up
to the next one. Every boundary thus coincides with a tick boundary, and a cycle is 50 ticks (R8). -/
def State.ticksToBoundary (s : State) : Nat :=
  if s.ticks % 50 = 0 ∧ s.boundaries < s.cycles then 0 else 50 - s.ticks % 50

/-- An answer to a Pdelay_Req waits at some port. -/
def State.answersWait (s : State) : Bool := anyUpTo (fun p => !(s.port p).answers.isEmpty) 3

/-- `n` ticks pass that no row has named: their time, their number (log 21), and the answers of the ports, which keep their 100 µs
(R377). -/
def passTicks : Nat → State → State
  | 0, s => s
  | n + 1, s => if s.answersWait then passTicks n (pdelayTick (clkTicks 1 s)) else clkTicks (n + 1) s

/-- The ticks before the boundary that no row has named pass. -/
def reachBoundary (s : State) : State := passTicks s.ticksToBoundary s

/-- A boundary's clock period begins: causes and Crumb triggers within it are merged (R75, R439). -/
def boundaryBegin (s : State) : State :=
  let raised := s.modes.raised.map (fun r => { r with fresh := false })
  { s with boundaries := s.cycles
           modes := { s.modes with boundary := true, lastCode := none, raised := raised }
           snap := { s.snap with latchedNow := none } }

/-- What a boundary publishes and latches after its work (R164, R208, R302, R438). -/
def boundaryPublish (rcDev fxDev : Int) (s : State) : State :=
  let s := { s with outputs := { s.outputs with commitDue := s.mode.live && s.joined && s.mdllA } }
  let s := s.when s.mdllA measLatch
  answerSummaries (clkCycle rcDev fxDev (meterCycle s))

/-- The clock period ends. -/
def boundaryEnd (s : State) : State :=
  { s with modes := { s.modes with boundary := false }, snap := { s.snap with latchedNow := none } }

/-- The writes held in Dormant reach the device once it is awake. -/
def deliverAwake (s : State) : State := if s.mode = .dormant then s else deliverHeld s

/-- A cycle boundary: the mode controller, the head maps, the outputs, the counting engine, the publication, the commands that
wait for the pair. While a warm reset is asserted a millisecond of metering ends. -/
def cycleBoundary (rcDev fxDev : Int) (s : State) : State :=
  if s.phase = .held then s.when s.clk.timeRuns (passHeld (50 - s.meter.heldTicks % 50))
  else
    let s := modeBoundary (boundaryBegin (reachBoundary (splitFinish s)))
    let s := s.when s.mdllA latchHeadMaps
    let s := countingBoundary (sopCycle (wakeResume s))
    let s := boundaryPublish rcDev fxDev s
    boundaryEnd (deliverAwake (serveChannels s))

/-- MDLL-A is qualified after a wake (R74): Recovery, and the writes the endpoint held (R436). -/
def wakeComplete (s : State) : State := deliverAwake (wakeRecovery s)

/-! ### The Crust pins (R85, R86) -/

/-- The switches change: in Dormant a difference from the latched word is flagged at once, else the next boundary samples it. -/
def crustChange (word : Nat) (s : State) : State :=
  let s := { s with pins := { s.pins with crust := word } }
  s.when (decide (s.mode = .dormant) && decide (word ≠ s.rd FAB_CRUST.LATCHED)) (fun s => s.wrFlag FAB_CRUST.CHG_DORMANT true)

/-! ### Slices (R20, R93, R94) -/

/-- Single-bit errors that the local memory of a slice in use has corrected are counted. -/
def sliceCorrected (n i : Nat) (s : State) : State :=
  s.when (decide (s.rd FAB_SLICE_STATE.SIDE i ≠ 0) && s.mdllA) (fun s => s.count FAB_SLICE_STATE.CORR i n)

/-- The heads that a recognition slice serves become FAILED, while Chafer runs. -/
def failServed (i h : Nat) (s : State) : State :=
  s.when (s.chafer.running && s.headUsed h && decide (s.rd LOAF_HEAD.SLICE h = i)) (failHead h chSliceFault)

/-- A slice in use is faulted with a code of `FAB_SLICE_STATE.FAULT`; the first code stands until the next Proof. Its heads fail, a
check slice makes every system suspect, Leaven trips with one of its slices. -/
def sliceFault (code i : Nat) (s : State) : State :=
  if s.rd FAB_SLICE_STATE.SIDE i = 0 ∨ s.rd FAB_SLICE_STATE.FAULT i ≠ 0 ∨ !s.mdllA then s
  else
    let s := s.wr FAB_SLICE_STATE.FAULT code i
    let s := s.when (decide (s.rd FAB_SLICE_STATE.FUNC i = funcRecognition)) (fun s => s.upTo (failServed i) 96)
    let s := s.when (decide (s.rd FAB_SLICE_STATE.FUNC i = funcCancellerCheck)) (fun s => s.upTo makeSuspect 192)
    s.when (decide (s.rd FAB_SLICE_STATE.FUNC i = funcLeaven)) (gfeRaise gfeSliceFault)

/-- The configuration scrub: the CRC-32C that program store and constants of slice `i` read back with; one that is not the
recorded one faults the slice. -/
def sliceScrub (i crc : Nat) (s : State) : State := s.when (decide (crc ≠ (tget s.slices i).crc)) (sliceFault 3 i)

/-- A scrub: the slices whose store reads back with another CRC than before, and what local memories have corrected since the last
scrub. -/
def configScrub (read corrected : List (Nat × Nat)) (s : State) : State :=
  s.each (fun p s => sliceScrub p.1 p.2 s) read |>.each (fun p s => sliceCorrected p.2 p.1 s) corrected

/-! ### Junction and memory (R75, R397, R398, R400) -/

/-- The junction sensor has read above 130 °C for ten cycles. -/
def thermalTrip (s : State) : State := raiseHold ⟨8, 0, 0xFF⟩ s

/-- The scrubber meets an error (R395, R397, R398). -/
def scrubError (addr : Nat) (syms : Option Nat) (s : State) : State :=
  match syms with
  | some n => correctedRead addr logReqScrub n s
  | none => uncorrectable addr logReqScrub 0xFF s

/-- A background pass over the DRAM with the errors it meets; while MDLL-B is gated the DRAM is in self-refresh. -/
def dramScrub (errors : List (Nat × Option Nat)) (s : State) : State :=
  if s.mdllB ∧ s.mode ≠ .proof ∧ s.mode ≠ .dormant then (s.each (fun e s => scrubError e.1 e.2 s) errors).inc DMA_MEM_CFG.PASSES else s

/-- A pass over the SRAM. -/
def sramScrub (errors : List (Nat × Option Nat)) (s : State) : State :=
  s.when s.mdllA (fun s => s.each (fun e s => scrubError e.1 e.2 s) errors)

/-- A core's read of the safety region is uncorrectable: Hold, and a bus error. -/
def coreUncorrectable (addr : Nat) (s : State) : State := (uncorrectable addr logReqScarab 0xFF s).emit .busError

end Sys2Proof.Machine
end

