-- ==== Sys2Proof/Machine/ExecModes.lean ====
section
/-!
DEFINITION. The meanings of the commands of reset, time, modes, loaves, flash and slices.
-/
namespace Sys2Proof.Machine

/-! ### Reset and start (R12, R49, R444, R452) -/

/-- COLD_RESET (R12). -/
def execColdReset (s : State) : Answer := .next (coldReset s)

/-- WARM_RESET (R12): asserted; RESET_RELEASE ends it. -/
def execWarmReset (s : State) : Answer := .next (warmReset s)

/-- SUPPLY_MONITOR_TRIP (R452): a deassertion of `PWR_OK`, and so a cold reset. -/
def execSupplyMonitorTrip (s : State) : Answer := .next (coldReset s)

/-- A write of the Scarab pair to a register that it alone may write: while split, core 0's write is an access error (R198);
in reset no core writes. -/
def pairWrites (addr : Nat) (g : State → State) (s : State) : State :=
  if s.joined then g s else if s.zeroAlone then accessError .core0 .notPermitted true addr s else s

/-- SYS_RESET_REQ (R444). -/
def execSysResetReq (key : BitVec 16) (go : Bool) (s : State) : Answer :=
  .next (pairWrites SYS_RESET_REQ.reg.base (sysResetReq key.toNat go) s)

/-- RESET_RELEASE (R49). -/
def execResetRelease (s : State) : Answer := .next (resetRelease s)

/-- OSCILLATOR_QUALIFIED (R49). -/
def execOscillatorQualified (loafSel : BitVec 2) (s : State) : Answer := .next (oscillatorQualified loafSel.toNat s)

/-! ### Time (R8, R275, R359) -/

/-- TICK (R359): with the readbacks that the outputs' pins show now. -/
def execTick (som sov : BitVec 72) (s : State) : Answer := .next (tick som.toNat sov.toNat s)

/-- CYCLE_BOUNDARY (R8): with what the cross-checks of the oscillators measured (R365). -/
def execCycleBoundary (rcDev fxDev : BitVec 16) (s : State) : Answer := .next (cycleBoundary rcDev.toInt fxDev.toInt s)

/-- CONTROL_STEP (R275). -/
def execControlStep (refs : List (Int × Int)) (s : State) : Answer := .next (controlStep refs s)

/-! ### Modes (R45, R52, R59 to R63, R73 to R75, R86) -/

/-- MODE_REQ (R45). -/
def execModeReq (ch : Chan) (tag target : Byte) (s : State) : Answer :=
  .next (command ch.val 0x01 tag.toNat [target.toNat] s)

/-- CRUST_CHANGE (R86). -/
def execCrustChange (word : BitVec 16) (s : State) : Answer := .next (crustChange word.toNat s)

/-- PROOF_ITEM_COMPLETE (R52). -/
def execProofItemComplete (r : ItemResult) (s : State) : Answer :=
  checked (.proofItemComplete r) (proofItemComplete r s)

/-- PROOF_TIMEOUT (R52) of item `i + 1`. -/
def execProofTimeout (i : Fin 12) (s : State) : Answer := .next (proofTimeout (i.val + 1) s)

/-- PROOF_TIMER_HOUR (R59). -/
def execProofTimerHour (s : State) : Answer := .next (proofHour s)

/-- T_PROOF_EXPIRY (R61). -/
def execTProofExpiry (s : State) : Answer := .next (tProofExpiry s)

/-- AUTO_PROOF_START (R61). -/
def execAutoProofStart (hourOver : Bool) (s : State) : Answer := .next (autoProof hourOver s)

/-- RECOVERY_COMPLETE (R63): where the exit conditions hold. -/
def execRecoveryComplete (s : State) : Answer := .next (if s.recoveryDone then enterService s else s)

/-- T_REC_EXPIRY (R63). -/
def execTRecExpiry (s : State) : Answer := .next (recoveryExpiry s)

/-- The code of a wake source, and whether the source can be active: a link counts where the loaf declares it in use (R73). -/
def wakeSource (src : WakeSource) (s : State) : State :=
  match src with
  | .damping => wakeEvent wakeDamping s
  | .link => s.when (anyUpTo s.linkUsed 4) (wakeEvent wakeLink)
  | .servicePort => wakeEvent wakeService s
  | .pcie => wakeEvent wakePcie s
  | .clockMonitor => wakeEvent wakeClock s

/-- DORMANT_WAKE (R73). -/
def execDormantWake (src : WakeSource) (s : State) : Answer := .next (wakeSource src s)

/-- WAKE_TIMER_EXPIRY (R73). -/
def execWakeTimerExpiry (s : State) : Answer := .next (wakeEvent wakeTimer s)

/-- WAKE_COMPLETE (R74). -/
def execWakeComplete (s : State) : Answer := .next (wakeComplete s)

/-- THERMAL (R75). -/
def execThermal (s : State) : Answer := .next (thermalTrip s)

/-! ### Loaves and flash (R84, R87 to R89) -/

/-- LOAF_SELECT (R84). -/
def execLoafSelect (ch : Chan) (tag slot : Byte) (s : State) : Answer :=
  .next (command ch.val 0x02 tag.toNat [slot.toNat] s)

/-- FLASH_ERASE (R87): FAB operation 0x1 on a range. -/
def execFlashErase (dst len : Word) (unlock : Bool) (s : State) : Answer :=
  .next (flashStart opErase unlock ((s.wr FAB_FLASH_DST.VALUE dst.toNat).wr FAB_FLASH_LEN.VALUE len.toNat))

/-- FLASH_PROGRAM (R88): FAB operation 0x2. -/
def execFlashProgram (src dst len : Word) (unlock : Bool) (s : State) : Answer :=
  .next (flashStart opProgram unlock
    (((s.wr FAB_FLASH_SRC.VALUE src.toNat).wr FAB_FLASH_DST.VALUE dst.toNat).wr FAB_FLASH_LEN.VALUE len.toNat))

/-- FLASH_CHECK_SLOT (R87): FAB operation 0x3 on a slot. -/
def execFlashCheckSlot (slot : Word) (s : State) : Answer :=
  .next (flashStart opCheck (s.flag FAB_FLASH_CTRL.BOOT_UNLOCK) (s.wr FAB_FLASH_DST.VALUE slot.toNat))

/-- FLASH_ERASE_SLOT (R88): FAB operation 0x4 on a slot. -/
def execFlashEraseSlot (slot : Word) (s : State) : Answer :=
  .next (flashStart opEraseSlot (s.flag FAB_FLASH_CTRL.BOOT_UNLOCK) (s.wr FAB_FLASH_DST.VALUE slot.toNat))

/-- FLASH_ABORT (R89). -/
def execFlashAbort (s : State) : Answer := .next (flashAbort s)

/-- FLASH_OP_COMPLETE (R87, R89): after `units` units, with the read-back of a program as it came out. -/
def execFlashOpComplete (units : Nat) (ending : FlashEnding) (s : State) : Answer := .next (flashComplete units ending s)

/-! ### Slices (R93) -/

/-- SLICE_WATCHDOG (R93). -/
def execSliceWatchdog (i : Fin 128) (s : State) : Answer := .next (sliceFault 1 i.val s)

/-- SLICE_MEM_UNCORR (R93). -/
def execSliceMemUncorr (i : Fin 128) (s : State) : Answer := .next (sliceFault 2 i.val s)

/-- CONFIG_SCRUB (R93): the read-back CRC of slices whose store has changed, and the errors corrected in local memories. -/
def execConfigScrub (pass : ScrubPass) (s : State) : Answer :=
  .next (configScrub (pass.read.map (fun p => (p.1.val, p.2.toNat))) (pass.corrected.map (fun p => (p.1.val, p.2.toNat))) s)

end Sys2Proof.Machine
end

