-- ==== Sys2Proof/Machine/ExecPower.lean ====
section
/-!
DEFINITION. The meanings of the commands of Leaven, of the bridges and power measurement, of metering, packs and CAN.
-/
namespace Sys2Proof.Machine

/-! ### Leaven (R271 to R301) -/

/-- START (R284). -/
def execStart (s : State) : Answer := .next (gfeSubmit 1 s)

/-- STOP (R284). -/
def execStop (s : State) : Answer := .next (gfeSubmit 2 s)

/-- ABORT (R285). -/
def execAbort (s : State) : Answer := .next (gfeSubmit 3 s)

/-- SYNC (R284). -/
def execSync (s : State) : Answer := .next (gfeSubmit 4 s)

/-- BREAKER_CLOSED (R297). -/
def execBreakerClosed (s : State) : Answer := .next (gfeSubmit 5 s)

/-- GFE_KICK (R286). -/
def execGfeKick (s : State) : Answer := .next (gfeKick s)

/-- SUP_LOST (R286). -/
def execSupLost (s : State) : Answer := .next (supLost s)

/-- SETPOINT_WRITE (R279): of `GFE_SET1` or of `GFE_SET0`. -/
def execSetpointWrite (set1 : Bool) (value : Word) (s : State) : Answer :=
  .next (if set1 then writeSet1 value.toNat s else writeSet0 value.toNat s)

/-- BLACKSTART_BACKOFF_END (R287). -/
def execBlackstartBackoffEnd (s : State) : Answer := .next (backoffEnd s)

/-- BLACKSTART_RAMP_END (R287). -/
def execBlackstartRampEnd (s : State) : Answer := .next (rampEnd s)

/-- BS_OVERLOAD (R287). -/
def execBsOverload (s : State) : Answer := .next (bsOverload s)

/-- JOIN (R289). -/
def execJoin (s : State) : Answer := .next (joinEnd s)

/-- AUTO_BS (R290). -/
def execAutoBs (s : State) : Answer := .next (autoStart s)

/-- FRT_END (R292). -/
def execFrtEnd (s : State) : Answer := .next (frtEnd s)

/-- FRT_TIME (R293). -/
def execFrtTime (s : State) : Answer := .next (frtTime s)

/-- FREQ (R276). -/
def execFreq (s : State) : Answer := .next (freqTrip s)

/-- OVERVOLT (R277). -/
def execOvervolt (s : State) : Answer := .next (overvolt s)

/-- DC_WINDOW_TIMEOUT (R274). -/
def execDcWindowTimeout (j : Fin 12) (high : Bool) (s : State) : Answer := .next (dcTimeout j.val high s)

/-- AUTO_SYNC (R295). -/
def execAutoSync (s : State) : Answer := .next (autoSync s)

/-- SYNC_GRID_LOST (R280). -/
def execSyncGridLost (s : State) : Answer := .next (syncGridLost s)

/-- SYNC_TIMEOUT (R280). -/
def execSyncTimeout (s : State) : Answer := .next (syncTimeout s)

/-- CLOSE_PERMIT_QUALIFIED (R296). -/
def execClosePermitQualified (s : State) : Answer := .next (closePermit s)

/-- FF_COPY (R298): the oldest copy that waits in the feed-forward ring is read, where it is one of these fields. -/
def execFfCopy (entered conf timeNs : Nat) (s : State) : Answer := .next (takeCopy entered conf timeNs s)

/-- FF_RESERVATION_EXPIRY (R300). -/
def execFfReservationExpiry (s : State) : Answer := .next (ffExpiry s)

/-! ### Bridges and power measurement (R307 to R325) -/

/-- DSAT (R316): the filtered level of a leg's pin. -/
def execDsat (m : Fin 36) (asserted : Bool) (s : State) : Answer := .next (dsat m.val asserted s)

/-- WINDOW_CROSSING (R317): the filtered input of a channel's comparator, in codes before correction. -/
def execWindowCrossing (c : Fin 48) (input : Int) (s : State) : Answer := .next (windowCrossing c.val input s)

/-- PWM_UPDATE_POINT (R308). -/
def execPwmUpdatePoint (j : Fin 12) (peak : Bool) (s : State) : Answer := .next (updatePoint j.val peak s)

/-- STEP_UPDATE (R311): the duties, or none where they came late. -/
def execStepUpdate (j : Fin 12) (duties : Option (BitVec 24 × BitVec 24 × BitVec 24)) (s : State) : Answer :=
  .next (stepUpdate j.val (duties.map (fun d => (d.1.toNat, d.2.1.toNat, d.2.2.toNat))) s)

/-- DITHER_HOP (R314). -/
def execDitherHop (g : Fin 12) (s : State) : Answer := .next (ditherHop g.val s)

/-- LOAD (R312). -/
def execLoad (j : Fin 12) (late : Bool) (s : State) : Answer := .next (loadDuties j.val late s)

/-- CLR_TRIP (R320). -/
def execClrTrip (j : Fin 12) (s : State) : Answer := .next (clrTrip j.val s)

/-- BRIDGE_ENABLE (R307). -/
def execBridgeEnable (j : Fin 12) (write : EnableWrite) (s : State) : Answer := .next (enableWrite j.val write s)

/-- PMA_CONVERSION (R323): the eight codes of a group. -/
def execPmaConversion (u : Fin 6) (duringBurst : Bool) (codes : List (BitVec 16)) (s : State) : Answer :=
  checked (.pmaConversion u duringBurst codes) (pmaConversion u.val duringBurst (codes.map BitVec.toInt) s)

/-! ### Metering and packs (R332 to R345) -/

/-- METER_SAMPLE (R332). -/
def execMeterSample (k : Fin 32) (v i : BitVec 24) (s : State) : Answer := .next (meterSample k.val v.toInt i.toInt s)

/-- METER_STALL (R333). -/
def execMeterStall (k : Fin 32) (s : State) : Answer := .next (meterStall k.val s)

/-- LEDGER_CLOSE (R334). -/
def execLedgerClose (s : State) : Answer := .next (ledgerClose s)

/-- LEDGER_RECORD_WRITTEN (R336): the read-back as it came out. -/
def execLedgerRecordWritten (matching : Bool) (s : State) : Answer := .next (recordWritten matching s)

/-- LEDGER_READ (R340). -/
def execLedgerRead (ch : Chan) (tag str max : Byte) (firstSeq : Word) (s : State) : Answer :=
  .next (command ch.val 0x08 tag.toNat ([str.toNat, max.toNat, 0, 0] ++ toBytesLE 4 firstSeq.toNat) s)

/-- PACK_FRAME (R344): or a remote frame, or one with an error. -/
def execPackFrame (c : Fin 8) (ext : Bool) (kind : RxKind) (id : BitVec 29) (data : List Byte) (s : State) : Answer :=
  checked (.packFrame c ext kind id data) (packFrame c.val ext kind id.toNat (byteNats data) s)

/-- PACK_SILENT (R345). -/
def execPackSilent (k : Fin 32) (s : State) : Answer := .next (packSilent k.val s)

/-- PACK_MALFORMED_EXPIRY (R345). -/
def execPackMalformedExpiry (k : Fin 32) (s : State) : Answer := .next (packMalformedEnd k.val s)

/-! ### CAN (R350 to R353) -/

/-- CAN_TX_POST (R350). -/
def execCanTxPost (c : Fin 8) (tag : BitVec 16) (queue : BitVec 2) (len : BitVec 7) (s : State) : Answer :=
  .next (canPost c.val tag.toNat queue.toNat len.toNat s)

/-- CAN_TX_ABORT (R352): where the frame is when the abort is sampled, and its delay where its completion wins. -/
def execCanTxAbort (c : Fin 8) (tag : BitVec 16) (stage : Fin 3) (delay : Nat) (s : State) : Answer :=
  .next (canAbort c.val tag.toNat stage.val delay s)

/-- CAN_TX_COMPLETE (R351, R353): an attempt to send ends. -/
def execCanTxComplete (c : Fin 8) (attempt : CanAttempt) (s : State) : Answer := .next (canComplete c.val attempt s)

/-- BULK_DEADLINE (R350). -/
def execBulkDeadline (check : BulkCheck) (s : State) : Answer := .next (bulkDeadline check.ctrl.val check.started s)

/-- BUS_OFF (R353). -/
def execBusOff (c : Fin 8) (s : State) : Answer := .next (busOff c.val s)

/-- BUS_OFF_RECOVERY (R353). -/
def execBusOffRecovery (c : Fin 8) (s : State) : Answer := .next (busOffRecovery c.val s)

end Sys2Proof.Machine
end

