-- ==== Sys2Proof/Machine/CoreMem.lean ====
section
/-!
DEFINITION. The cores' loads and stores of memory (R198, R393 to R400).
-/
namespace Sys2Proof.Machine

/-- Who asks, as the memory-error log names it. -/
def coreLogReq : Requester → Nat
  | .app => logReqApp | .hardware => logReqApp
  | .scarab => logReqScarab | .core0 => logReqScarab | .core1 => logReqScarab
  | .host => logReqHost | .sv => logReqHost | .slice _ => logReqApp
  | .ring r => r.val

/-- The requester may store to a range of memory (R394): nobody to the flash; to the safety region the joined pair alone; a core of
the split pair only to its own scratch region of SRAM (R198). -/
def State.mayStore (s : State) (req : Requester) (a n : Nat) : Bool :=
  let scratch := fun core1 => (List.range n).all (fun k => Config.scratch core1 (a + k)) && (inSafety a n || inControl a n)
  let open_ := inControl a n || inDram a n
  match req with
  | .scarab => if s.joined then inSafety a n || open_ else false
  | .core0 => scratch false
  | .core1 => scratch true
  | .app => open_ | .hardware => open_ | .host => open_ | .sv => open_ | .ring _ => open_ | .slice _ => open_

/-- The range lies in one memory. -/
def inMemory (a n : Nat) : Bool := (memKindAt a).isSome && decide (memKindAt (a + n - 1) = memKindAt a)

/-- An access waits for a DRAM in self-refresh (R397): it is made once MDLL-B is back. -/
def State.coreWaits (s : State) (a n : Nat) : Bool := touchesDram a n && (!s.mdllB || decide (s.mode = .dormant))

/-- A word of memory is read for a core: counted where it was corrected, a bus error where it cannot be read (R400). -/
def coreReadsWord (req : Requester) (a : Nat) (w : WordRead) (g : State → State) (s : State) : State :=
  match w with
  | .clean => g s
  | .corrected n => g (correctedRead a (coreLogReq req) n.val s)
  | .damaged => (uncorrectable a (coreLogReq req) 0xFF s).emit .busError

/-- A store: one that the requester may not make is discarded, and recorded (R394); one to the DRAM reads the word that it writes in
part (R396). -/
def coreStore (req : Requester) (a n v : Nat) (w : WordRead) (s : State) : State :=
  if !inMemory a n then accessError req .unmapped true a s
  else if !s.mayStore req a n then accessError req .notPermitted true a s
  else if s.coreWaits a n then s
  else coreReadsWord req a (if inDram a 1 then w else .clean) (fun s => s.memWrite a (toBytesLE n v)) s

/-- A load. -/
def coreLoad (req : Requester) (a n : Nat) (w : WordRead) (s : State) : State :=
  if !inMemory a n then (accessError req .unmapped false a s).emit (.readData 0)
  else if s.coreWaits a n then s
  else coreReadsWord req a w (fun s => s.emit (.readData (s.memLE a n))) s

end Sys2Proof.Machine
end

