-- ==== Sys2Proof/Machine/Requests.lean ====
section
/-!
DEFINITION. An access by any requester, of a register or of memory (R9 to R14, R185, R198, R207, R393).
-/
namespace Sys2Proof.Machine

/-- Who a core of the Scarab pair speaks as (R185): in lockstep core 0 is the pair, and core 1 reaches the comparator only. -/
def State.coreVoice (s : State) (core1 : Bool) : Option Requester :=
  if s.joined then (if core1 then none else some .scarab) else some (if core1 then .core1 else .core0)

/-- The number that an access of a width carries. -/
def Width.number (w : Width) (v : Nat) : Nat := v + 2 ^ 32 * w.high.toNat

/-- A store of a core: to memory or to a register. -/
def deviceWrite (req : Requester) (a : Nat) (w : Width) (v : Nat) (s : State) : State :=
  if (memKindAt a).isSome then coreStore req a w.bytes.val (Width.number w v) w.word s else registerWrite req a w.bytes.val v s

/-- A load of a core. -/
def deviceRead (req : Requester) (a : Nat) (w : Width) (s : State) : State :=
  if (memKindAt a).isSome then coreLoad req a w.bytes.val w.word s
  else answerCore w.bytes.val (registerRead req a w.bytes.val s)

/-- A write by a core of the pair. -/
def coreWrites (core1 : Bool) (a : Nat) (w : Width) (v : Nat) (s : State) : State :=
  match s.coreVoice core1 with
  | some req => deviceWrite req a w v s
  | none => s

/-- A read by a core of the pair. -/
def coreReads (core1 : Bool) (a : Nat) (w : Width) (s : State) : State :=
  match s.coreVoice core1 with
  | some req => deviceRead req a w s
  | none => s

/-- A write by a requester: the host's and the service port's come through their ports. -/
def requesterWrites (req : Requester) (a : Nat) (w : Width) (v : Nat) (s : State) : State :=
  match req with
  | .host => hostWrite a w.bytes.val v s
  | .sv => svFrame (registerWrite .sv a w.bytes.val v) s
  | .scarab => deviceWrite .scarab a w v s
  | .core0 => coreWrites false a w v s
  | .core1 => coreWrites true a w v s
  | .app => deviceWrite .app a w v s
  | .ring r => registerWrite (.ring r) a w.bytes.val v s
  | .slice i => sliceAccess i.val true a s
  | .hardware => deviceWrite .hardware a w v s

/-- A read by a requester. -/
def requesterReads (req : Requester) (a : Nat) (w : Width) (s : State) : State :=
  match req with
  | .host => hostRead a w.bytes.val s
  | .sv => svFrame (fun s => answerRead (registerRead .sv a w.bytes.val s)) s
  | .scarab => deviceRead .scarab a w s
  | .core0 => coreReads false a w s
  | .core1 => coreReads true a w s
  | .app => deviceRead .app a w s
  | .ring r => answerRead (registerRead (.ring r) a w.bytes.val s)
  | .slice i => sliceAccess i.val false a s
  | .hardware => deviceRead .hardware a w s

/-- The debugger reads or writes what a core may reach, while the pair is SPLIT only (R207). -/
def debugRead (core1 : Bool) (a : Nat) (w : Width) (s : State) : State :=
  s.when (decide (s.rd LKS_STATUS.STATE = pairSplit)) (coreReads core1 a w)
def debugWrite (core1 : Bool) (a : Nat) (w : Width) (v : Nat) (s : State) : State :=
  s.when (decide (s.rd LKS_STATUS.STATE = pairSplit)) (coreWrites core1 a w v)

/-- What comes through the test access port (R206, R207, R461). -/
def debugAsks (request : DebugRequest) (s : State) : State :=
  match request with
  | .instruction i => { s with tap := i }
  | .halt core1 => debugHalt core1 s
  | .resume core1 => debugResume core1 s
  | .read core1 a w => debugRead core1 a.toNat w s
  | .write core1 a w v => debugWrite core1 a.toNat w v.toNat s

end Sys2Proof.Machine
end

