-- ==== Sys2Proof/Machine/ExecSafety.lean ====
section
/-!
DEFINITION. The meanings of the commands of counting, of the Scarab pair, of the safety outputs, of the links and of the check
unit.
-/
namespace Sys2Proof.Machine

/-! ### Counting (R165 to R181) -/

/-- The payload of a SECTION_RESET (R434). -/
def resetPayload (sec : Byte) (op : Nat) (token : Nat) : List Nat := [sec.toNat, op] ++ toBytesLE 2 token

/-- SECTION_RESET with SWEEP (R172). -/
def execSectionResetSweep (ch : Chan) (tag sec : Byte) (s : State) : Answer :=
  .next (command ch.val 0x03 tag.toNat (resetPayload sec 1 0) s)

/-- SECTION_RESET with CONFIRMED (R172). -/
def execSectionResetConfirmed (ch : Chan) (tag sec : Byte) (s : State) : Answer :=
  .next (command ch.val 0x03 tag.toNat (resetPayload sec 2 0) s)

/-- SECTION_RESET with CONFIRM (R175). -/
def execSectionResetConfirm (ch : Chan) (tag sec : Byte) (token : BitVec 16) (s : State) : Answer :=
  .next (command ch.val 0x03 tag.toNat (resetPayload sec 3 token.toNat) s)

/-- SECTION_RESET with ABORT (R177). -/
def execSectionResetAbort (ch : Chan) (tag sec : Byte) (s : State) : Answer :=
  .next (command ch.val 0x03 tag.toNat (resetPayload sec 4 0) s)

/-- SWEEP_DONE (R174). -/
def execSweepDone (x : Fin 64) (s : State) : Answer := .next (sweepDone x.val s)

/-- CONFIRMED (R175). -/
def execConfirmed (x : Fin 64) (s : State) : Answer := .next (confirmedDone x.val s)

/-- T_PREP_EXPIRY (R174). -/
def execTPrepExpiry (x : Fin 64) (s : State) : Answer := .next (tPrepExpiry x.val s)

/-- T_CONF_MAX_EXPIRY (R175). -/
def execTConfMaxExpiry (x : Fin 64) (s : State) : Answer := .next (tConfMaxExpiry x.val s)

/-- UNDERCOUNT (R168). -/
def execUndercount (x : Fin 64) (s : State) : Answer := .next (undercount x.val s)

/-- LINK_HOLD_EXPIRY (R181). -/
def execLinkHoldExpiry (x : Fin 64) (s : State) : Answer := .next (linkHoldExpiry x.val s)

/-- PEER_DISAGREE (R180). -/
def execPeerDisagree (x : Fin 64) (s : State) : Answer := .next (peerDisagree x.val s)

/-- CNT_FORCE (R165, R213). -/
def execCntForce (x : Fin 64) (s : State) : Answer := .next (pairWrites CNT_FORCE.reg.base (cntForce x.val) s)

/-! ### The Scarab pair (R190 to R206) -/

/-- LOCKSTEP (R193): the fault as both halves of the comparator see it. -/
def execLockstep (port : BitVec 3) (half inst : BitVec 2) (lane lanes : Byte) (pc : Word) (s : State) : Answer :=
  checked (.lockstep port half inst lane lanes pc)
    (pairFault ⟨false, port.toNat, half.toNat, inst.toNat, lane.toNat, lanes.toNat, pc.toNat⟩ s)

/-- COMPARATOR (R190): the halves disagree. -/
def execComparator (port : BitVec 3) (half inst : BitVec 2) (lane lanes : Byte) (pc : Word) (s : State) : Answer :=
  checked (.comparator port half inst lane lanes pc)
    (pairFault ⟨true, port.toNat, half.toNat, inst.toNat, lane.toNat, lanes.toNat, pc.toNat⟩ s)

/-- HEARTBEAT_LOSS (R192). -/
def execHeartbeatLoss (y : Bool) (s : State) : Answer := .next (heartbeatLoss y s)

/-- DEBUG_HALT (R206, R207): a halt request, or another request of the debugger. -/
def execDebugHalt (request : DebugRequest) (s : State) : Answer := checked (.debugHalt request) (debugAsks request s)

/-- SPLIT (R199). -/
def execSplit (ch : Chan) (tag : Byte) (s : State) : Answer := .next (command ch.val 0x06 tag.toNat [] s)

/-- REJOIN (R202), with what its Weevil run and its image check are to find. -/
def execRejoin (ch : Chan) (tag target : Byte) (weevilFail : Option (Nat × Nat)) (image : ImageCheck) (s : State) : Answer :=
  checked (.rejoin ch tag target weevilFail image) (rejoinCommand ch.val tag.toNat target.toNat weevilFail image s)

/-! ### Safety outputs (R219 to R230) -/

/-- SOP_COMMIT (R220), `us` microseconds after the cycle boundary. -/
def execSopCommit (gen : BitVec 16) (us : Nat) (s : State) : Answer :=
  .next (pairWrites SOP_COMMIT.reg.base (sopCommit gen.toNat us) s)

/-- SOP_UNLOCK (R230). -/
def execSopUnlock (channel : BitVec 7) (s : State) : Answer :=
  .next (pairWrites SOP_UNLOCK.reg.base (sopUnlock channel.toNat) s)

/-- OFF_PULSE (R226). -/
def execOffPulse (o : Fin 72) (s : State) : Answer := .next (offPulse o.val s)

/-- OFF_PULSE_END (R219, R226): with the readbacks at the end of the pulse. -/
def execOffPulseEnd (o : Fin 72) (som sov : Bool) (s : State) : Answer := .next (offPulseEnd o.val som sov s)

/-- SPLIT_SWITCH_TEST (R227). -/
def execSplitSwitchTest (o : Fin 72) (s : State) : Answer := .next (splitSwitchTest o.val s)

/-- SPLIT_SWITCH_TEST_END (R227): with the readbacks of the steps H and L. -/
def execSplitSwitchTestEnd (o : Fin 72) (somH sovH somL sovL : Bool) (s : State) : Answer :=
  .next (splitSwitchTestEnd o.val somH sovH somL sovL s)

/-- OUTPUT_TEST_LATE (R225). -/
def execOutputTestLate (o : Fin 72) (s : State) : Answer := .next (outputTestLate o.val s)

/-! ### Links (R238 to R248) -/

/-- FRAME_TRANSMIT (R238): every link that sends starts its frame. -/
def execFrameTransmit (s : State) : Answer := .next (s.upTo frameTransmit 4)

/-- FRAME_RECEIVED (R245): a frame ends `after` nanoseconds after the last tick boundary; `lead` is the levels to the end of its
delimiter, `line` those after it, by half bit periods (R237). -/
def execFrameReceived (l : Fin 4) (lead line : List Bool) (after : Nat) (s : State) : Answer :=
  .next (frameReceived l.val lead line after s)

/-- FRAME_MISSING (R248). -/
def execFrameMissing (l : Fin 4) (s : State) : Answer := .next (frameMissing l.val s)

/-! ### Check unit (R261 to R267) -/

/-- A write of a bank's CTRL by its owner: bank S by the joined pair, bank A by the application cores. -/
def bankWrite (b : Nat) (g : State → State) (s : State) : State :=
  if b = 0 then pairWrites (CHK_x_CTRL.reg.addr b) g s else g s

/-- CHK_GO (R261). -/
def execChkGo (b : Fin 2) (tag : BitVec 16) (start : BitVec 2) (s : State) : Answer :=
  .next (bankWrite b.val (chkGo b.val tag.toNat start.toNat) s)

/-- CHK_ABORT (R267), with `entered` bytes entered. -/
def execChkAbort (b : Fin 2) (entered suspUs : Nat) (s : State) : Answer :=
  .next (bankWrite b.val (chkAbort b.val entered suspUs) s)

/-- CHK_SCAN_COMPLETE (R265, R268). -/
def execChkScanComplete (b : Fin 2) (suspUs : Nat) (found : MemFound) (s : State) : Answer :=
  .next (chkComplete b.val suspUs found s)

end Sys2Proof.Machine
end

