-- ==== Sys2Proof/Machine/ExecShared.lean ====
section
/-!
DEFINITION. The meanings of the commands of clocks, Ethernet and network time, memory and rings, host and service port, Crumb,
and of plain register accesses.
-/
namespace Sys2Proof.Machine

/-! ### Clocks (R358 to R369) -/

/-- STROBE (R362). -/
def execStrobe (tag : BitVec 16) (s : State) : Answer := .next (strobe tag.toNat s)

/-- STROBE_DRAIN_END (R362). -/
def execStrobeDrainEnd (drained : Bool) (s : State) : Answer := .next (strobeDrainEnd drained s)

/-- MDLL_QUALIFIED (R363): of MDLL-B, or of MDLL-A `us` microseconds after its gate closed. -/
def execMdllQualified (b : Bool) (us : Nat) (s : State) : Answer := .next (if b then qualifyB s else qualifyA us s)

/-- MDLL_LOCK_LOSS (R365). -/
def execMdllLockLoss (b : Bool) (s : State) : Answer := .next (gateMdll b s)

/-- PERIOD_GUARD (R364). -/
def execPeriodGuard (b : Bool) (s : State) : Answer := .next (periodGuard b s)

/-- CLK_A_LOSS (R65). -/
def execClkALoss (s : State) : Answer := .next (clkALoss s)

/-- REF_LOSS (R365). -/
def execRefLoss (s : State) : Answer := .next (refLoss s)

/-- REFERENCE_REQUALIFIED (R365). -/
def execReferenceRequalified (s : State) : Answer := .next (refBack s)

/-- TS_UNLOCK (R365). -/
def execTsUnlock (s : State) : Answer := .next (tsUnlock s)

/-- TS_QUALIFIED (R369). -/
def execTsQualified (s : State) : Answer := .next (tsQualified s)

/-- FX_STOP (R358). -/
def execFxStop (s : State) : Answer := .next (fxStop s)

/-- CRYSTAL_RETURN (R358). -/
def execCrystalReturn (s : State) : Answer := .next (crystalReturn s)

/-- RC_STOP (R365). -/
def execRcStop (s : State) : Answer := .next (rcStop s)

/-- TS_FREQ_WRITE (R367). -/
def execTsFreqWrite (value : Word) (s : State) : Answer := .next (tsFreqWrite value.toInt s)

/-! ### Ethernet and network time (R376 to R388) -/

/-- PTP_FRAME_RECEIVED (R376). -/
def execPtpFrameReceived (p : Fin 3) (pinNs : Nat) (frame : List Byte) (s : State) : Answer :=
  .next (frameReceivedEth p.val pinNs (byteNats frame) s)

/-- TX_TIMESTAMP (R378). -/
def execTxTimestamp (p : Fin 3) (msgType : BitVec 4) (seq : BitVec 16) (tag : Byte) (pinNs : Nat) (s : State) : Answer :=
  .next (txTimestamp p.val msgType.toNat seq.toNat tag.toNat pinNs s)

/-- TXTS_POP (R379): a read of `ETH_P_TXTS0` by an application core. -/
def execTxtsPop (p : Fin 3) (s : State) : Answer :=
  .next (answerRead (registerRead .app (ETH_P_TXTS0.reg.addr p.val) 4 s))

/-- SYNC_MEASUREMENT (R382). -/
def execSyncMeasurement (s : State) : Answer := .next (syncMeasurement s)

/-- MASTER_LOST (R384). -/
def execMasterLost (s : State) : Answer := .next (masterLost s)

/-- PARENT_WRITE (R384): of `ETH_SRV_CTRL`, or of a word of the parent identity. -/
def execParentWrite (word : Fin 4) (value : Word) (s : State) : Answer := .next (srvWrite word.val value.toNat s)

/-- STEP_ARM (R387). -/
def execStepArm (ch : Chan) (tag : Byte) (s : State) : Answer := .next (command ch.val 0x05 tag.toNat [] s)

/-- ARM_EXPIRY (R387). -/
def execArmExpiry (s : State) : Answer := .next (armExpiry s)

/-- EGRESS_COMPLETE (R381). -/
def execEgressComplete (r : Fin 32) (delayUs : Nat) (s : State) : Answer := .next (egressComplete r.val delayUs s)

/-- EGRESS_DEADLINE (R381). -/
def execEgressDeadline (r : Fin 32) (s : State) : Answer := .next (egressDeadline r.val s)

/-- ETHERNET_LINK_DOWN (R410). -/
def execEthernetLinkDown (p : Fin 3) (s : State) : Answer := .next (ethLinkDown p.val s)

/-! ### Memory and rings (R395 to R419) -/

/-- RING_POST (R407): a write of HEAD by the ring's owner. -/
def execRingPost (r : Fin 32) (head : BitVec 16) (s : State) : Answer := .next (ringPost r.val head.toNat s)

/-- DESCRIPTOR_COMPLETE (R411). -/
def execDescriptorComplete (r : Fin 32) (v : Service) (s : State) : Answer :=
  checked (.descriptorComplete r v) (descriptorComplete r.val v s)

/-- RING_START (R419). -/
def execRingStart (r : Fin 32) (s : State) : Answer := .next (ringStart r.val s)

/-- RING_STOP (R419). -/
def execRingStop (r : Fin 32) (s : State) : Answer := .next (ringStop r.val s)

/-- RING_RESUME (R416). -/
def execRingResume (r : Fin 32) (s : State) : Answer := .next (ringResume r.val s)

/-- RING_ABORT (R418). -/
def execRingAbort (r : Fin 32) (seq : BitVec 16) (s : State) : Answer := .next (ringAbort r.val seq.toNat s)

/-- RING_FLUSH (R419). -/
def execRingFlush (r : Fin 32) (s : State) : Answer := .next (ringFlush r.val s)

/-- TRANSLATION_FAULT (R416). -/
def execTranslationFault (r : Fin 32) (offset : Nat) (write : Bool) (v : Service) (s : State) : Answer :=
  checked (.translationFault r offset write v) (translationFault r.val offset write v s)

/-- CLASS_B_DEADLINE (R413). -/
def execClassBDeadline (r : Fin 32) (s : State) : Answer := .next (classBDeadline r.val s)

/-- IOMMU_INVALIDATE (R406). -/
def execIommuInvalidate (scope : BitVec 2) (dom : BitVec 4) (page : BitVec 20) (s : State) : Answer :=
  .next (iommuInvalidate scope.toNat dom.toNat (page.toNat * 4096) s)

/-- ERR_LOG_POP (R401): a read of `DMA_ERR_LOG0` by an application core. -/
def execErrLogPop (s : State) : Answer := .next (answerRead (registerRead .app DMA_ERR_LOG0.reg.base 4 s))

/-- Addresses and corrected symbols of a scrub's errors. -/
def scrubList (es : List ScrubError) : List (Nat × Option Nat) := es.map (fun e => (e.addr.toNat, e.syms.map Fin.val))

/-- DRAM_SCRUB (R397): a background pass with the errors it meets. -/
def execDramScrub (es : List ScrubError) (s : State) : Answer := checked (.dramScrub es) (dramScrub (scrubList es) s)

/-- SRAM_SCRUB (R398). -/
def execSramScrub (es : List ScrubError) (s : State) : Answer := checked (.sramScrub es) (sramScrub (scrubList es) s)

/-- SRAM_UNCORR (R400). -/
def execSramUncorr (addr : Word) (s : State) : Answer := checked (.sramUncorr addr) (coreUncorrectable addr.toNat s)

/-! ### Host (R426 to R438) -/

/-- PCIE_LINK_RESET (R427). -/
def execPcieLinkReset (kind : LinkReset) (s : State) : Answer := .next (pcieLinkReset kind s)

/-- HOST_MEMORY_ACCESS (R426). -/
def execHostMemoryAccess (place : HostSpace) (len : Nat) (write : Option (List Byte)) (late : Bool) (found : MemFound) (s : State) :
    Answer :=
  checked (.hostMemoryAccess place len write late found) (hostMemory place len (write.map byteNats) late found s)

/-- IRQ_UNMASK (R428). -/
def execIrqUnmask (k : Fin 32) (s : State) : Answer := .next (irqUnmask k.val s)

/-- SUMMARY (R438): posted; the record is latched at the next cycle boundary. -/
def execSummary (ch : Chan) (tag : Byte) (s : State) : Answer := .next (command ch.val 0x5A tag.toNat [] s)

/-- The payload of a SNAP: none, or a time (R434). -/
def snapPayload : Option (Word × BitVec 48) → List Nat
  | none => []
  | some (ns, sec) => toBytesLE 4 ns.toNat ++ toBytesLE 6 sec.toNat ++ [0, 0]

/-- SNAP (R442). -/
def execSnap (ch : Chan) (tag : Byte) (time : Option (Word × BitVec 48)) (s : State) : Answer :=
  .next (command ch.val 0x04 tag.toNat (snapPayload time) s)

/-- UNKNOWN_CMD (R432): a request with a code that has no command. -/
def execUnknownCmd (ch : Chan) (tag code : Byte) (payload : List Byte) (s : State) : Answer :=
  checked (.unknownCmd ch tag code payload) (command ch.val code.toNat tag.toNat (byteNats payload) s)

/-- COMMAND_TIMEOUT (R435). -/
def execCommandTimeout (ch : Chan) (s : State) : Answer := .next (commandTimeout ch.val s)

/-! ### Service port (R429, R430) -/

/-- SV_STATUS: opcode 0x05. -/
def execSvStatus (s : State) : Answer := .next (svStatus s)

/-- SV_REG_READ: opcode 0x0B. -/
def execSvRegRead (addr : Word) (words : Nat) (s : State) : Answer := .next (svRegRead addr.toNat words s)

/-- SV_REG_WRITE: opcode 0x02. -/
def execSvRegWrite (addr : Word) (values : List Word) (s : State) : Answer := .next (svRegWrite addr.toNat (wordNats values) s)

/-- SV_MEM_READ: opcode 0x0D. -/
def execSvMemRead (addr : Word) (len : Nat) (read : PortRead) (s : State) : Answer :=
  checked (.svMemRead addr len read) (svMemRead addr.toNat len read.ready read.found s)

/-- SV_MEM_WRITE: opcode 0x12. -/
def execSvMemWrite (addr : Word) (write : PortWrite) (s : State) : Answer :=
  checked (.svMemWrite addr write) (svMemWrite addr.toNat (byteNats write.bytes) write.found s)

/-- SV_POST: opcode 0x20. -/
def execSvPost (bytes : List Byte) (s : State) : Answer := checked (.svPost bytes) (svPost (byteNats bytes) s)

/-- SV_READ_RESPONSE: opcode 0x21. -/
def execSvReadResponse (len : Nat) (s : State) : Answer := .next (svReadResponse len s)

/-- SV_UNKNOWN_OPCODE. -/
def execSvUnknownOpcode (opcode : Byte) (s : State) : Answer := checked (.svUnknownOpcode opcode) (svUnknown s)

/-- SV_FRAME_CUT: a register write cut short after whole words. -/
def execSvFrameCut (addr : Word) (words : List Word) (s : State) : Answer := .next (svFrameCut addr.toNat (wordNats words) s)

/-! ### Crumb (R439 to R442) -/

/-- SNAP_TRIG (R439): source PIN. -/
def execSnapTrig (s : State) : Answer := .next (crumb 1 0 0 s)

/-- TIME_MATCH (R439): source TIME. -/
def execTimeMatch (s : State) : Answer := .next (snapTimeMatch s)

/-- TRIGGER (R439): source FIRMWARE. -/
def execTrigger (s : State) : Answer := .next (crumb 6 0 0 s)

/-- UNLOCK (R441). -/
def execUnlock (s : State) : Answer := .next (snapUnlock s)

/-- ARM (R442). -/
def execArm (s : State) : Answer := .next (snapArmWrite s)

/-- DISARM (R445). -/
def execDisarm (s : State) : Answer := .next (snapDisarm s)

/-! ### Register accesses (R9 to R14), and the cores' loads and stores (R393) -/

/-- REGISTER_WRITE (R11). -/
def execRegisterWrite (req : Requester) (addr : Word) (size : Width) (value : Word) (s : State) : Answer :=
  checked (.registerWrite req addr size value) (requesterWrites req addr.toNat size value.toNat s)

/-- REGISTER_READ (R11). -/
def execRegisterRead (req : Requester) (addr : Word) (size : Width) (s : State) : Answer :=
  checked (.registerRead req addr size) (requesterReads req addr.toNat size s)

end Sys2Proof.Machine
end

