-- ==== Sys2Proof/Machine/Dispatch.lean ====
section
/-!
DEFINITION. The meaning of every command: one arm for each constructor, in the order of the table.
-/
namespace Sys2Proof.Machine

def exec (i : Instr) (s : State) : Host.Outcome State Fault Refusal :=
  match i with
  | .coldReset => Sys2Proof.Machine.execColdReset s
  | .warmReset => Sys2Proof.Machine.execWarmReset s
  | .supplyMonitorTrip => Sys2Proof.Machine.execSupplyMonitorTrip s
  | .sysResetReq key go => Sys2Proof.Machine.execSysResetReq key go s
  | .oscillatorQualified loafSel => Sys2Proof.Machine.execOscillatorQualified loafSel s
  | .tick som sov => Sys2Proof.Machine.execTick som sov s
  | .cycleBoundary rcDev fxDev => Sys2Proof.Machine.execCycleBoundary rcDev fxDev s
  | .controlStep refs => Sys2Proof.Machine.execControlStep refs s
  | .modeReq ch tag target => Sys2Proof.Machine.execModeReq ch tag target s
  | .crustChange word => Sys2Proof.Machine.execCrustChange word s
  | .proofItemComplete result => Sys2Proof.Machine.execProofItemComplete result s
  | .proofTimeout item => Sys2Proof.Machine.execProofTimeout item s
  | .proofTimerHour => Sys2Proof.Machine.execProofTimerHour s
  | .tProofExpiry => Sys2Proof.Machine.execTProofExpiry s
  | .autoProofStart hourOver => Sys2Proof.Machine.execAutoProofStart hourOver s
  | .recoveryComplete => Sys2Proof.Machine.execRecoveryComplete s
  | .tRecExpiry => Sys2Proof.Machine.execTRecExpiry s
  | .dormantWake source => Sys2Proof.Machine.execDormantWake source s
  | .wakeTimerExpiry => Sys2Proof.Machine.execWakeTimerExpiry s
  | .wakeComplete => Sys2Proof.Machine.execWakeComplete s
  | .thermal => Sys2Proof.Machine.execThermal s
  | .loafSelect ch tag slot => Sys2Proof.Machine.execLoafSelect ch tag slot s
  | .flashErase dst len bootUnlock => Sys2Proof.Machine.execFlashErase dst len bootUnlock s
  | .flashProgram src dst len bootUnlock => Sys2Proof.Machine.execFlashProgram src dst len bootUnlock s
  | .flashCheckSlot slot => Sys2Proof.Machine.execFlashCheckSlot slot s
  | .flashEraseSlot slot => Sys2Proof.Machine.execFlashEraseSlot slot s
  | .flashAbort => Sys2Proof.Machine.execFlashAbort s
  | .flashOpComplete units verified => Sys2Proof.Machine.execFlashOpComplete units verified s
  | .sliceWatchdog sl => Sys2Proof.Machine.execSliceWatchdog sl s
  | .sliceMemUncorr sl => Sys2Proof.Machine.execSliceMemUncorr sl s
  | .configScrub pass => Sys2Proof.Machine.execConfigScrub pass s
  | .conversionDone c code => Sys2Proof.Machine.execConversionDone c code s
  | .conversionMissed c => Sys2Proof.Machine.execConversionMissed c s
  | .testSlotStart => Sys2Proof.Machine.execTestSlotStart s
  | .testPulseEnd => Sys2Proof.Machine.execTestPulseEnd s
  | .testRestartCheck => Sys2Proof.Machine.execTestRestartCheck s
  | .testSlotEnd => Sys2Proof.Machine.execTestSlotEnd s
  | .testLate q => Sys2Proof.Machine.execTestLate q s
  | .cancellerCorrection q tick correction => Sys2Proof.Machine.execCancellerCorrection q tick correction s
  | .cancellerRequalify q => Sys2Proof.Machine.execCancellerRequalify q s
  | .recorderEnable => Sys2Proof.Machine.execRecorderEnable s
  | .recorderArm => Sys2Proof.Machine.execRecorderArm s
  | .recorderBlock lost => Sys2Proof.Machine.execRecorderBlock lost s
  | .chaferTick h => Sys2Proof.Machine.execChaferTick h s
  | .discrepancyTimeout h => Sys2Proof.Machine.execDiscrepancyTimeout h s
  | .standing h => Sys2Proof.Machine.execStanding h s
  | .headQuiet h => Sys2Proof.Machine.execHeadQuiet h s
  | .recordPost => Sys2Proof.Machine.execRecordPost s
  | .sectionResetSweep ch tag sec => Sys2Proof.Machine.execSectionResetSweep ch tag sec s
  | .sectionResetConfirmed ch tag sec => Sys2Proof.Machine.execSectionResetConfirmed ch tag sec s
  | .sectionResetConfirm ch tag sec token => Sys2Proof.Machine.execSectionResetConfirm ch tag sec token s
  | .sectionResetAbort ch tag sec => Sys2Proof.Machine.execSectionResetAbort ch tag sec s
  | .sweepDone sec => Sys2Proof.Machine.execSweepDone sec s
  | .confirmed sec => Sys2Proof.Machine.execConfirmed sec s
  | .tPrepExpiry sec => Sys2Proof.Machine.execTPrepExpiry sec s
  | .tConfMaxExpiry sec => Sys2Proof.Machine.execTConfMaxExpiry sec s
  | .undercount sec => Sys2Proof.Machine.execUndercount sec s
  | .linkHoldExpiry sec => Sys2Proof.Machine.execLinkHoldExpiry sec s
  | .peerDisagree sec => Sys2Proof.Machine.execPeerDisagree sec s
  | .cntForce sec => Sys2Proof.Machine.execCntForce sec s
  | .lockstep port half inst lane lanes pc => Sys2Proof.Machine.execLockstep port half inst lane lanes pc s
  | .comparator port half inst lane lanes pc => Sys2Proof.Machine.execComparator port half inst lane lanes pc s
  | .heartbeatLoss y => Sys2Proof.Machine.execHeartbeatLoss y s
  | .debugHalt request => Sys2Proof.Machine.execDebugHalt request s
  | .split ch tag => Sys2Proof.Machine.execSplit ch tag s
  | .rejoin ch tag target weevilFail imageBad => Sys2Proof.Machine.execRejoin ch tag target weevilFail imageBad s
  | .sopCommit gen us => Sys2Proof.Machine.execSopCommit gen us s
  | .sopUnlock channel => Sys2Proof.Machine.execSopUnlock channel s
  | .offPulse o => Sys2Proof.Machine.execOffPulse o s
  | .offPulseEnd o som sov => Sys2Proof.Machine.execOffPulseEnd o som sov s
  | .splitSwitchTest o => Sys2Proof.Machine.execSplitSwitchTest o s
  | .splitSwitchTestEnd o somH sovH somL sovL => Sys2Proof.Machine.execSplitSwitchTestEnd o somH sovH somL sovL s
  | .outputTestLate o => Sys2Proof.Machine.execOutputTestLate o s
  | .frameTransmit => Sys2Proof.Machine.execFrameTransmit s
  | .frameReceived l lead line afterNs => Sys2Proof.Machine.execFrameReceived l lead line afterNs s
  | .frameMissing l => Sys2Proof.Machine.execFrameMissing l s
  | .chkGo bank tag start => Sys2Proof.Machine.execChkGo bank tag start s
  | .chkAbort bank entered suspUs => Sys2Proof.Machine.execChkAbort bank entered suspUs s
  | .chkScanComplete bank suspUs error => Sys2Proof.Machine.execChkScanComplete bank suspUs error s
  | .start => Sys2Proof.Machine.execStart s
  | .stop => Sys2Proof.Machine.execStop s
  | .abort => Sys2Proof.Machine.execAbort s
  | .sync => Sys2Proof.Machine.execSync s
  | .breakerClosed => Sys2Proof.Machine.execBreakerClosed s
  | .gfeKick => Sys2Proof.Machine.execGfeKick s
  | .supLost => Sys2Proof.Machine.execSupLost s
  | .setpointWrite set1 value => Sys2Proof.Machine.execSetpointWrite set1 value s
  | .blackstartBackoffEnd => Sys2Proof.Machine.execBlackstartBackoffEnd s
  | .blackstartRampEnd => Sys2Proof.Machine.execBlackstartRampEnd s
  | .bsOverload => Sys2Proof.Machine.execBsOverload s
  | .join => Sys2Proof.Machine.execJoin s
  | .autoBs => Sys2Proof.Machine.execAutoBs s
  | .frtEnd => Sys2Proof.Machine.execFrtEnd s
  | .frtTime => Sys2Proof.Machine.execFrtTime s
  | .freq => Sys2Proof.Machine.execFreq s
  | .overvolt => Sys2Proof.Machine.execOvervolt s
  | .dcWindowTimeout bridge high => Sys2Proof.Machine.execDcWindowTimeout bridge high s
  | .autoSync => Sys2Proof.Machine.execAutoSync s
  | .syncGridLost => Sys2Proof.Machine.execSyncGridLost s
  | .syncTimeout => Sys2Proof.Machine.execSyncTimeout s
  | .closePermitQualified => Sys2Proof.Machine.execClosePermitQualified s
  | .ffCopy entered conf eventNs => Sys2Proof.Machine.execFfCopy entered conf eventNs s
  | .ffReservationExpiry => Sys2Proof.Machine.execFfReservationExpiry s
  | .dsat leg asserted => Sys2Proof.Machine.execDsat leg asserted s
  | .windowCrossing c input => Sys2Proof.Machine.execWindowCrossing c input s
  | .pwmUpdatePoint bridge peak => Sys2Proof.Machine.execPwmUpdatePoint bridge peak s
  | .stepUpdate bridge duties => Sys2Proof.Machine.execStepUpdate bridge duties s
  | .ditherHop g => Sys2Proof.Machine.execDitherHop g s
  | .load bridge late => Sys2Proof.Machine.execLoad bridge late s
  | .clrTrip bridge => Sys2Proof.Machine.execClrTrip bridge s
  | .bridgeEnable bridge write => Sys2Proof.Machine.execBridgeEnable bridge write s
  | .pmaConversion group duringBurst codes => Sys2Proof.Machine.execPmaConversion group duringBurst codes s
  | .meterSample k v cur => Sys2Proof.Machine.execMeterSample k v cur s
  | .meterStall k => Sys2Proof.Machine.execMeterStall k s
  | .ledgerClose => Sys2Proof.Machine.execLedgerClose s
  | .ledgerRecordWritten matching => Sys2Proof.Machine.execLedgerRecordWritten matching s
  | .ledgerRead ch tag string max firstSeq => Sys2Proof.Machine.execLedgerRead ch tag string max firstSeq s
  | .packFrame ctrl ext kind id data => Sys2Proof.Machine.execPackFrame ctrl ext kind id data s
  | .packSilent k => Sys2Proof.Machine.execPackSilent k s
  | .packMalformedExpiry k => Sys2Proof.Machine.execPackMalformedExpiry k s
  | .canTxPost ctrl tag queue len => Sys2Proof.Machine.execCanTxPost ctrl tag queue len s
  | .canTxAbort ctrl tag stage delay => Sys2Proof.Machine.execCanTxAbort ctrl tag stage delay s
  | .canTxComplete ctrl attempt => Sys2Proof.Machine.execCanTxComplete ctrl attempt s
  | .bulkDeadline check => Sys2Proof.Machine.execBulkDeadline check s
  | .busOff ctrl => Sys2Proof.Machine.execBusOff ctrl s
  | .busOffRecovery ctrl => Sys2Proof.Machine.execBusOffRecovery ctrl s
  | .strobe tag => Sys2Proof.Machine.execStrobe tag s
  | .strobeDrainEnd drained => Sys2Proof.Machine.execStrobeDrainEnd drained s
  | .mdllQualified b us => Sys2Proof.Machine.execMdllQualified b us s
  | .mdllLockLoss b => Sys2Proof.Machine.execMdllLockLoss b s
  | .periodGuard b => Sys2Proof.Machine.execPeriodGuard b s
  | .clkALoss => Sys2Proof.Machine.execClkALoss s
  | .refLoss => Sys2Proof.Machine.execRefLoss s
  | .referenceRequalified => Sys2Proof.Machine.execReferenceRequalified s
  | .tsUnlock => Sys2Proof.Machine.execTsUnlock s
  | .tsQualified => Sys2Proof.Machine.execTsQualified s
  | .fxStop => Sys2Proof.Machine.execFxStop s
  | .crystalReturn => Sys2Proof.Machine.execCrystalReturn s
  | .rcStop => Sys2Proof.Machine.execRcStop s
  | .tsFreqWrite value => Sys2Proof.Machine.execTsFreqWrite value s
  | .ptpFrameReceived port pinNs frame => Sys2Proof.Machine.execPtpFrameReceived port pinNs frame s
  | .txTimestamp port msgType seq tag pinNs => Sys2Proof.Machine.execTxTimestamp port msgType seq tag pinNs s
  | .txtsPop port => Sys2Proof.Machine.execTxtsPop port s
  | .syncMeasurement => Sys2Proof.Machine.execSyncMeasurement s
  | .masterLost => Sys2Proof.Machine.execMasterLost s
  | .parentWrite word value => Sys2Proof.Machine.execParentWrite word value s
  | .stepArm ch tag => Sys2Proof.Machine.execStepArm ch tag s
  | .armExpiry => Sys2Proof.Machine.execArmExpiry s
  | .egressComplete r delayUs => Sys2Proof.Machine.execEgressComplete r delayUs s
  | .egressDeadline r => Sys2Proof.Machine.execEgressDeadline r s
  | .ringPost r head => Sys2Proof.Machine.execRingPost r head s
  | .descriptorComplete r service => Sys2Proof.Machine.execDescriptorComplete r service s
  | .ringStart r => Sys2Proof.Machine.execRingStart r s
  | .ringStop r => Sys2Proof.Machine.execRingStop r s
  | .ringResume r => Sys2Proof.Machine.execRingResume r s
  | .ringAbort r seq => Sys2Proof.Machine.execRingAbort r seq s
  | .ringFlush r => Sys2Proof.Machine.execRingFlush r s
  | .translationFault r offset write service => Sys2Proof.Machine.execTranslationFault r offset write service s
  | .classBDeadline r => Sys2Proof.Machine.execClassBDeadline r s
  | .iommuInvalidate scope dom page => Sys2Proof.Machine.execIommuInvalidate scope dom page s
  | .errLogPop => Sys2Proof.Machine.execErrLogPop s
  | .dramScrub errors => Sys2Proof.Machine.execDramScrub errors s
  | .sramScrub errors => Sys2Proof.Machine.execSramScrub errors s
  | .pcieLinkReset kind => Sys2Proof.Machine.execPcieLinkReset kind s
  | .hostMemoryAccess iova len write late uncorrectable => Sys2Proof.Machine.execHostMemoryAccess iova len write late uncorrectable s
  | .irqUnmask vector => Sys2Proof.Machine.execIrqUnmask vector s
  | .summary ch tag => Sys2Proof.Machine.execSummary ch tag s
  | .snap ch tag time => Sys2Proof.Machine.execSnap ch tag time s
  | .unknownCmd ch tag code payload => Sys2Proof.Machine.execUnknownCmd ch tag code payload s
  | .commandTimeout ch => Sys2Proof.Machine.execCommandTimeout ch s
  | .svStatus => Sys2Proof.Machine.execSvStatus s
  | .svRegRead addr words => Sys2Proof.Machine.execSvRegRead addr words s
  | .svRegWrite addr values => Sys2Proof.Machine.execSvRegWrite addr values s
  | .svMemRead addr len ready => Sys2Proof.Machine.execSvMemRead addr len ready s
  | .svMemWrite addr bytes => Sys2Proof.Machine.execSvMemWrite addr bytes s
  | .svPost bytes => Sys2Proof.Machine.execSvPost bytes s
  | .svReadResponse len => Sys2Proof.Machine.execSvReadResponse len s
  | .svUnknownOpcode opcode => Sys2Proof.Machine.execSvUnknownOpcode opcode s
  | .svFrameCut addr words => Sys2Proof.Machine.execSvFrameCut addr words s
  | .snapTrig => Sys2Proof.Machine.execSnapTrig s
  | .timeMatch => Sys2Proof.Machine.execTimeMatch s
  | .trigger => Sys2Proof.Machine.execTrigger s
  | .unlock => Sys2Proof.Machine.execUnlock s
  | .arm => Sys2Proof.Machine.execArm s
  | .disarm => Sys2Proof.Machine.execDisarm s
  | .registerWrite req addr size value => Sys2Proof.Machine.execRegisterWrite req addr size value s
  | .resetRelease => Sys2Proof.Machine.execResetRelease s
  | .registerRead req addr size => Sys2Proof.Machine.execRegisterRead req addr size s
  | .ethernetLinkDown port => Sys2Proof.Machine.execEthernetLinkDown port s
  | .sramUncorr addr => Sys2Proof.Machine.execSramUncorr addr s

end Sys2Proof.Machine
end

