-- ==== Sys2Proof/Machine/Step.lean ====
section
/-!
DEFINITION. One step of the block: the command that has waited longest takes its effect.
-/
namespace Sys2Proof.Machine

/-- One step: the command at the front of the queue on the state with the queue's rest. With nothing waiting the block idles:
the passing of time is a command too (`TICK`, `CYCLE_BOUNDARY`, `CONTROL_STEP`), so nothing happens between commands. -/
def step (s : State) : Host.Outcome State Fault Refusal :=
  match s.pending with
  | [] => .next s
  | c :: rest => exec c { s with pending := rest }

/-- The state with the command that a word of the table spells put at the front of the queue. -/
def State.withFetchWord (s : State) (nbits w : Nat) : State :=
  match decodeTableWord nbits w with
  | some c => { s with pending := c :: s.pending }
  | none => s

end Sys2Proof.Machine
end

