-- ==== Sys2Proof/Machine/PinLevels.lean ====
section
/-!
DEFINITION. The states of the pins (R448), and what boundary scan does to them (R461).
-/
namespace Sys2Proof.Machine

/-- What a pin shows: a driven level, high impedance, the idle state of its line, the frames or the transmission of its block, a link
in L1. -/
inductive PinState where
  | low | high | floating | idle | active | l1
  deriving DecidableEq, Repr, Inhabited

/-- A driven level. -/
def PinState.ofLevel (b : Bool) : PinState := if b then .high else .low

/-- Taelaul sends frames in Commission, Recovery and Service. -/
def Mode.talks : Mode → Bool
  | .commission => true | .service => true | .recovery => true
  | .resetSeq => false | .dormant => false | .proof => false | .hold => false | .reserved => false

/-- The column "Reset" of R448: until Proof is entered. -/
def State.inReset (s : State) : Bool := decide (s.phase ≠ .done)

/-- A pin by its row of R448. `SAFE_N` is an open drain: it is low or lets go (R232). -/
def State.pinOwn (s : State) : OutPin → PinState
  | .soh o => .ofLevel (s.soh o.val)
  | .sol o => .ofLevel (s.sol o.val)
  | .pwmH m => .ofLevel (s.legH m.val)
  | .pwmL m => .ofLevel (s.legL m.val)
  | .hsup q => .ofLevel (s.flag HFE_STATUS.HSUP q.val)
  | .neighbour l => if s.inReset then .floating else if s.mode.talks && s.linkUsed l.val then .active else .idle
  | .canTx k => if s.inReset then .floating else if s.rd CAN_STATUS.STATE k.val < 2 then .active else .idle
  | .safeN => if s.safeAsserted then .low else .floating
  | .closePermit => .ofLevel (s.flag GFE_STATUS.CLOSE_PERMIT)
  | .serviceIo _ => .floating

/-- A boundary-scan cell of the pin can drive it; those of the gates only observe. -/
def cellDrives : OutPin → Bool
  | .soh _ => false | .sol _ => false | .pwmH _ => false | .pwmL _ => false
  | .hsup _ => true | .neighbour _ => true | .canTx _ => true | .safeN => true | .closePermit => true | .serviceIo _ => true

/-- The level that the test access port gives a pin: only while reset is asserted, else the port executes BYPASS. -/
def State.scanned (s : State) (p : OutPin) : Option Bool :=
  match s.tap with
  | .bypass => none
  | .debug => none
  | .boundary cells => if s.phase = .held ∧ cellDrives p then (cells.find? (fun c => decide (c.1 = p))).map (·.2) else none

/-- What a digital output pin shows, outside the read data of a service-port frame. -/
def State.pin (s : State) (p : OutPin) : PinState :=
  match s.scanned p with
  | some b => .ofLevel b
  | none => s.pinOwn p

/-- `DBG_TDO` outside a shift. -/
def State.pinTdo (_ : State) : PinState := .floating

/-- The Ethernet transmitters, outside what their ports send. -/
def State.pinEthernet (s : State) : PinState :=
  if s.inReset || decide (s.mode = .proof) || decide (s.mode = .dormant) then .idle else .active

/-- The PCIe transmitters. -/
def State.pinPcie (s : State) : PinState :=
  if s.inReset || decide (s.mode = .proof) then .idle else if s.mode = .dormant then .l1 else .active

/-- The heads' inputs are connected to their converters: in Proof from item 8 on. -/
def State.headsConnected (s : State) : Bool :=
  !s.inReset && (decide (s.mode ≠ .proof) || bit s.proof.ended 6)

/-- The other analog inputs are connected. -/
def State.analogConnected (s : State) : Bool := s.headsConnected && decide (s.mode ≠ .dormant)

end Sys2Proof.Machine
end

