-- ==== Sys2Proof/Safety.lean ====
section
/-!
DEFINITION. The words in which claims are stated: what an operation may touch, when a channel takes a command, the invariant
of the state, and what makes a state safe.
-/
namespace Sys2Proof.Machine

/-! ### Frames -/

/-- Every register cell outside the listed fields, each with its entry, is the same. -/
def OnlyFields (fs : List (Fld × Nat)) (s t : State) : Prop :=
  ∀ k, (∀ p ∈ fs, p.1.key p.2 ≠ k) → lookup t.regs k = lookup s.regs k

/-- Everything but the register cells is the same: memory, pins, queues and the records of every block. -/
def OnlyRegisters (s t : State) : Prop := { t with regs := s.regs } = s

/-- Every byte of device memory outside a range reads the same. -/
def OnlyBytes (lo n : Nat) (s t : State) : Prop := ∀ a, a < lo ∨ lo + n ≤ a → t.mem.read a = s.mem.read a

/-- The live registers of section `x`, the interrupt bits that a change of its state sets, and what a publication writes (R164, R171,
R183, R187). -/
def sectionFields (x : Nat) : List (Fld × Nat) :=
  [(SYS_IRQ_PEND.VEC, 0), (CNT_SEC_STATE.STATE, x), (CNT_SEC_STATE.CAUSE, x), (CNT_SEC_STATE.LINK_HOLD, x),
    (CNT_SEC_STATE.SWEEPING, x), (CNT_SEC_STATE.AWAIT_CONF, x), (CNT_SEC_STATE.NEG, x), (CNT_SEC_PREP.TOKEN, x),
    (CNT_SEC_PREP.ELAPSED, x), (CNT_SEC_PEER.DISAGREE, x), (CNT_SEC_CAUSE.N_DIST, x), (CNT_SEC_CAUSE.FIRST, x),
    (CNT_SEC_CAUSE.LAST, x), (CNT_CYCLE.GEN, 0), (CNT_CYCLE.N_REC, 0), (CNT_CYCLE.N_REM, 0)]
    ++ (List.range 64).flatMap (fun y => [(CNT_SEC_DELTA.PREV, y), (CNT_SEC_DELTA.DELTA, y)])

/-- Of device memory only the first `n` bytes of the descriptor's buffer and its completion entry change (R410). -/
def OnlyDelivered (r : Nat) (d : Desc) (n : Nat) (s t : State) : Prop :=
  ∀ a, (a < d.dst ∨ d.dst + min d.len n ≤ a) →
    (a < s.rd DMA_RING_CBASE.BASE r / 16 * 16 + 16 * (d.seq % s.ringSize r)
      ∨ s.rd DMA_RING_CBASE.BASE r / 16 * 16 + 16 * (d.seq % s.ringSize r) + 16 ≤ a) →
    t.mem.read a = s.mem.read a

/-- The descriptor ends as its turn comes without moving a further byte: one that has ended, or one of class B that is late (R413). -/
def State.endsUnmoved (s : State) (r : Nat) (d : Desc) : Bool := d.ended || (decide (ringClass r = 3) && s.overdue r d)

/-- Ring `q` has a live descriptor in service with bytes left at a memory port that descriptor `d` of ring `r` uses. -/
def State.shares (s : State) (r : Nat) (d : Desc) (q : Nat) : Bool :=
  decide (q ≠ r) && (match s.inService q with
    | none => false
    | some e => decide (e.done < e.len) && (s.descPorts q e).any (fun p => (s.descPorts r d).contains p))

/-- No other ring than those of `qs` has bytes left at a memory port that descriptor `d` of ring `r` uses (R412). -/
def NoRivalBut (qs : List Nat) (r : Nat) (d : Desc) (s : State) : Prop := ∀ q, q < 32 → q ∉ qs → s.shares r d q = false

/-- Ring `r` runs with the untouched live descriptor `d` at its head, which does not wait, and can write its completion (R417). -/
def HeadReady (r : Nat) (d : Desc) (s : State) : Prop :=
  s.ringState r = ringRun ∧ (s.ring r).queue.head? = some d ∧ d.ended = false ∧ d.done = 0 ∧ (ringClass r = 3 → s.overdue r d = false)
    ∧ s.ringWaits r d = false ∧ s.ringStands r = false

/-- The descriptor `d` at the head of ring `r` is ready, and no other ring has a beat at its memory ports. -/
def AtHead (r : Nat) (d : Desc) (s : State) : Prop := HeadReady r d s ∧ NoRivalBut [] r d s

/-- The descriptor `d` at the head of ring `r` is one of an IN transfer to untranslated memory (R407 to R410). -/
def OffersBuffer (r : Nat) (d : Desc) (s : State) : Prop :=
  AtHead r d s ∧ srcSpace d.ctrl = 2 ∧ dstSpace d.ctrl = 0 ∧ s.ringTranslates r = false

/-- A slice of no function whose fault acts beyond the slice: it serves no head, checks no correction and is none of Leaven's
(R94). -/
def State.plainSlice (s : State) (k : Nat) : Prop :=
  s.rd FAB_SLICE_STATE.FUNC k ≠ funcRecognition ∧ s.rd FAB_SLICE_STATE.FUNC k ≠ funcCancellerCheck
    ∧ s.rd FAB_SLICE_STATE.FUNC k ≠ funcLeaven

/-- A slice that is in use, not faulted, and clocked (R93). -/
def State.sliceWhole (s : State) (k : Nat) : Prop :=
  s.mdllA = true ∧ s.rd FAB_SLICE_STATE.SIDE k ≠ 0 ∧ s.rd FAB_SLICE_STATE.FAULT k = 0

/-- A slot check waits for bank A, and the end of a scan of bank `b` lets it in (R258). -/
def State.slotCheckWaits (s : State) (b : Nat) : Bool :=
  s.flash.running && decide (s.flash.op = opCheck) && !s.flash.scanning && (decide (b = 1) || !(s.scan 1).running)

/-- No tick waits at head `h`, and whether the tick of its latest samples has cancelled ones is settled: it is worked at once (R117). -/
def State.worksAtOnce (s : State) (h : Nat) : Bool :=
  (s.head h).waits.isEmpty && s.cancelledSettled (2 * h) (s.head h).rawTick && s.cancelledSettled (2 * h + 1) (s.head h).rawTick

/-- The causes that the latest samples of head `h` decide at a tick worked at once, faults of its systems apart (R131, R149). -/
def State.decidedNow (s : State) (h : Nat) : List Nat :=
  let u := (chaferTake h s).modHead h (fun hd => { hd with waits := [] })
  let u := sliceWorks h (feedCancelled h (s.head h).rawTick u)
  let i := u.tickAt h (s.head h).rawTick (s.head h).rawNs
  (((noteFaults h u.nextFree).head h).work 0 0 (fun hd => hd.tick (u.headCfg h) i)).decided

/-- Where the completion of descriptor `d` of ring `r` is written (R410). -/
def completionAt (r : Nat) (d : Desc) (s : State) : Nat := s.rd DMA_RING_CBASE.BASE r / 16 * 16 + 16 * (d.seq % s.ringSize r)

/-- Of device memory only ring `r`'s completion array changes, and no other ring's descriptors do. -/
def OnlyCompletions (r : Nat) (s t : State) : Prop :=
  (∀ a, a < s.rd DMA_RING_CBASE.BASE r / 16 * 16 ∨ s.rd DMA_RING_CBASE.BASE r / 16 * 16 + 16 * s.ringSize r ≤ a →
    t.mem.read a = s.mem.read a) ∧ (∀ q, q ≠ r → t.ring q = s.ring q) ∧ t.mode = s.mode

/-- The oldest descriptor of ring `r`, `d`, has completed as these bytes say; nothing else in memory changed (R410). -/
def CompletedAs (r : Nat) (d : Desc) (bytes : List Nat) (s t : State) : Prop :=
  (t.ring r).queue = (s.ring r).queue.tail ∧ t.rd DMA_RING_TAIL.TAIL r = (d.seq + 1) % s.ringWrap r
    ∧ OnlyBytes (completionAt r d s) 16 s t ∧ (s.mem.wf = true → regionOk r true (completionAt r d s) 16 = true →
      t.mem.readBytes (completionAt r d s) 16 = bytes)
    ∧ (∀ q, q ≠ r → t.ring q = s.ring q) ∧ t.mode = s.mode

/-- An access was refused (R9): counted, and recorded with vector 9 where no record is held; nothing else changed but what leaves
the device. -/
def AccessRejected (req : Requester) (ty : AccErr) (write : Bool) (a : Nat) (s t : State) : Prop :=
  { t with regs := s.regs, out := s.out } = s
    ∧ OnlyFields [(SYS_ACC_ERR0.COUNT, 0), (SYS_ACC_ERR0.VALID, 0), (SYS_ACC_ERR0.REQ, 0), (SYS_ACC_ERR0.TYPE, 0),
        (SYS_ACC_ERR0.WRITE, 0), (SYS_ACC_ERR0.RING, 0), (SYS_ACC_ERR1.ADDR, 0), (SYS_IRQ_PEND.VEC, 0)] s t
    ∧ t.rd SYS_ACC_ERR0.COUNT = min (s.rd SYS_ACC_ERR0.COUNT + 1) 65535
    ∧ (s.flag SYS_ACC_ERR0.VALID = false → t.flag SYS_ACC_ERR0.VALID = true ∧ t.rd SYS_ACC_ERR0.TYPE = ty.code
        ∧ t.rd SYS_ACC_ERR0.REQ = requesterCode req ∧ t.flag SYS_ACC_ERR0.WRITE = write ∧ t.rd SYS_ACC_ERR1.ADDR = a % 2 ^ 32
        ∧ bit (t.rd SYS_IRQ_PEND.VEC) 9 = true)
    ∧ (s.flag SYS_ACC_ERR0.VALID = true → t.rd SYS_ACC_ERR1.ADDR = s.rd SYS_ACC_ERR1.ADDR ∧ t.rd SYS_ACC_ERR0.TYPE = s.rd SYS_ACC_ERR0.TYPE)

/-- Requesters whose accesses reach the registers without a port between. -/
def isCore : Requester → Bool
  | .app => true | .scarab => true | .core0 => true | .core1 => true
  | .host => false | .sv => false | .ring _ => false | .slice _ => false | .hardware => false

/-- The core's accesses reach the registers as those of `q`: in lockstep core 0 speaks for the pair, and core 1 reaches nothing
(R185). -/
def State.speaksAs (s : State) (req q : Requester) : Prop :=
  isCore req = true ∧ (match req with
    | .core0 => s.coreVoice false = some q
    | .core1 => s.coreVoice true = some q
    | _ => q = req)

/-! ### Conditions under which a command is taken -/

/-- A channel takes a command now: its port is reachable, and no command is pending on it (R42, R430, R432). -/
def ChannelReady (ch : Nat) (s : State) : Prop :=
  (s.channel ch).request = none ∧ (if ch = 0 then s.pcieReach = true else s.svReady = true)

/-- The pair is joined and clocked, so that it takes commands and writes the safety registers (R14, R198, R434). -/
def PairAtWork (s : State) : Prop := s.mdllA = true ∧ s.joined = true ∧ s.mode ≠ .dormant

/-- The cause stands in the record of the last cause and in the set of causes (R75). -/
def CauseRecorded (c : Cause) (s t : State) : Prop :=
  t.flag SYS_CAUSE_LAST0.VALID = true ∧ t.rd SYS_CAUSE_LAST0.CODE = c.code ∧ t.rd SYS_CAUSE_LAST0.BLOCK = c.block
    ∧ t.rd SYS_CAUSE_LAST0.INDEX = c.index ∧ t.rd SYS_CAUSE_LAST0.MODE = s.mode.code
    ∧ bit (t.rd SYS_CAUSE_SET.SET (c.code / 32)) (c.code % 32) = true

/-- The fields of the Hold cause record (R47, R75). -/
def holdRecord : List Fld :=
  [SYS_CAUSE_HOLD0.VALID, SYS_CAUSE_HOLD0.MODE, SYS_CAUSE_HOLD0.INDEX, SYS_CAUSE_HOLD0.BLOCK, SYS_CAUSE_HOLD0.CODE,
    SYS_CAUSE_HOLD1.NS, SYS_CAUSE_HOLD2.SEC_LO, SYS_CAUSE_HOLD3.SEC_HI]

/-! ### Which commands may do what -/

/-- The commands that may change the mode: resets, the ends of waiting (boundary, start, expiry, wake), and the joined pair's
own register writes, of which `SYS_RESET_REQ` is one: core 0 speaks for it in lockstep. -/
def mayChangeMode : Instr → Bool
  | .coldReset => true | .warmReset => true | .supplyMonitorTrip => true | .sysResetReq _ _ => true
  | .oscillatorQualified _ => true | .cycleBoundary _ _ => true | .autoProofStart _ => true | .recoveryComplete => true
  | .wakeComplete => true | .registerWrite .scarab _ _ _ => true | .registerWrite .core0 _ _ _ => true
  | _ => false

/-- The commands that may store to device memory. -/
def mayStore : Instr → Bool
  | .coldReset => true | .supplyMonitorTrip => true | .oscillatorQualified _ => true | .cycleBoundary _ _ => true
  | .proofItemComplete _ => true | .autoProofStart _ => true | .wakeComplete => true | .flashOpComplete _ _ => true
  | .recorderBlock _ => true | .chaferTick _ => true | .discrepancyTimeout _ => true | .headQuiet _ => true
  | .recordPost => true | .ledgerRecordWritten _ => true | .packFrame _ _ _ _ _ => true | .ptpFrameReceived _ _ _ => true
  | .egressComplete _ _ => true | .egressDeadline _ => true | .ethernetLinkDown _ => true | .ringPost _ _ => true
  | .descriptorComplete _ _ => true | .ringStart _ => true | .ringAbort _ _ => true | .ringFlush _ => true
  | .translationFault _ _ _ _ => true | .classBDeadline _ => true | .pcieLinkReset _ => true
  | .hostMemoryAccess _ _ _ _ _ => true | .svRegWrite _ _ => true | .svMemWrite _ _ => true | .svFrameCut _ _ => true
  | .registerWrite _ _ _ _ => true | .tick _ _ => true | .configScrub _ => true | .sliceWatchdog _ => true
  | .sliceMemUncorr _ => true | .cancellerCorrection _ _ _ => true | .debugHalt (.write _ _ _ _) => true
  | _ => false

/-! ### The invariant, and safe states -/

/-- Memory has its canonical form, and the mode is one of R43's. -/
def Inv (s : State) : Prop := s.mem.wf = true ∧ s.mode ≠ .reserved

/-- Every term of R23 holds for channel `o`, and its section, where it has one, is CLEAR (R16). -/
def GateTerms (s : State) (o : Nat) : Prop :=
  s.mode = .service ∧ s.modes.raised = [] ∧ s.joined = true ∧ s.mdllA = true ∧ s.flag SOP_CH_CFG.USED o = true
    ∧ bit s.outputs.commands o = true ∧ s.flag SOP_CH_STATE.LATCH o = false ∧ s.locked o = false
    ∧ (s.flag SOP_CH_CFG.GENERAL o = true ∨ s.outSectionClear o = true)

/-- A state is safe: an output gate that is on has every term of R23, or is on in a split-switch step, or in one of
Proof item 10, while the other gate of its channel is off (R224, R231). -/
def SafeOutputs (s : State) : Prop :=
  ∀ o, (s.soh o = true → GateTerms s o ∨ (s.steps .stepH .itemH o = true ∧ s.sol o = false))
    ∧ (s.sol o = true → GateTerms s o ∨ (s.steps .stepL .itemL o = true ∧ s.soh o = false))

end Sys2Proof.Machine
end

