-- ==== Sys2Proof/Certificates/Slice0/Obligations.lean ====
section
/-!
DEFINITION. The statements for the provers: the rules of the manual over the commands, what each command completes with, and
what it leaves alone.
-/
section DVStatements
open Sys2Proof Sys2Proof.Machine

/-! ### The block as a whole -/

/-- A step runs the command that has waited longest on the state with the queue's rest; with an empty queue the block idles, which
is the model's choice (log 8). -/
def Obligations.StepRunsFrontCommand : Prop :=
  (∀ (c : Instr) (rest : List Instr) (s : State), s.pending = c :: rest → step s = exec c { s with pending := rest })
    ∧ (∀ s : State, s.pending = [] → step s = .next s)

/-- A command answers a next state exactly if its operands are well formed; else the fault `illFormed`. Both clauses are the model's
choice: that a well-formed command is refused or stopped in no state (log 4), and what an ill-formed one answers (log 9). -/
def Obligations.WellFormedCommandsAnswer : Prop :=
  ∀ (c : Instr) (s : State), (c.wf = true → ∃ t, exec c s = .next t) ∧ (c.wf = false → exec c s = .fault .illFormed)

/-- No command takes a command from the queue or puts one there (log 8). -/
def Obligations.CommandsLeaveQueue : Prop :=
  ∀ (c : Instr) (s t : State), exec c s = .next t → t.pending = s.pending

/-- Right after a reset every register field reads its reset value, no mode has been entered, and no output gate is on (R12, R43,
R48). What the model adds where the manual gives no value is said in log 5. -/
def Obligations.ResetState : Prop :=
  (∀ (f : Fld) (i : Nat), State.reset.rd f i = f.reset)
    ∧ State.reset.mode = .resetSeq ∧ State.reset.phase = .held
    ∧ State.reset.rd SYS_ID.PART = 0x0D96 ∧ State.reset.rd CHK_x_RUN.RUN 0 = 0xFFFFFFFF
    ∧ (∀ x : Fin 64, State.reset.rd CNT_SEC_STATE.STATE x.val = secDisturbed)
    ∧ (∀ p : Fin 128, State.reset.rd CNT_CP_STATE.PSTATE p.val = 3)
    ∧ (∀ o : Nat, State.reset.soh o = false ∧ State.reset.sol o = false)
    ∧ State.reset.safeAsserted = true

/-- The invariant holds right after reset. -/
def Obligations.InvariantAtReset : Prop := Inv State.reset

/-- Every step keeps the invariant: memory in its canonical form, a mode of R43. -/
def Obligations.StepKeepsInvariant : Prop :=
  ∀ s t : State, Inv s → step s = .next t → Inv t

/-- Only the commands named by `mayChangeMode` change the mode: resets, the ends of waiting, and the joined pair's own register
writes. No access of the host, the service port, an application core or a ring does. -/
def Obligations.ModeChangesByNamedCommandsOnly : Prop :=
  ∀ (c : Instr) (s t : State), mayChangeMode c = false → exec c s = .next t → t.mode = s.mode

/-- The commands outside `mayStore` leave every byte of device memory. -/
def Obligations.OtherCommandsLeaveMemory : Prop :=
  ∀ (c : Instr) (s t : State), mayStore c = false → exec c s = .next t → ∀ a, t.mem.read a = s.mem.read a

/-- R16, R23, R224: an output gate is on only with every term of R23, a section output only while its section is CLEAR, the device
in Service and the pair joined; or in a step of the split-switch test, while the channel's other gate is off. -/
def Obligations.GatesNeedEveryTerm : Prop := ∀ s : State, SafeOutputs s

/-! ### Reset, time and modes -/

/-- R12: a cold reset returns every register field to its reset value and holds the device in reset; the flash keeps its bytes
where no flash operation ran, and what is not flash reads as never written (log 6). R12, R33, R59, R444: a warm reset leaves
memory, the time and the records of causes, faults and hours as they are, holds the device in reset, and clears the mode, the
pair and the clocks. A request of the joined pair with the right key and GO is one that is released at once; with another key
it is an access error and nothing else. R49, R99: release drives every supply pin high and starts the wait for the oscillator,
and changes nothing else. With the oscillator qualified Proof is entered from the reset sequence, with no item ended. -/
def Obligations.ResetsClearAndEnterProof : Prop :=
  (∀ (s : State) (c : Instr), c = .coldReset ∨ c = .supplyMonitorTrip → ∃ t, exec c s = .next t
    ∧ (∀ (f : Fld) (i : Nat), t.rd f i = f.reset) ∧ t.mode = .resetSeq ∧ t.phase = .held
    ∧ (∀ a, a < 0x40000000 ∨ 0x42000000 ≤ a ∧ a < 2 ^ 32 → t.mem.read a = memDefault a)
    ∧ (s.flash.running = false → ∀ a, 0x40000000 ≤ a ∧ a < 0x42000000 → t.mem.read a = s.mem.read a)
    ∧ t.pins = s.pins)
  ∧ ((∀ (s : State) (c : Instr), c = .warmReset ∨ (c = .sysResetReq 0xC3A5 true ∧ s.joined = true) → ∃ t, exec c s = .next t
    ∧ (∀ a, t.mem.read a = s.mem.read a) ∧ t.timeNs = s.timeNs ∧ t.mode = .resetSeq
    ∧ t.phase = (if c = .warmReset then .held else .waiting)
    ∧ t.joined = false ∧ t.mdllA = false ∧ t.mdllB = false
    ∧ ∀ f ∈ [SYS_CAUSE_LAST0.CODE, SYS_CAUSE_LAST1.NS, SYS_CAUSE_HOLD0.CODE, SYS_CAUSE_HOLD1.NS, SYS_PROOF_TIMER.HOURS,
        LKS_FAULT0.VALID, LKS_FAULT1.PC, LKS_FAULT_CNT.N_LOCKSTEP], t.rd f = s.rd f)
  ∧ ∀ (s : State) (key : BitVec 16) (go : Bool), key ≠ 0xC3A5 → s.joined = true →
      exec (.sysResetReq key go) s = .next (accessError .scarab .notPermitted true SYS_RESET_REQ.reg.base s))
  ∧ ((∀ s : State, s.phase = .held → ∃ t, exec .resetRelease s = .next t ∧ t.phase = .waiting
    ∧ (∀ q : Fin 192, t.flag HFE_STATUS.HSUP q.val = true)
    ∧ OnlyFields ((List.range 192).map (fun q => (HFE_STATUS.HSUP, q))) s t ∧ { t with regs := s.regs, phase := s.phase } = s)
  ∧ ∀ (s : State) (sel : BitVec 2), s.phase = .waiting → s.mode = .resetSeq → ∃ t, exec (.oscillatorQualified sel) s = .next t
    ∧ t.mode = .proof ∧ t.phase = .done ∧ t.proof.ended = 0 ∧ t.proof.failures = [] ∧ t.proof.fromMode = .resetSeq)

/-- R8, R359: a tick counts the ticks, and leaves the mode, and memory where no access of the host and no ring waits for its end. A cycle boundary coincides
with a 50th tick: at one whose boundary has not been worked no tick passes; else the ticks up to it pass, and a cycle with them:
what passes where no row has named the ticks is the model's choice (log 21). With a Hold cause raised the boundary makes the mode Hold
(R44). -/
def Obligations.TicksAndBoundariesCount : Prop :=
  (∀ (s : State) (som sov : BitVec 72), s.phase ≠ .held → ∃ t, exec (.tick som sov) s = .next t
    ∧ t.ticks = s.ticks + 1 ∧ t.mode = s.mode ∧ (s.hostPort.waits = [] → (∀ r : Fin 32, (s.ring r).catchDue = false) → t.mem = s.mem))
  ∧ ∀ (s : State) (rc fx : BitVec 16), s.phase ≠ .held → ∃ t, exec (.cycleBoundary rc fx) s = .next t
    ∧ t.ticks % 50 = 0 ∧ t.boundaries = t.cycles
    ∧ (if s.ticks % 50 = 0 ∧ s.boundaries < s.cycles then t.ticks = s.ticks else t.cycles = s.cycles + 1)
    ∧ t.modes.boundary = false ∧ (s.modes.raised ≠ [] → t.mode = .hold)

/-- R45, R199, R202, R432: a request for a mode, a split or a rejoin posted on a ready channel is taken by the pair and waits for
the next cycle boundary; VALID of its result is 0 meanwhile, and the mode stays. That a target is taken modulo 8 is the model's choice
(log 39). -/
def Obligations.RequestsWaitForBoundary : Prop :=
  ∀ (s : State) (ch : Chan) (tag target : Byte) (fail : Option (Nat × Nat)) (image : ImageCheck),
    ChannelReady ch.val s → PairAtWork s → s.mode ≠ .proof → s.pair.step = .idle →
    (s.modes.request = none → ∃ t, exec (.modeReq ch tag target) s = .next t
      ∧ t.modes.request = some ⟨target.toNat % 8, tag.toNat, some ch.val⟩ ∧ t.flag SYS_MODE_STATUS.VALID = false
      ∧ t.flag (statPending ch.val) = true ∧ t.mode = s.mode ∧ t.mem = s.mem ∧ t.pair = s.pair)
    ∧ (s.pair.request = none → ∃ t, exec (.split ch tag) s = .next t
      ∧ t.pair.request = some ⟨false, 0, tag.toNat, some ch.val, none, default⟩ ∧ t.flag LKS_RESULT.VALID = false
      ∧ t.flag (statPending ch.val) = true ∧ t.mode = s.mode ∧ t.mem = s.mem ∧ t.modes = s.modes)
    ∧ (s.pair.request = none → weevilOk fail = true → ∃ t, exec (.rejoin ch tag target fail image) s = .next t
      ∧ t.pair.request = some ⟨true, target.toNat % 8, tag.toNat, some ch.val, fail, image⟩ ∧ t.flag LKS_RESULT.VALID = false
      ∧ t.flag (statPending ch.val) = true ∧ t.mode = s.mode ∧ t.mem = s.mem ∧ t.modes = s.modes)

/-- R86: a change of the Crust switches changes the pins; in Dormant a word that differs from the latched one is flagged at once.
Nothing else changes. R73, R74: in Dormant the first event of an enabled source is recorded and the clocks restart; the state
is otherwise as before. A link counts where the loaf declares one in use. -/
def Obligations.DormantNotesAndWakes : Prop :=
  (∀ (s : State) (w : BitVec 16),
    exec (.crustChange w) s = .next (if s.mode = .dormant ∧ w.toNat ≠ s.rd FAB_CRUST.LATCHED then
      ({ s with pins := { s.pins with crust := w.toNat } }).wrFlag FAB_CRUST.CHG_DORMANT true
    else { s with pins := { s.pins with crust := w.toNat } }))
  ∧ (∀ s : State, s.mode = .dormant → s.modes.waking = false →
    (∀ p ∈ [(WakeSource.damping, 1), (WakeSource.link, 2), (WakeSource.servicePort, 3), (WakeSource.pcie, 4),
        (WakeSource.clockMonitor, 7)],
      s.wakeEnabled p.2 = true → (p.1 = WakeSource.link → anyUpTo s.linkUsed 4 = true) →
      exec (.dormantWake p.1) s = .next { (s.wr SYS_MODE.WAKE p.2) with modes := { s.modes with waking := true } })
    ∧ (s.flag SYS_DORMANT_CFG.EN_TIMER = true → s.rd SYS_DORMANT_CFG.TIMER ≠ 0 →
      exec .wakeTimerExpiry s = .next { (s.wr SYS_MODE.WAKE 5) with modes := { s.modes with waking := true } }))

/-- R52, R56: a Proof item that runs ends with its result; item 1 opens both gates where both loops are qualified, item 6 joins
the pair where no injection fails. Items 10 and 11 end once their sequences have run (R231, R467), and run on till then. A timeout
ends its item with PROOF_TIMEOUT. R59 to R61: an hour counts, short of the limits nothing else happens; the expiry of T_proof makes a
start wait in Service and Recovery and marks Hold and Commission overdue; the waiting start enters Proof. When a failure is recorded,
and that an item which depends on a failed one does not run, is the model's reading (log 24); that an expiry in Proof or in the reset
sequence does nothing is its choice (log 65). -/
def Obligations.ProofStartsAndItsItemsEnd : Prop :=
  ((∀ (s : State) (r : ItemResult), r.wf = true → s.itemRuns (itemOf r) = true →
    (itemOf r = 10 → s.outputs.item = none) → (itemOf r = 11 → s.linesOver = true) →
    ∃ t, exec (.proofItemComplete r) s = .next t ∧ t.itemEnded (itemOf r) = true ∧ t.mode = .proof)
  ∧ (∀ s : State,
    (s.itemRuns 10 = true → s.outputs.item ≠ none → exec (.proofItemComplete .outputs) s = .next s)
    ∧ (s.itemRuns 11 = true → s.linesOver = false → exec (.proofItemComplete .lines) s = .next s))
  ∧ (∀ s : State, s.itemRuns 1 = true → s.flag CLK_STATUS.REF_OK = true →
    ∃ t, exec (.proofItemComplete (.clocks true)) s = .next t ∧ t.mdllA = true ∧ t.mdllB = true ∧ t.itemPassed 1 = true)
  ∧ (∀ s : State, s.itemRuns 6 = true →
    ∃ t, exec (.proofItemComplete (.weevil none)) s = .next t ∧ t.joined = true ∧ t.itemPassed 6 = true)
  ∧ ∀ (s : State) (i : Fin 12), s.itemRuns (i.val + 1) = true → s.lastStands 0x1A = false →
    ∃ t, exec (.proofTimeout i) s = .next t ∧ t.itemEnded (i.val + 1) = true ∧ CauseRecorded ⟨0x1A, 0, i.val + 1⟩ s t
      ∧ t.proof.failures = ⟨0x1A, 0, i.val + 1⟩ :: s.proof.failures ∧ t.mem = s.mem)
  ∧ ((∀ s : State, s.rd SYS_PROOF_TIMER.HOURS + 1 < s.dueHours → s.rd SYS_PROOF_TIMER.HOURS + 1 < s.rd SYS_PROOF_TIMER.LIMIT →
    s.rd SYS_PROOF_TIMER.HOURS + 1 < 4096 → exec .proofTimerHour s = .next (s.wr SYS_PROOF_TIMER.HOURS (s.rd SYS_PROOF_TIMER.HOURS + 1)))
  ∧ (∀ s : State, s.mode = .service ∨ s.mode = .recovery →
    exec .tProofExpiry s = .next (if s.modes.autoSince = none then
      { s with modes := { s.modes with autoSince := some s.cycles } } else s))
  ∧ (∀ s : State, s.mode = .hold ∨ s.mode = .commission → s.flag SYS_PROOF.OVERDUE = false → s.lastStands 0x25 = false →
    ∃ t, exec .tProofExpiry s = .next t ∧ t.flag SYS_PROOF.OVERDUE = true ∧ CauseRecorded ⟨0x25, 0, 0xFF⟩ s t
      ∧ t.mode = s.mode ∧ t.mem = s.mem)
  ∧ ∀ (s : State) (late : Bool), s.mode = .service ∨ s.mode = .recovery → s.modes.autoSince ≠ none → s.modes.raised = [] →
    s.sectionsBusy = false ∨ late = true → ∃ t, exec (.autoProofStart late) s = .next t ∧ t.mode = .proof
      ∧ t.proof.ended = 0 ∧ t.proof.fromMode = s.mode)

/-- R63, R74: complete, Recovery gives way to Service, which advances GEN and leaves everything but the mode's fields and its
interrupt; the expiry of T_rec declares lost every link that is still establishing; with MDLL-A qualified after a wake the
mode is Recovery. -/
def Obligations.RecoveryEnds : Prop :=
  (∀ s : State, s.recoveryDone = true → ∃ t, exec .recoveryComplete s = .next t ∧ t.mode = .service
    ∧ t.rd SYS_MODE.PREV = Mode.recovery.code ∧ t.rd SYS_MODE.GEN = (s.rd SYS_MODE.GEN + 1) % 65536
    ∧ bit (t.rd SYS_IRQ_PEND.VEC) 2 = true
    ∧ OnlyFields [(SYS_MODE.PREV, 0), (SYS_MODE.CUR, 0), (SYS_MODE.GEN, 0), (SYS_IRQ_PEND.VEC, 0)] s t
    ∧ { t with regs := s.regs, out := s.out } = s)
  ∧ (∀ s : State, s.mode = .recovery → s.modes.tRecPassed = false → ∃ t, exec .tRecExpiry s = .next t
    ∧ t.modes.tRecPassed = true ∧ t.mode = .recovery ∧ t.mem = s.mem
    ∧ ∀ l : Fin 4, t.linkState l.val = if s.linkState l.val = linkEstablishing then linkLost else s.linkState l.val)
  ∧ ∀ s : State, s.mode = .dormant → s.modes.waking = true → s.flag CLK_STATUS.REF_OK = true → s.modes.raised = [] →
    ∃ t, exec .wakeComplete s = .next t ∧ t.mode = .recovery

/-- R44, R75, R223: the junction's trip is a Hold cause: recorded, and from now on no output gate is on, whatever the mode. -/
def Obligations.ThermalTripStopsOutputs : Prop :=
  ∀ s : State, s.mode ≠ .resetSeq → s.lastStands 8 = false → ∃ t, exec .thermal s = .next t
    ∧ CauseRecorded ⟨8, 0, 0xFF⟩ s t ∧ (s.mode ≠ .hold → t.modes.raised ≠ []) ∧ (∀ o, t.soh o = false ∧ t.sol o = false)
    ∧ t.mode = s.mode ∧ t.mem = s.mem

/-! ### Loaves, flash and slices -/

/-- R84, R51: in Commission a slot with a valid header is selected; the answer is OK with its identity. -/
def Obligations.LoafSelectNamesSlot : Prop :=
  ∀ (s : State) (ch : Chan) (tag slot : Byte), ChannelReady ch.val s → s.mode = .commission → slot.toNat ≤ 3 →
    s.headerValid slot.toNat = true → ∃ t, exec (.loafSelect ch tag slot) s = .next t
      ∧ t.flag SYS_BOOT.CMD_SEL = true ∧ t.rd LOAF_SYS.CMD_SLOT = slot.toNat ∧ t.pair.barred = true
      ∧ (t.channel ch.val).request = none ∧ t.flag (statValid ch.val) = true ∧ t.mem = s.mem
      ∧ (t.channel ch.val).response = responseBytes 2 tag.toNat 1 0 (t.rd (statGen ch.val))
          (toBytesLE 4 (s.hdr slot.toNat 8 4))

/-- R87, R88: in Commission, with no operation under way and a range that is not refused, an operation starts with its operands;
VALID of the result is 0 until it ends, and no byte of memory changes yet. R87, R89: an erase that completes leaves its range
erased and every other byte as it was; any operation but the check of a slot changes no byte outside its range, and the check
none; a check completes with its scans in bank A, where they run (R265). An abort is noted once, with its cycle, and changes nothing else. -/
def Obligations.FlashOperationsRun : Prop :=
  ((∀ (s : State) (dst len : Word) (u : Bool), s.mode = .commission → s.flash.running = false →
    s.rangeRefused opErase 0 dst.toNat len.toNat u = false → ∃ t, exec (.flashErase dst len u) s = .next t
      ∧ t.flash.running = true ∧ t.flash.op = 1 ∧ t.flash.dst = dst.toNat ∧ t.flash.len = len.toNat
      ∧ t.flash.abortAsked = false ∧ t.flag FAB_FLASH_RESULT.VALID = false ∧ t.mem = s.mem ∧ t.mode = s.mode)
  ∧ (∀ (s : State) (src dst len : Word) (u : Bool), s.mode = .commission → s.flash.running = false →
    s.rangeRefused opProgram src.toNat dst.toNat len.toNat u = false → ∃ t, exec (.flashProgram src dst len u) s = .next t
      ∧ t.flash.running = true ∧ t.flash.op = 2 ∧ t.flash.src = src.toNat ∧ t.flash.dst = dst.toNat
      ∧ t.flash.len = len.toNat ∧ t.flash.abortAsked = false ∧ t.flag FAB_FLASH_RESULT.VALID = false ∧ t.mem = s.mem ∧ t.mode = s.mode)
  ∧ ∀ (s : State) (slot : Word), s.mode = .commission → s.flash.running = false → slot.toNat < 4 →
    (∃ t, exec (.flashCheckSlot slot) s = .next t ∧ t.flash.running = true ∧ t.flash.op = 3 ∧ t.flash.dst = slot.toNat
      ∧ t.flag FAB_FLASH_RESULT.VALID = false ∧ t.flag FAB_SLOT_STATUS.VALID slot.toNat = false ∧ t.mem = s.mem)
    ∧ ∃ t, exec (.flashEraseSlot slot) s = .next t ∧ t.flash.running = true ∧ t.flash.op = 4 ∧ t.flash.dst = slot.toNat
      ∧ t.flag FAB_FLASH_RESULT.VALID = false ∧ t.mem = s.mem)
  ∧ ((∀ (s : State) (n : Nat) (e : FlashEnding), s.flash.running = true → s.flash.abortAsked = false →
    (s.flash.op = 3 → s.flash.scanning = true ∧ (s.scan 1).suspended = false ∧ s.scanStands 1 = false) →
    ∃ t, exec (.flashOpComplete n e) s = .next t ∧ t.flash.running = false
      ∧ t.rd FAB_FLASH_RESULT.STATUS = (if s.flash.op = 2 ∧ e.verified = false then 6 else 1)
      ∧ t.flag FAB_FLASH_RESULT.VALID = true ∧ t.rd FAB_FLASH_RESULT.GEN = (s.rd FAB_FLASH_RESULT.GEN + 1) % 65536
      ∧ (s.flash.op = 1 → ∀ a, flashAddr s.flash.dst ≤ a → a < flashAddr s.flash.dst + s.flash.len / 65536 * 65536 →
          t.mem.read a = memDefault a)
      ∧ OnlyBytes (flashAddr s.flash.start) (if s.flash.op = 1 ∨ s.flash.op = 2 ∨ s.flash.op = 4 then
          s.flash.units * s.flash.unit else 0) s t)
  ∧ ∀ s : State, s.flash.running = true → s.flash.abortAsked = false →
    exec .flashAbort s = .next { s with flash := { s.flash with abortAsked := true, abortCycle := s.cycles } })

/-- R93: a fault of a slice in use that MDLL-A clocks shows with its code, the first one found, and the other slices stand; at a slice that
is not in use, already faulted or not clocked nothing changes. R94: with a recognition slice the heads it serves are FAILED and no
others; with a check slice every system is suspect; with one of Leaven's the machine trips at its next step with SLICE_FAULT; with
another nothing but the fault changes. A configuration scrub faults the slices in use whose store reads back with another CRC than
the recorded one, and counts what their local memories have corrected. -/
def Obligations.SliceFaultsShow : Prop :=
  (∀ (s : State) (k : Fin 128) (w : Word), w.toNat ≠ (tget s.slices k.val).crc →
    ∀ p ∈ [(Instr.sliceWatchdog k, 1), (.sliceMemUncorr k, 2), (.configScrub ⟨[(k, w)], []⟩, 3)],
      (¬ s.sliceWhole k → exec p.1 s = .next s)
      ∧ (s.sliceWhole k → ∃ t, exec p.1 s = .next t ∧ t.rd FAB_SLICE_STATE.FAULT k = p.2 ∧ t.mode = s.mode
        ∧ (∀ j : Fin 128, j ≠ k → t.rd FAB_SLICE_STATE.FAULT j = s.rd FAB_SLICE_STATE.FAULT j)
        ∧ (s.plainSlice k → t = s.wr FAB_SLICE_STATE.FAULT p.2 k.val)
        ∧ (s.rd FAB_SLICE_STATE.FUNC k = funcRecognition → ∀ h : Fin 96, t.hstate h =
            if s.chafer.running = true ∧ s.headUsed h = true ∧ s.rd LOAF_HEAD.SLICE h = k.val then headFailed else s.hstate h)
        ∧ (s.rd FAB_SLICE_STATE.FUNC k = funcCancellerCheck → (∀ q : Fin 192, (t.sys q).qualified = false)
          ∧ OnlyFields [(FAB_SLICE_STATE.FAULT, k.val)] s t ∧ { t with regs := s.regs, systems := s.systems } = s)
        ∧ (s.rd FAB_SLICE_STATE.FUNC k = funcLeaven → t = if s.gfe = gfeOff then s.wr FAB_SLICE_STATE.FAULT p.2 k.val
            else (s.wr FAB_SLICE_STATE.FAULT p.2 k.val).modGfe (fun l => { l with raised := gfeSliceFault :: l.raised }))))
  ∧ (∀ (s : State) (pass : ScrubPass), s.mdllA = false → exec (.configScrub pass) s = .next s)
  ∧ ∀ (s : State) (read : List (Fin 128 × Word)) (corrected : List (Fin 128 × Byte)), s.mdllA = true →
    ∃ t, exec (.configScrub ⟨read, corrected⟩) s = .next t ∧ t.mode = s.mode
      ∧ ((∀ p ∈ read, s.plainSlice p.1) → OnlyRegisters s t ∧ OnlyFields (read.map (fun p => (FAB_SLICE_STATE.FAULT, p.1.val))
          ++ corrected.map (fun p => (FAB_SLICE_STATE.CORR, p.1.val))) s t)
      ∧ ∀ k : Fin 128, t.rd FAB_SLICE_STATE.FAULT k.val =
          (if s.rd FAB_SLICE_STATE.SIDE k.val ≠ 0 ∧ s.rd FAB_SLICE_STATE.FAULT k.val = 0
            ∧ read.any (fun p => decide (p.1 = k) && decide (p.2.toNat ≠ (tget s.slices k.val).crc)) = true then 3
          else s.rd FAB_SLICE_STATE.FAULT k.val)
        ∧ (s.rd FAB_SLICE_STATE.SIDE k.val ≠ 0 → s.rd FAB_SLICE_STATE.CORR k.val ≤ 2 ^ FAB_SLICE_STATE.CORR.width - 1 →
          t.rd FAB_SLICE_STATE.CORR k.val = min (s.rd FAB_SLICE_STATE.CORR k.val
            + ((corrected.filter (fun p => decide (p.1 = k))).map (fun p => p.2.toNat)).sum) (2 ^ FAB_SLICE_STATE.CORR.width - 1))

/-! ### Head front end -/

/-- R96, R100, R101, R105: a delivered sample shows, saturated, with its tick. A rail return current channel shows a full-scale code as absent. A
system at or below THR_DAMP ends its crossing and latches no output; above it, with the comparator's count full, the crossing
sets the latch of every output mapped to the head; the count to be full is that of the sample's rate. R107: the second low-rate or
25th full-rate sample in a row below THR_OPEN, not flagged BLANK, raises OPEN, and at or above THR_SHORT OVERRANGE; a sample of
neither raises no fault. R103: a rail return current channel that misses is absent; the second miss
in a row of a system is CONV_STALL, which shows from then on. R322 to R325: a conversion of a group delivers, for each of its
channels that is in use and has not failed, the corrected code and the next generation, with its instant to the slice input that a
route alone leads it to, and changes no other register; a
trigger during a burst is counted and delivers nothing. -/
def Obligations.ConversionsShowOrMiss : Prop :=
  ((∀ (s : State) (c : Fin 8) (code : BitVec 16), s.rd HFE_GLB_STATUS.RATE = rateFull →
    ∃ t, exec (.conversionDone (.rrc c) code) s = .next t ∧ t.rdS HFE_RRC_SAMPLE.CODE c = saturated code.toInt
      ∧ t.rd HFE_RRC_SAMPLE.TICK c = s.ticks % 256
      ∧ t.flag HFE_RRC_STATUS.ABSENT c = (decide (32767 ≤ (saturated code.toInt).natAbs) || !s.flag HFE_RRC_CFG.USED c
          || s.flag HFE_RRC_STATUS.FAILED c)
      ∧ OnlyFields [(HFE_RRC_SAMPLE.CODE, c), (HFE_RRC_SAMPLE.TICK, c), (HFE_RRC_STATUS.ABSENT, c), (HFE_RRC_STATUS.CLIP, c)] s t
      ∧ { t with regs := s.regs, chafer := s.chafer } = s)
  ∧ (∀ (s : State) (q : Fin 192) (low : Bool) (code : BitVec 16), s.converts q = true → s.rateAdmits low = true →
    s.disconnected q = false → saturated code.toInt ≤ toSigned 16 (s.rd HFE_THR0.THR_DAMP q) →
    ∃ t, exec (.conversionDone (.system q low) code) s = .next t
      ∧ t.rdS HFE_SAMPLE.CODE q = saturated code.toInt ∧ t.rd HFE_SAMPLE.TICK q = s.ticks % 256 ∧ t.flag HFE_SAMPLE.LOW q = low
      ∧ t.flag HFE_SAMPLE.BLANK q = (s.sys q).blankAt s.ticks ∧ t.flag HFE_STATUS.CROSSING q = false
      ∧ t.mem = s.mem ∧ t.mode = s.mode ∧ ∀ o : Fin 72, t.flag SOP_CH_STATE.LATCH o = s.flag SOP_CH_STATE.LATCH o)
  ∧ (∀ (s : State) (q : Fin 192) (low : Bool) (code : BitVec 16), s.converts q = true → s.rateAdmits low = true →
    s.disconnected q = false → toSigned 16 (s.rd HFE_THR0.THR_DAMP q) < saturated code.toInt → s.flag HFE_STATUS.CROSSING q = false →
    ∃ t, exec (.conversionDone (.system q low) code) s = .next t
      ∧ t.rdS HFE_SAMPLE.CODE q = saturated code.toInt ∧ t.flag HFE_SAMPLE.LOW q = low ∧ t.mem = s.mem ∧ t.mode = s.mode
      ∧ t.flag HFE_STATUS.CROSSING q = decide ((if low then s.rd HFE_HEAD_CFG.F_LOW (q / 2) else s.rd HFE_HEAD_CFG.F_FULL (q / 2)) + 1
          ≤ (s.sys q).aboveRun + 1)
      ∧ ∀ o : Fin 72, t.flag SOP_CH_STATE.LATCH o = (t.flag HFE_STATUS.CROSSING q && s.mapped (q / 2) o || s.flag SOP_CH_STATE.LATCH o))
  ∧ ∀ (s : State) (q : Fin 192) (low : Bool) (code : BitVec 16), s.converts q = true → s.rateAdmits low = true →
    s.disconnected q = false → s.loafLoaded = true →
    ∃ t, exec (.conversionDone (.system q low) code) s = .next t
      ∧ (saturated code.toInt < toSigned 16 (s.rd HFE_THR0.THR_OPEN q) ∧ (s.sys q).blankAt s.ticks = false
            ∧ (if low then 2 else 25) ≤ (s.sys q).openRun + 1 →
          (t.sys q).marks.any (fun m => m.is faultOpen [q.val]) = true
          ∧ ((s.sys q).marks.any (fun m => m.is faultOpen [q.val]) = false →
            bit (t.sys q).faults faultOpen = true ∧ t.rd HFE_STATUS.FAULT q = faultOpen))
      ∧ (toSigned 16 (s.rd HFE_THR1.THR_SHORT q) ≤ saturated code.toInt ∧ (if low then 2 else 25) ≤ (s.sys q).overRun + 1 →
          (t.sys q).marks.any (fun m => m.is faultOverrange [q.val]) = true
          ∧ ((s.sys q).marks.any (fun m => m.is faultOverrange [q.val]) = false → bit (t.sys q).faults faultOverrange = true))
      ∧ (toSigned 16 (s.rd HFE_THR0.THR_OPEN q) ≤ saturated code.toInt → saturated code.toInt < toSigned 16 (s.rd HFE_THR1.THR_SHORT q) →
          (t.sys q).faults = (s.sys q).faults ∧ (t.sys q).openRun = (if (s.sys q).blankAt s.ticks then (s.sys q).openRun else 0)
          ∧ (t.sys q).overRun = 0))
  ∧ ((∀ (s : State) (c : Fin 8), exec (.conversionMissed (.rrc c)) s = .next (s.wrFlag HFE_RRC_STATUS.ABSENT true c))
  ∧ ∀ (s : State) (q : Fin 192) (low : Bool), s.converts q = true →
    ∃ t, exec (.conversionMissed (.system q low)) s = .next t ∧ (t.sys q).missed = (s.sys q).missed + 1
      ∧ t.flag HFE_STATUS.BLANK q = true
      ∧ (s.loafLoaded = true → 1 ≤ (s.sys q).missed → (t.sys q).marks.any (fun m => m.is faultConvStall [q.val]) = true
          ∧ ((s.sys q).marks.any (fun m => m.is faultConvStall [q.val]) = false → bit (t.sys q).faults faultConvStall = true))
      ∧ OnlyFields [(HFE_STATUS.BLANK, q), (HFE_STATUS.FAULT, q), (HFE_STATUS.PARTNER, q), (HFE_FAULT.SEEN, q),
          (HFE_REC_LOST.LOST, 0)] s t
      ∧ t.mem = s.mem)
  ∧ (∀ (s : State) (u : Fin 6) (codes : List (BitVec 16)), codes.length = 8 → s.pmaRuns = true → s.rd PMA_GRP_CFG.TRIG u ≠ 3 →
    exec (.pmaConversion u true codes) s = .next (s.count PMA_GLB_STATUS.OVERRUN)
    ∧ ∃ t, exec (.pmaConversion u false codes) s = .next t
      ∧ (∀ k : Fin 8, s.flag PMA_CH_CFG.USED (8 * u + k) = true → s.flag PMA_CH_STATUS.FAILED (8 * u + k) = false →
          t.rdS PMA_CH_SAMPLE.CODE (8 * u + k) = s.pmaCode (8 * u + k) ((codes.map BitVec.toInt).getD k 0)
          ∧ t.rd PMA_CH_SAMPLE.GEN (8 * u + k) = (s.rd PMA_CH_SAMPLE.GEN (8 * u + k) + 1) % 65536)
      ∧ OnlyFields (((List.range 8).filter (fun k => s.flag PMA_CH_CFG.USED (8 * u + k) && !s.flag PMA_CH_STATUS.FAILED (8 * u + k))).flatMap
          (fun k => [(PMA_CH_SAMPLE.CODE, 8 * u + k), (PMA_CH_SAMPLE.GEN, 8 * u + k)])) s t
      ∧ (∀ k : Fin 8, s.flag PMA_CH_CFG.USED (8 * u + k) = true → s.flag PMA_CH_STATUS.FAILED (8 * u + k) = false →
          ∀ (c : Fin 48) (i : Fin 128) (n : Fin 4), c.val = 8 * u + k → (⟨.pma c, .slice i n⟩ : Route) ∈ s.routes →
          (∀ r ∈ s.routes, r.dst = .slice i n → r.src = .pma c) →
          tget t.crossbar (4 * i.val + n.val) = ⟨s.pmaCode c ((codes.map BitVec.toInt).getD k 0), s.timeNs⟩)
      ∧ { t with regs := s.regs, crossbar := s.crossbar } = s)

/-- R108, R110 to R113: when a slot is due it drives the supply pin of the system whose turn it is low; the pulse's end, T_OFF later,
drives it high and, with a candidate, decides the slot; else the restart criterion decides it, T_RST later. None begins once item 11's runs are over (R467). The slot's end reports
its result. A system in use whose last test is 3 T_hst past is LATE. -/
def Obligations.SupplyTestSlots : Prop :=
  (∀ (s : State) (q : Fin 192), s.schedActive = true → s.sched.slot = none → s.slotDue = true →
    (s.itemEleven && s.linesOver) = false →
    s.firstFree s.sched.owed = some q.val
      ∨ s.firstFree s.sched.owed = none ∧ (s.firstFree s.sched.deferred = some q.val
        ∨ s.firstFree s.sched.deferred = none ∧ s.orderNext = some q.val ∧ s.headFree (q / 2) = true) →
    ∃ t, exec .testSlotStart s = .next t ∧ t.sched.slot = some ⟨q, s.ticks, .pulse, 0, 0xFF⟩
      ∧ t.flag HFE_STATUS.HSUP q = false ∧ t.flag HFE_STATUS.TEST q = true ∧ t.flag HFE_TEST.VALID q = false
      ∧ t.rd HFE_TEST_POS.CUR = q
      ∧ OnlyFields [(HFE_STATUS.HSUP, q), (HFE_STATUS.TEST, q), (HFE_TEST.VALID, q), (HFE_TEST_POS.CUR, 0),
          (HFE_TEST_POS.ROUND, 0)] s t
      ∧ { t with regs := s.regs, sched := s.sched, systems := s.systems } = s)
  ∧ (∀ (s : State) (sl : Slot), s.sched.slot = some sl → sl.phase = .pulse → sl.start + s.rd HFE_TEST_CFG0.T_OFF ≤ s.ticks →
    ∃ t, exec .testPulseEnd s = .next t
    ∧ t.flag HFE_STATUS.HSUP sl.q = true ∧ t.flag HFE_STATUS.TEST sl.q = false ∧ t.mem = s.mem
    ∧ t.sched.slot = some (match s.pulseCandidate sl.q with
      | none => { sl with phase := .restart, result := 0xF }
      | some c => { sl with phase := .restart, result := c.code, partner := lowestOther sl.q c.marked }))
  ∧ (∀ (s : State) (sl : Slot), s.sched.slot = some sl → sl.phase = .restart → sl.result = 0xF →
    sl.start + s.rd HFE_TEST_CFG0.T_OFF + s.rd HFE_TEST_CFG0.T_RST ≤ s.ticks →
    ∃ t u, exec .testRestartCheck s = .next t ∧ t.sched.slot = some u ∧ u.q = sl.q ∧ u.phase = .guard ∧ t.mem = s.mem
      ∧ u.result = (if toSigned 16 (s.rd HFE_THR0.THR_OPEN sl.q) ≤ s.rdS HFE_SAMPLE.CODE sl.q
          ∧ s.rdS HFE_SAMPLE.CODE sl.q < toSigned 16 (s.rd HFE_THR1.THR_SHORT sl.q) then 0 else faultNoRestart))
  ∧ (∀ (s : State) (sl : Slot), s.sched.slot = some sl →
    (sl.phase = .guard ∧ sl.start + s.slotTicks ≤ s.ticks) ∨ (sl.phase = .blanked ∧ (s.sys sl.q).blankUntil ≤ s.ticks) →
    ∃ t, exec .testSlotEnd s = .next t ∧ t.sched.slot = none ∧ t.flag HFE_TEST.VALID sl.q = true
      ∧ t.rd HFE_TEST.GEN sl.q = (s.rd HFE_TEST.GEN sl.q + 1) % 65536 ∧ t.rd HFE_TEST.RESULT sl.q = sl.result % 16
      ∧ t.rd HFE_TEST.PARTNER sl.q = sl.partner % 256 ∧ t.rd HFE_TEST_POS.CUR = 0xFF
      ∧ OnlyFields [(HFE_TEST.VALID, sl.q), (HFE_TEST.GEN, sl.q), (HFE_TEST.RESULT, sl.q), (HFE_TEST.PARTNER, sl.q),
          (HFE_TEST_POS.CUR, 0)] s t
      ∧ { t with regs := s.regs, sched := s.sched } = s)
  ∧ ∀ (s : State) (q : Fin 192), s.sysUsed q = true →
    exec (.testLate q) s =
      .next (if (s.sys q).lastTest + 15000 * s.rd HFE_TEST_CFG0.T_HST ≤ s.ticks then s.wrFlag HFE_COUNT.LATE true q else s)

/-- R117, R118: a correction that arrives in time is kept, clipped, with its tick; one above QUIET while the rails are quiet makes
its system suspect. Where ticks of the head wait for it, they may be worked then; else nothing but the system changes, and never
another head or the mode. After 50,000 samples with no check failing a requalification qualifies the system. -/
def Obligations.CancellerPort : Prop :=
  (∀ (s : State) (q : Fin 192) (tick : Nat) (corr : BitVec 16) (raw : Int),
    (s.sys q).raws.find? (fun p => decide (p.1 = tick)) = some (tick, raw) → s.rd HFE_CANC.CLIP q ≠ 0 →
    s.cancellerFaulted = false → s.ticks < tick + 2 → s.rd HFE_GLB_STATUS.RATE = rateFull →
    (s.sys q).corrections.any (fun c => decide (c.tick = tick)) = false →
    ∃ t, exec (.cancellerCorrection q tick corr) s = .next t
      ∧ (t.sys q).corrections = (cancelledOf (s.rd HFE_CANC.CLIP q) raw corr.toInt tick :: (s.sys q).corrections).take 3
      ∧ (s.rrcQuiet = true → s.rd HFE_CANC.QUIET q < corr.toInt.natAbs → (t.sys q).qualified = false)
      ∧ ((s.head (q / 2)).waits = [] ∨ s.chafer.running = false ∨ s.headUsed (q / 2) = false ∨ s.sliceFaulted (q / 2) = true →
          { t with systems := s.systems } = s)
      ∧ (∀ h : Fin 96, h.val ≠ q.val / 2 → t.head h = s.head h ∧ t.hstate h = s.hstate h) ∧ t.mode = s.mode
      ∧ (s.ringOffers (s.rd HFE_CHF_POST.RING) = false → t.mem = s.mem))
  ∧ ∀ (s : State) (q : Fin 192), s.sysUsed q = true → s.checkSlices = true → s.rd HFE_CANC.CLIP q ≠ 0 →
    popcount 50 (s.sys q).absences ≤ 5 → (s.sys q).clipRun < 250 → 50000 ≤ (s.sys q).goodRun → s.rd HFE_GLB_STATUS.RATE = rateFull →
    ∃ t, exec (.cancellerRequalify q) s = .next t ∧ (t.sys q).qualified = true ∧ { t with systems := s.systems } = s

/-- R120 to R124: enabled with a legal configuration the recorder starts at SEQ 0, else CFG_ERR is set and nothing else. ARM arms.
A block that completes is stored with its index entry at the places of its SEQ, and no other byte changes; a lost block counts
its 50 frames and stores nothing. -/
def Obligations.RecorderWritesBlocks : Prop :=
  (∀ s : State, s.flag HFE_REC_CTRL.ENABLE = false →
    (s.recConfigOk = false → exec .recorderEnable s = .next (s.wrFlag HFE_REC_STATUS.CFG_ERR true))
    ∧ (s.recConfigOk = true → ∃ t, exec .recorderEnable s = .next t ∧ t.flag HFE_REC_CTRL.ENABLE = true
      ∧ t.flag HFE_REC_STATUS.CFG_ERR = false ∧ t.rd HFE_REC_STATUS.N_BLK = recBlocks (s.rd HFE_REC_LEN.LEN)
      ∧ t.recorder.seq = 0 ∧ t.mem = s.mem
      ∧ OnlyFields [(HFE_REC_CTRL.ENABLE, 0), (HFE_REC_STATUS.CFG_ERR, 0), (HFE_REC_STATUS.N_BLK, 0)] s t))
  ∧ (∀ s : State, ∃ t, exec .recorderArm s = .next t ∧ t.flag HFE_REC_STATUS.ARMED = true
    ∧ t.flag HFE_REC_STATUS.FROZEN = false ∧ OnlyFields [(HFE_REC_STATUS.ARMED, 0), (HFE_REC_STATUS.FROZEN, 0)] s t
    ∧ { t with regs := s.regs, recorder := s.recorder } = s)
  ∧ (∀ s : State, s.recording = true → s.recorder.started = true → s.mdllB = true →
    ∃ t, exec (.recorderBlock false) s = .next t ∧ t.recorder.seq = s.recorder.seq + 1 ∧ t.recorder.started = false
      ∧ t.rd HFE_REC_SEQ_LO.SEQ = s.recorder.seq % 2 ^ 32 ∧ t.mem = (recStore s).mem
      ∧ (∀ a, (a < recBlockAddr (s.rd HFE_REC_BASE.BASE) s.recSlot ∨ recBlockAddr (s.rd HFE_REC_BASE.BASE) s.recSlot + 19264 ≤ a) →
          (a < recIndexAddr (s.rd HFE_REC_BASE.BASE) s.recSlot ∨ recIndexAddr (s.rd HFE_REC_BASE.BASE) s.recSlot + 16 ≤ a) →
          t.mem.read a = s.mem.read a)
      ∧ OnlyFields [(HFE_REC_SEQ_LO.SEQ, 0), (HFE_REC_STATUS.FROZEN, 0), (HFE_REC_STATUS.ARMED, 0),
          (HFE_REC_STATUS.POST_RUN, 0)] s t)
  ∧ ∀ s : State, s.recording = true → s.recorder.started = true → ∃ t, exec (.recorderBlock true) s = .next t
    ∧ t.rd HFE_REC_LOST.LOST = min (s.rd HFE_REC_LOST.LOST + 50) (2 ^ HFE_REC_LOST.LOST.width - 1)
    ∧ t.recorder.seq = s.recorder.seq ∧ t.mem = s.mem
    ∧ OnlyFields [(HFE_REC_LOST.LOST, 0), (HFE_REC_STATUS.FROZEN, 0), (HFE_REC_STATUS.ARMED, 0), (HFE_REC_STATUS.POST_RUN, 0)] s t

/-! ### Chafer -/

/-- R131, R136, R147, R149, R153: a tick consumes its two samples; where nothing is open of its cancelled ones it is worked at once, and
a head with a faulted system is then not OK, and FAILED where it was so or the tick decides no lower cause (how a tick waits for its
cancelled samples is the model's reading, log 69; that a lower cause defers the fault, log 68); a discrepancy that reaches T_disc with the tick that comes makes an OK head DISTURBED; a
passage without a change for T_STAND is marked; a head that has been quiet for T_QUIET returns to OK; a held record is posted. No
other head's state changes. A record is stored only in the buffer that its ring offers. -/
def Obligations.ChaferHeads : Prop :=
  (∀ (s : State) (h : Fin 96), s.chafer.running = true → s.headUsed h = true → (s.head h).freshA = true → (s.head h).freshB = true →
    s.sliceFaulted h = false → ∃ t, exec (.chaferTick h) s = .next t ∧ (t.head h).freshA = false ∧ (t.head h).freshB = false ∧ t.mode = s.mode
      ∧ (s.worksAtOnce h = true → s.sysFault (2 * h) = true ∨ s.sysFault (2 * h + 1) = true →
          (0 < (s.headCfg h).tQuiet → t.hstate h ≠ headOk)
          ∧ (s.hstate h = headFailed ∨ s.decidedNow h = [] → t.hstate h = headFailed))
      ∧ (∀ k : Fin 96, k ≠ h → t.hstate k = s.hstate k)
      ∧ (s.ringOffers (s.rd HFE_CHF_POST.RING) = false → t.mem = s.mem))
  ∧ (∀ (s : State) (h : Fin 96), s.chafer.running = true → s.headUsed h = true → (s.head h).disc ≠ none →
    (s.head h).declared = false → s.rd HFE_CHF_CFG1.T_DISC h ≤ (s.head h).disc.getD 0 + 1 → s.hstate h = headOk →
    ∃ t, exec (.discrepancyTimeout h) s = .next t ∧ t.hstate h = headDisturbed ∧ t.rd HFE_CHF_STATE.CAUSE h = chDiscrepancy
      ∧ (t.head h).declared = true ∧ (t.head h).passage = none ∧ t.mode = s.mode
      ∧ (∀ k : Fin 96, k ≠ h → t.hstate k = s.hstate k) ∧ (s.chaferReady = false → t.mem = s.mem))
  ∧ (∀ (s : State) (h : Fin 96) (p : Passage), s.chafer.running = true → (s.head h).passage = some p →
    (s.headCfg h).tStand ≤ p.sinceChange + 1 → ∃ t, exec (.standing h) s = .next t ∧ (t.head h).passage = some { p with standing := true } ∧ (t.head h).standing = true
      ∧ (∀ k : Fin 96, k ≠ h → t.head k = s.head k) ∧ { t with heads := s.heads } = s)
  ∧ (∀ (s : State) (h : Fin 96), s.chafer.running = true → s.headUsed h = true → s.hstate h = headDisturbed →
    (s.head h).quietNow (s.headCfg h) (s.tickIn h) = true → (s.headCfg h).tQuiet ≤ (s.head h).quiet + 1 → s.chaferReady = true ∨ s.chafer.held.length < 32 →
    ∃ t, exec (.headQuiet h) s = .next t ∧ t.hstate h = headOk ∧ t.rd HFE_CHF_STATE.CAUSE h = chNone ∧ t.mode = s.mode
      ∧ (∀ k : Fin 96, k ≠ h → t.hstate k = s.hstate k) ∧ (s.chaferReady = false → t.mem = s.mem))
  ∧ ∀ (s : State) (r : ChRec) (rest : List ChRec) (d : Desc), s.chafer.held = r :: rest → OffersBuffer (s.rd HFE_CHF_POST.RING) d s →
    ∃ t, exec .recordPost s = .next t ∧ t.chafer.held = rest ∧ t.chafer.posted = s.chafer.posted ++ [r] ∧ t.mode = s.mode
      ∧ t.heads = s.heads ∧ OnlyDelivered (s.rd HFE_CHF_POST.RING) d 32 s t

/-! ### Sections -/

/-- R172, R175, R177, R468: a SECTION_RESET posted on a ready channel waits for the cycle boundary with its operation; VALID of
its result is 0 meanwhile, and no section has changed. R169, R171, R174, R175: a reset whose conditions hold here and at the
peer makes its section CLEAR with the cause of its kind; one that is too late makes it DISTURBED. The change is published and raises
vector 3, and nothing but the section changes, what its publication writes, and what tests of outputs note of it; with EN_SECTION
set, a section that becomes DISTURBED may also latch a snapshot (R439). That a section byte is taken modulo 64 is the model's choice
(log 39). -/
def Obligations.SectionResetsWaitAndEnd : Prop :=
  (∀ (s : State) (ch : Chan) (tag sec : Byte) (token : BitVec 16), ChannelReady ch.val s → PairAtWork s →
    s.counting.request = none →
    ∀ p ∈ [(Instr.sectionResetSweep ch tag sec, opSweep, 0), (.sectionResetConfirmed ch tag sec, opConfirmed, 0),
        (.sectionResetConfirm ch tag sec token, opConfirm, token.toNat), (.sectionResetAbort ch tag sec, opAbort, 0)],
      ∃ t, exec p.1 s = .next t ∧ t.counting.request = some ⟨p.2.1, sec.toNat % 64, p.2.2, some ch.val⟩
        ∧ t.flag CNT_RESET_RESULT.VALID = false ∧ t.rd CNT_RESET_RESULT.SECTION = sec.toNat % 64
        ∧ t.flag (statPending ch.val) = true ∧ t.sections = s.sections ∧ t.mode = s.mode ∧ t.mem = s.mem
        ∧ ∀ x : Fin 64, t.secState x = s.secState x)
  ∧ ((∀ (s : State) (x : Fin 64), s.countingRuns = true → s.prepDone x = true → s.peerDone x = true →
    ∀ p ∈ [(Instr.sweepDone x, false, secSweepDone), (.confirmed x, true, secConfirmed)], s.awaitsConf x = p.2.1 →
      ∃ t, exec p.1 s = .next t ∧ t.secState x = secClear ∧ t.rd CNT_SEC_STATE.CAUSE x = p.2.2
        ∧ t.rd CNT_SEC_PREP.TOKEN x = 0 ∧ bit (t.rd SYS_IRQ_PEND.VEC) 3 = true
        ∧ t.rd CNT_CYCLE.GEN = (s.rd CNT_CYCLE.GEN + 1) % 65536 ∧ t.rd CNT_CYCLE.N_REC = 0 ∧ t.rd CNT_CYCLE.N_REM = 0
        ∧ (∀ y : Fin 64, s.secUsed y = true → t.rd CNT_SEC_DELTA.DELTA y = 0)
        ∧ OnlyFields (sectionFields x) s t
        ∧ { t with regs := s.regs, sections := s.sections, chans := s.chans, out := s.out } = s)
  ∧ ∀ (s : State) (x : Fin 64), s.countingRuns = true → s.secUsed x = true → s.secState x = secPrepared →
    ∀ p ∈ [(Instr.tPrepExpiry x, false), (.tConfMaxExpiry x, true)], s.awaitsConf x = p.2 →
      ∃ t, exec p.1 s = .next t ∧ t.secState x = secDisturbed ∧ t.rd CNT_SEC_STATE.CAUSE x = secResetTimeout
        ∧ t.rd CNT_SEC_PREP.TOKEN x = 0 ∧ bit (t.rd SYS_IRQ_PEND.VEC) 3 = true
        ∧ t.rd CNT_CYCLE.GEN = (s.rd CNT_CYCLE.GEN + 1) % 65536
        ∧ t.mode = s.mode ∧ t.mem = s.mem
        ∧ (s.flag SNP_CFG.EN_SECTION = false → OnlyFields (sectionFields x) s t
          ∧ { t with regs := s.regs, sections := s.sections, chans := s.chans, out := s.out } = s))

/-- R168, R169, R180, R181: an undercount, a held link and a lasting disagreement each make a section that is not DISTURBED so,
with their cause as its first; the change is published, and nothing but the section changes, and with EN_SECTION set a snapshot that
it may latch (R439). CNT_FORCE of the joined pair leaves its cause for the
boundary; of core 0 alone it is an access error. -/
def Obligations.SectionEventsDisturb : Prop :=
  (∀ (s : State) (x : Fin 64), s.countingRuns = true → s.secUsed x = true → s.secState x ≠ secDisturbed →
    ∀ p ∈ [(Instr.undercount x, decide (s.secCountOf x < 0), secUndercount),
        (.linkHoldExpiry x, s.flag CNT_SEC_STATE.LINK_HOLD x && decide (s.mode ≠ .recovery), secLinkLost),
        (.peerDisagree x, s.disagrees x, secPeerDisagree)], p.2.1 = true →
      ∃ t, exec p.1 s = .next t ∧ t.secState x = secDisturbed ∧ t.rd CNT_SEC_STATE.CAUSE x = p.2.2
        ∧ t.rd CNT_SEC_CAUSE.FIRST x = p.2.2 ∧ t.rd CNT_SEC_CAUSE.LAST x = p.2.2
        ∧ t.rd CNT_SEC_CAUSE.N_DIST x = min (s.rd CNT_SEC_CAUSE.N_DIST x + 1) 65535
        ∧ t.flag CNT_SEC_STATE.LINK_HOLD x = false ∧ bit (t.rd SYS_IRQ_PEND.VEC) 3 = true
        ∧ t.rd CNT_CYCLE.GEN = (s.rd CNT_CYCLE.GEN + 1) % 65536
        ∧ t.mode = s.mode ∧ t.mem = s.mem
        ∧ (s.flag SNP_CFG.EN_SECTION = false → OnlyFields (sectionFields x) s t
          ∧ { t with regs := s.regs, sections := s.sections, chans := s.chans, out := s.out } = s))
  ∧ ∀ (s : State) (x : Fin 64),
    (s.joined = true → exec (.cntForce x) s = .next (s.modSec x (fun r => { r with causes := secPlausibility :: r.causes })))
    ∧ (s.joined = false → s.zeroAlone = true →
      exec (.cntForce x) s = .next (accessError .core0 .notPermitted true CNT_FORCE.reg.base s))

/-! ### The Scarab pair -/

/-- R190, R192, R193, R201, R206, R207: while the comparator compares, a fault that the comparator can show splits the pair with core
0 alone, is counted, recorded and a Hold cause, and preempts a split in its hand-over; a lost heartbeat sets every latch, and does the
same as such a fault, as one of port HEARTBEAT with COMPARATOR as its cause; a
debug halt of the joined pair stops both cores. Every output gate is off from then on; the mode changes at the next boundary only.
A halt of one core of a split pair stops that core and nothing else; a resume lets a halted core that is out of reset run again,
and joins nothing. R461: an instruction shifted into the test access port drives an output pin only while reset is asserted, and the
pin of a gate never. That the port keeps its instruction over a warm reset is the model's choice (log 99). -/
def Obligations.PairFaultsSplit : Prop :=
  (∀ (s : State) (port : BitVec 3) (half inst : BitVec 2) (lane lanes : Byte) (pc : Word), s.comparing = true →
    s.pair.step ≠ .joined → s.mode ≠ .resetSeq →
    ∀ p ∈ [(Instr.lockstep port half inst lane lanes pc, 1, LKS_FAULT_CNT.N_LOCKSTEP),
        (.comparator port half inst lane lanes pc, 2, LKS_FAULT_CNT.N_COMPARATOR)], p.1.wf = true → s.lastStands p.2.1 = false →
      ∃ t, exec p.1 s = .next t ∧ t.rd LKS_STATUS.STATE = pairSplit ∧ t.rd LKS_STATUS.SPLIT_CAUSE = splitFault
        ∧ t.flag LKS_STATUS.CMP_EN = false ∧ t.flag LKS_STATUS.CORE0_RUN = !s.flag LKS_DBG.HALT0 ∧ t.flag LKS_STATUS.CORE1_RUN = false
        ∧ (∀ r, s.pair.splitting = some r → t.rd LKS_RESULT.STATUS = 7 ∧ t.pair.splitting = none)
        ∧ t.rd p.2.2 = min (s.rd p.2.2 + 1) (2 ^ p.2.2.width - 1) ∧ t.flag LKS_FAULT0.VALID = true
        ∧ (s.flag LKS_FAULT0.VALID = false → t.rd LKS_FAULT1.PC = pc.toNat ∧ t.rd LKS_FAULT0.PORT = port.toNat)
        ∧ CauseRecorded ⟨p.2.1, 7, 0xFF⟩ s t ∧ (∀ o, t.soh o = false ∧ t.sol o = false) ∧ t.mode = s.mode ∧ t.mem = s.mem)
  ∧ (∀ (s : State) (y : Bool), s.flag LKS_HB.ARMED = true → s.mdllA = true → s.clk.rcStopped = false →
    ∃ t, exec (.heartbeatLoss y) s = .next t ∧ (∀ o : Fin 72, t.flag SOP_CH_STATE.LATCH o = true)
      ∧ t.flag (if y then LKS_HB.LOSS_Y else LKS_HB.LOSS_X) = true ∧ t.mode = s.mode ∧ t.mem = s.mem
      ∧ (s.comparing = true → s.pair.step ≠ .joined → s.mode ≠ .resetSeq → s.lastStands 2 = false →
        t.rd LKS_STATUS.STATE = pairSplit ∧ t.rd LKS_STATUS.SPLIT_CAUSE = splitFault ∧ t.flag LKS_STATUS.CMP_EN = false
        ∧ t.flag LKS_STATUS.CORE0_RUN = !s.flag LKS_DBG.HALT0 ∧ t.flag LKS_STATUS.CORE1_RUN = false
        ∧ (∀ r, s.pair.splitting = some r → t.rd LKS_RESULT.STATUS = 7 ∧ t.pair.splitting = none)
        ∧ t.rd LKS_FAULT_CNT.N_COMPARATOR = min (s.rd LKS_FAULT_CNT.N_COMPARATOR + 1) (2 ^ LKS_FAULT_CNT.N_COMPARATOR.width - 1)
        ∧ t.flag LKS_FAULT0.VALID = true
        ∧ (s.flag LKS_FAULT0.VALID = false → t.rd LKS_FAULT0.PORT = 7 ∧ t.rd LKS_FAULT0.HALF = if y then 2 else 1)
        ∧ CauseRecorded ⟨2, 7, 0xFF⟩ s t ∧ (∀ o, t.soh o = false ∧ t.sol o = false)))
  ∧ (∀ (s : State) (c : Bool), s.joined = true → s.pair.step ≠ .joined → s.mode ≠ .resetSeq → s.lastStands 3 = false →
    ∃ t, exec (.debugHalt (.halt c)) s = .next t ∧ t.flag LKS_DBG.SEEN = true ∧ t.rd LKS_STATUS.STATE = pairSplit
      ∧ t.rd LKS_STATUS.SPLIT_CAUSE = splitDebug ∧ t.flag LKS_STATUS.CORE0_RUN = false ∧ t.flag LKS_STATUS.CORE1_RUN = false
      ∧ CauseRecorded ⟨3, 7, 0xFF⟩ s t ∧ (∀ o, t.soh o = false ∧ t.sol o = false) ∧ t.mode = s.mode ∧ t.mem = s.mem)
  ∧ (∀ (s : State) (c : Bool), s.joined = false → s.pair.step = .idle →
    exec (.debugHalt (.halt c)) s = .next (if c then
      ((s.wrFlag LKS_DBG.SEEN true).wrFlag LKS_DBG.HALT1 true).wrFlag LKS_STATUS.CORE1_RUN false
    else ((s.wrFlag LKS_DBG.SEEN true).wrFlag LKS_DBG.HALT0 true).wrFlag LKS_STATUS.CORE0_RUN false))
  ∧ ∀ s : State,
    exec (.debugHalt (.resume false)) s = .next (if s.flag LKS_DBG.HALT0 then
      (s.wrFlag LKS_DBG.HALT0 false).wrFlag LKS_STATUS.CORE0_RUN s.pair.out0 else s)
    ∧ exec (.debugHalt (.resume true)) s = .next (if s.flag LKS_DBG.HALT1 then
      (s.wrFlag LKS_DBG.HALT1 false).wrFlag LKS_STATUS.CORE1_RUN s.pair.out1 else s)
    ∧ ∀ (cells : List (OutPin × Bool)), ∃ t, exec (.debugHalt (.instruction (.boundary cells))) s = .next t
      ∧ { t with tap := s.tap } = s
      ∧ (∀ p, s.phase ≠ .held → t.pin p = t.pinOwn p)
      ∧ (∀ o : Fin 72, t.pin (.soh o) = .ofLevel (s.soh o) ∧ t.pin (.sol o) = .ofLevel (s.sol o))
      ∧ (∀ m : Fin 36, t.pin (.pwmH m) = .ofLevel (s.legH m) ∧ t.pin (.pwmL m) = .ofLevel (s.legL m))
      ∧ (∀ p b, s.phase = .held → cellDrives p = true → cells.find? (fun c => decide (c.1 = p)) = some (p, b) →
          t.pin p = .ofLevel b)

/-! ### Safety outputs -/

/-- R220, R222: a commit of the joined pair with another generation is STALE, a second one of the cycle REPEAT, and neither does
more. One that is accepted makes the staged commands the commands in force, clears exactly the latches whose staged release
R26 permits, clears the staged releases, and stamps its generation. R230: a locked channel whose faults are 0x4 and 0x5 alone,
that is de-energised and has passed a split-switch test since, unlocks; else UNLOCK_RES says so and nothing else changes. -/
def Obligations.CommitsAndUnlocksAreChecked : Prop :=
  (∀ (s : State) (gen : BitVec 16) (us : Nat), s.joined = true →
    (gen.toNat ≠ s.rd CNT_CYCLE.GEN → exec (.sopCommit gen us) s = .next (s.wr SOP_COMMIT_STATUS.RESULT 2))
    ∧ (gen.toNat = s.rd CNT_CYCLE.GEN → s.flag SOP_COMMIT_STATUS.VALID = true →
      exec (.sopCommit gen us) s = .next (s.wr SOP_COMMIT_STATUS.RESULT 3))
    ∧ (gen.toNat = s.rd CNT_CYCLE.GEN → s.flag SOP_COMMIT_STATUS.VALID = false → ∃ t, exec (.sopCommit gen us) s = .next t
      ∧ t.outputs.commands = s.stagedCommands ∧ t.rd SOP_COMMIT_STATUS.RESULT = 1 ∧ t.flag SOP_COMMIT_STATUS.VALID = true
      ∧ t.rd SOP_COMMIT_STATUS.GEN = gen.toNat ∧ t.stagedReleases = 0
      ∧ (∀ o : Fin 72, t.flag SOP_CH_STATE.LATCH o = (s.flag SOP_CH_STATE.LATCH o && !(bit s.stagedReleases o
          && { s with outputs := { s.outputs with commands := s.stagedCommands } }.releasePermitted o)))
      ∧ t.mode = s.mode ∧ t.mem = s.mem))
  ∧ (∀ (s : State) (o : BitVec 7), s.joined = true →
    if o.toNat < 72 ∧ s.chanUsed o.toNat = true ∧ (s.chan o.toNat).faults ≠ 0 ∧ (s.chan o.toNat).faults % 8 = 0
        ∧ (s.chan o.toNat).splitPassed = true ∧ s.energised o.toNat = false then
      ∃ t, exec (.sopUnlock o) s = .next t ∧ t.locked o.toNat = false ∧ t.rd SOP_CH_STATE.FAULT o.toNat = 0
        ∧ t.rd SOP_GLB_STATUS.UNLOCK_RES = 1 ∧ OnlyFields [(SOP_CH_STATE.FAULT, o.toNat), (SOP_GLB_STATUS.UNLOCK_RES, 0)] s t
        ∧ (∀ k, k ≠ o.toNat → t.chan k = s.chan k) ∧ { t with regs := s.regs, chans := s.chans } = s
    else exec (.sopUnlock o) s = .next (s.wr SOP_GLB_STATUS.UNLOCK_RES 3))

/-- R219, R225 to R229: at the window of its slot an OFF pulse drives one gate of an energised channel low and leaves the other on; at
T_PULSE the readbacks are judged where no term of R23 went false meanwhile, and a fault locks the channel. A split-switch test
runs on a de-energised channel in its slot, or from the head of the queue in a cycle that is no channel's slot, and waits where its
slot falls in a mode without tests: step H drives the high-side gate alone, after T_STEP and a gap of a tick step L the low-side
one, and at its end rows 5 and 6 judge both. An abandon sequence ends with its last tick and not before. The window opens half a tick
after a tick boundary, from which the parts are timed (log 19). A channel whose last test is 2 T_OTEST past is late. Only the
channel under test changes. -/
def Obligations.OutputTestsRunAndEnd : Prop :=
  (∀ (s : State) (o : Fin 72), s.testsRun = true → s.windowOpens = true → s.inSlot o = true → s.actionFree = true →
    s.energised o = true →
    ∃ t, exec (.offPulse o) s = .next t ∧ t.soh o = s.flag SOP_CH_STATE.NEXT_L o ∧ t.sol o = !s.flag SOP_CH_STATE.NEXT_L o
      ∧ OnlyFields [(SOP_CH_TEST.VALID, o)] s t ∧ (∀ k, k ≠ o.val → t.chan k = s.chan k)
      ∧ { t with regs := s.regs, chans := s.chans, outputs := s.outputs } = s)
  ∧ (∀ (s : State) (o : Fin 72) (som sov : Bool), (s.chan o).test = .pulseH ∨ (s.chan o).test = .pulseL →
    s.testLasted o (5 * s.rd SOP_TEST_CFG.T_PULSE + windowLag) = true → ∃ t, exec (.offPulseEnd o som sov) s = .next t ∧ (t.chan o).test = .none ∧ t.flag SOP_CH_TEST.VALID o = true
      ∧ t.rd SOP_CH_TEST.GEN o = (s.rd SOP_CH_TEST.GEN o + 1) % 65536
      ∧ t.rd SOP_CH_TEST.RESULT o = (if (s.chan o).broken = true ∨ s.baseTerm o = false then 0xF
          else if (s.chan o).test = .pulseH then rowLowLow som sov else rowHighLow som sov)
      ∧ ((s.chan o).broken = false → s.baseTerm o = true → t.rd SOP_CH_CNT.PULSES o = (s.rd SOP_CH_CNT.PULSES o + 1) % 65536
          ∧ t.flag SOP_CH_STATE.NEXT_L o = decide ((s.chan o).test = .pulseH)
          ∧ (t.rd SOP_CH_TEST.RESULT o ≠ 0 → t.locked o = true))
      ∧ (∀ k, k ≠ o.val → t.chan k = s.chan k) ∧ { t with regs := s.regs, chans := s.chans, out := s.out } = s)
  ∧ (∀ (s : State) (o : Fin 72), s.splitTestable o = true →
    (s.testsRun = false → exec (.splitSwitchTest o) s = .next (if s.inSlot o then deferSplitTest o s else s))
    ∧ (s.testsRun = true → s.windowOpens = true → s.actionFree = true →
      s.inSlot o = true ∨ s.someSlot = false ∧ s.outputs.deferred.head? = some o.val →
      ∃ t, exec (.splitSwitchTest o) s = .next t ∧ (t.chan o).test = .stepH
      ∧ t.outputs.deferred = (if s.inSlot o then s.outputs.deferred else s.outputs.deferred.tail)
      ∧ t.soh o = true ∧ t.sol o = false ∧ OnlyFields [(SOP_CH_TEST.VALID, o)] s t
      ∧ (∀ k, k ≠ o.val → t.chan k = s.chan k) ∧ { t with regs := s.regs, chans := s.chans, outputs := s.outputs } = s))
  ∧ (∀ (s : State) (o : Fin 72) (som sov : BitVec 72), s.phase ≠ .held → s.clk.gatedA = false → s.clk.gateATicks ≤ 500 →
    s.hostPort.waits = [] → (∀ r : Fin 32, (s.ring r).catchDue = false) → s.outputs.item = none →
    ∃ t, exec (.tick som sov) s = .next t
      ∧ ((s.chan o).test = .stepH → (t.chan o).test =
          if 10 * s.rd SOP_TEST_CFG.T_STEP + windowLag ≤ 20 * (s.ticks + 1 - (s.chan o).testTick) then .gap else .stepH)
      ∧ ((s.chan o).test = .gap → (t.chan o).test = if (s.chan o).testTick ≤ s.ticks then .stepL else .gap))
  ∧ (∀ (s : State) (o : Fin 72) (somH sovH somL sovL : Bool), (s.chan o).test = .abandon →
    exec (.splitSwitchTestEnd o somH sovH somL sovL) s = .next (if (s.chan o).abandonTicks ≤ 1 then
      s.modChan o (fun c => { c with test := .none, abandonTicks := 0 }) else s))
  ∧ (∀ (s : State) (o : Fin 72) (somH sovH somL sovL : Bool), (s.chan o).test = .stepL → s.chanUsed o = true →
    s.testLasted o (10 * s.rd SOP_TEST_CFG.T_STEP) = true →
    ∃ t, exec (.splitSwitchTestEnd o somH sovH somL sovL) s = .next t ∧ (t.chan o).test = .none
      ∧ t.flag SOP_CH_TEST.VALID o = true ∧ t.flag SOP_CH_STATE.TEST_LATE o = false
      ∧ (rowHighLow somH sovH = 0 ∧ rowLowLow somL sovL = 0 → t.rd SOP_CH_TEST.RESULT o = 0 ∧ (t.chan o).splitPassed = true
          ∧ t.locked o = s.locked o)
      ∧ (rowHighLow somH sovH ≠ 0 ∨ rowLowLow somL sovL ≠ 0 → t.rd SOP_CH_TEST.RESULT o ≠ 0 ∧ t.locked o = true)
      ∧ (∀ k, k ≠ o.val → t.chan k = s.chan k) ∧ { t with regs := s.regs, chans := s.chans, out := s.out } = s)
  ∧ ∀ (s : State) (o : Fin 72),
    exec (.outputTestLate o) s = .next (if s.testOverdue o then s.wrFlag SOP_CH_STATE.TEST_LATE true o else s)

/-! ### Links -/

/-- R238, R240: every link in use that is not DOWN sends its frame in a mode that sends, and its sequence advances; another link
sends none. Nothing else changes. R237, R253: what a receiver reads between
the delimiter and the end of a frame are the bytes sent, and what does not end in a preamble and delimiter begins no frame. R245
to R251: a frame that fails a check shows its reason and its source, and no report of
it is kept; the third rejected or missing frame in a row ends UP. An accepted frame clears the run, and its count and reports
stand. No other link changes. Where a receiver begins, and the fields that the loopback shares with other frames, are the model's
choice (log 62). -/
def Obligations.LinkFramesAreSentAndJudged : Prop :=
  (∀ s : State, ∃ t, exec .frameTransmit s = .next t
    ∧ (∀ l : Fin 4, if s.linkUsed l ∧ s.linkState l ≠ linkDown ∧ s.linkMode ∧ s.mdllA then
        t.rd NBL_SEQ.TX l = (s.rd NBL_SEQ.TX l + 1) % 65536 ∧ t.rd NBL_TX_CNT.COUNT l = (s.rd NBL_TX_CNT.COUNT l + 1) % 2 ^ 32
          ∧ Out.linkFrame l (s.txFrame l) (lineLevels (s.txFrame l)) ∈ t.out
      else t.rd NBL_SEQ.TX l = s.rd NBL_SEQ.TX l ∧ t.rd NBL_TX_CNT.COUNT l = s.rd NBL_TX_CNT.COUNT l)
    ∧ OnlyFields ((List.range 4).flatMap (fun l => [(NBL_SEQ.TX, l), (NBL_TX_CNT.COUNT, l)])) s t
    ∧ { t with regs := s.regs, out := s.out } = s)
  ∧ (∀ frame : List Nat, (∀ b ∈ frame, b < 256) →
    lineBytes (byteLevels frame ++ [true, true]) = frame ∧ lineWhole (byteLevels frame ++ [true, true]) = true)
  ∧ ((∀ (s : State) (l : Fin 4) (lead line : List Bool) (after : Nat), s.mode ≠ .dormant → s.linkListens l = true →
    (∃ noise, lead = noise ++ byteLevels [0x55, 0x55, 0xD5]) →
    match s.frameReject l (lineWhole line) (lineBytes line) (s.tickNs + after) with
    | some why => ∃ t, exec (.frameReceived l lead line after) s = .next t ∧ t.rd NBL_LAST_REJ.REASON l = why % 16
        ∧ t.rd NBL_LAST_REJ.SRC_ID l = (lineBytes line).getD 1 0 % 256 ∧ (t.link l).reports = (s.link l).reports
        ∧ (s.linkIsUp l = true → s.rd NBL_STATE.RUN l = 2 → t.linkState l = linkLost ∧ t.rd NBL_STATE.LEFT_UP l = leftBadRun)
        ∧ (∀ k, k ≠ l.val → t.link k = s.link k) ∧ t.mode = s.mode ∧ t.mem = s.mem
    | none => ∃ t, exec (.frameReceived l lead line after) s = .next t ∧ t.rd NBL_STATE.RUN l = 0
        ∧ t.flag NBL_STATE.FOREIGN l = false
        ∧ t.rd NBL_SEQ.RX_LAST l = ((lineBytes line).getD 2 0 * 256 + (lineBytes line).getD 3 0) % 65536
        ∧ t.rd NBL_RX_OK.COUNT l = (s.rd NBL_RX_OK.COUNT l + 1) % 2 ^ 32 ∧ (t.link l).lastAccept = s.tickNs + after
        ∧ (t.link l).reports = slice (lineBytes line) 4 (3 * s.rd NBL_CFG.N_REP_RX l)
        ∧ (∀ k, k ≠ l.val → t.link k = s.link k) ∧ t.mode = s.mode ∧ t.mem = s.mem)
  ∧ (∀ (s : State) (l : Fin 4) (lead line : List Bool) (after : Nat), (¬ ∃ noise, lead = noise ++ byteLevels [0x55, 0x55, 0xD5]) →
    exec (.frameReceived l lead line after) s = .next s)
  ∧ ∀ (s : State) (l : Fin 4), s.linkUsed l = true → s.linkState l ≠ linkDown →
    ∃ t, exec (.frameMissing l) s = .next t ∧ t.rd NBL_ERR0.MISSING l = min (s.rd NBL_ERR0.MISSING l + 1) 65535
      ∧ t.rd NBL_STATE.ESTAB l = 0
      ∧ (s.linkIsUp l = true → s.rd NBL_STATE.RUN l = 2 → t.linkState l = linkLost ∧ t.rd NBL_STATE.LEFT_UP l = leftBadRun)
      ∧ (∀ k, k ≠ l.val → t.link k = s.link k) ∧ t.mode = s.mode ∧ t.mem = s.mem)

/-! ### The check unit -/

/-- R261, R264: GO on an idle bank with a range that the bank may read starts a scan over it, from START's value; a scan of bank S
suspends bank A. R265, R267: a scan that completes, or is aborted, publishes the running value over the bytes entered with
their number, and raises one interrupt; one that is suspended, or whose memory stands, does not complete (R264, R397). Memory stays.
R258: where a slot check waits for bank A, its scan begins there then. R268: a beat that meets an uncorrectable error ends the scan
with its address. That a scan of the cores is one run to its completion row is the model's reading (log 47). -/
def Obligations.ScansRunAndEnd : Prop :=
  (∀ (s : State) (b : Fin 2) (tag : BitVec 16) (start : BitVec 2), (b = 0 → s.joined = true) → s.scanBusy b = false →
    chkRangeOk b (s.rd CHK_x_ADDR.ADDR b) (s.rd CHK_x_LEN.LEN b) = true → start.toNat < 2 → s.rd CHK_x_LEN.LEN b ≠ 0 →
    ∃ t, exec (.chkGo b tag start) s = .next t ∧ (t.scan b).running = true ∧ (t.scan b).kind = .plain
      ∧ (t.scan b).addr = s.rd CHK_x_ADDR.ADDR b ∧ (t.scan b).live = 0
      ∧ (t.scan b).len = s.rd CHK_x_LEN.LEN b ∧ (t.scan b).tag = tag.toNat ∧ t.flag CHK_x_RESULT.VALID b = false
      ∧ t.rd CHK_x_RUN.RUN b = (if start.toNat = 0 then 0xFFFFFFFF else s.rd CHK_x_RUN.RUN b)
      ∧ ((t.scan 0).running = true → (t.scan 1).running = true → (t.scan 1).suspended = true)
      ∧ OnlyFields [(CHK_x_RUN.RUN, b), (CHK_x_RESULT.VALID, b), (CHK_x_RUN.RUN, 1), (CHK_x_DONE.DONE, 1)] s t
      ∧ { t with regs := s.regs, scans := s.scans, free := s.free } = s)
  ∧ (∀ (s : State) (b : Fin 2) (us : Nat) (f : MemFound), (s.scan b).suspended = true ∨ s.scanStands b = true →
    exec (.chkScanComplete b us f) s = .next s)
  ∧ (∀ (s : State) (n us : Nat) (f : MemFound), (s.scan 1).running = true → (s.scan 1).kind = .plain → (s.scan 1).queue = [] →
    (s.scan 1).suspended = false → s.scanStands 1 = false → s.flash.running = true → s.flash.op = 3 → s.flash.scanning = false →
    ∀ c ∈ [Instr.chkScanComplete 1 us f, .chkAbort 1 n us], ∃ t, exec c s = .next t ∧ (t.scan 1).running = true
      ∧ (t.scan 1).kind = .header ∧ t.flag CHK_x_RESULT.VALID 1 = false ∧ t.flash = { s.flash with scanning := true } ∧ t.mem = s.mem)
  ∧ (∀ (s : State) (b : Fin 2) (a : Word) (us : Nat), (s.scan b).running = true → (s.scan b).kind = .plain → (s.scan b).queue = [] →
    (s.scan b).suspended = false → s.scanStands b = false → s.slotCheckWaits b = false →
    (s.scan b).addr ≤ a.toNat → a.toNat < (s.scan b).addr + (s.scan b).len →
    ∃ t, exec (.chkScanComplete b us ⟨[], [a]⟩) s = .next t ∧ (t.scan b).running = false ∧ t.flag CHK_x_RESULT.VALID b = true
      ∧ t.rd CHK_x_RESULT.STATUS b = chkReadError
      ∧ t.rd CHK_x_DONE.DONE b = max (s.scan b).live ((a.toNat - (s.scan b).addr) / 8 * 8) % 2 ^ 29
      ∧ t.rd CHK_ERR_ADDR.ADDR = ((s.scan b).addr + max (s.scan b).live ((a.toNat - (s.scan b).addr) / 8 * 8)) % 2 ^ 32
      ∧ t.mode = s.mode ∧ t.mem = s.mem)
  ∧ ∀ (s : State) (b : Fin 2) (n us : Nat), (s.scan b).running = true → (s.scan b).kind = .plain → (s.scan b).queue = [] →
    (s.scan b).live ≤ (s.scan b).len → s.slotCheckWaits b = false →
    ∀ p ∈ [(Instr.chkScanComplete b us ⟨[], []⟩, chkOk, 0, (s.scan b).len), (.chkAbort b n us, chkAborted, 1,
        if (s.scan b).suspended then (s.scan b).live else max (s.scan b).live (min n (s.scan b).len))],
      (p.2.1 = chkOk → (s.scan b).suspended = false ∧ s.scanStands b = false) →
      (p.2.1 = chkAborted → b = 0 → s.joined = true) →
      ∃ t, exec p.1 s = .next t ∧ (t.scan b).running = false ∧ t.flag CHK_x_RESULT.VALID b = true
        ∧ t.rd CHK_x_RESULT.STATUS b = p.2.1 ∧ t.rd CHK_x_RESULT.ABORT_ACK b = p.2.2.1
        ∧ t.rd CHK_x_RESULT.GEN b = (s.rd CHK_x_RESULT.GEN b + 1) % 65536
        ∧ t.rd CHK_x_RUN.RUN b = crcRun (s.rd CHK_x_RUN.RUN b)
            (s.memBytes ((s.scan b).addr + (s.scan b).live) (p.2.2.2 - (s.scan b).live)) % 2 ^ 32
        ∧ t.rd CHK_x_CRC.CRC b = crcFinal (t.rd CHK_x_RUN.RUN b) % 2 ^ 32
        ∧ t.rd CHK_x_DONE.DONE b = p.2.2.2 % 2 ^ 29 ∧ t.out = .coreIrq 6 b :: s.out
        ∧ { t with regs := s.regs, scans := s.scans, out := s.out } = s

/-! ### Leaven -/

/-- R275 to R277, R280 to R282, R286: a control step takes the codes of the bus's channels into its window of a nominal period and its
measurements from that, and counts the time since the last kick; in FORMING it leaves
ω inside its clamp; where the mode does not let Leaven run it trips with MODE, the lowest cause. Without MDLL-A none runs. -/
def Obligations.ControlStepsRunLeaven : Prop :=
  (∀ (s : State) (refs : List (Int × Int)), s.mdllA = false → exec (.controlStep refs) s = .next s)
  ∧ ∀ (s : State) (refs : List (Int × Int)), s.mdllA = true → ∃ t, exec (.controlStep refs) s = .next t
    ∧ t.leaven.sample = (sampleWindows s).sampleNow refs ∧ t.leaven.busWin = (s.voltageCodes 3 :: s.leaven.busWin).take s.periodSteps
    ∧ t.leaven.kick = s.leaven.kick + 1 ∧ t.leaven.command = none ∧ t.mode = s.mode ∧ t.mem = s.mem
    ∧ (50 * s.rd GFE_SUP.T_SUP ≤ s.leaven.kick + 1 → t.flag GFE_STATUS.SUP_LOST = true)
    ∧ (s.gfe = gfeForming → s.leaven.command = none →
        t.gfe = gfeOff ∨ pu - s.fTrip ≤ t.leaven.w ∧ t.leaven.w ≤ pu + s.fTrip)
    ∧ (s.gfe ≠ gfeOff → s.leavenMode = false → s.leaven.raised = [] → t.gfe = gfeOff ∧ t.rd GFE_STATUS.CAUSE = gfeMode)

/-- R283, R286: a command waits for the control step, VALID of its result being 0; while one is pending a further one is refused
with BUSY, by an outcome of its own with VALID still 0, and the pending one stands. A kick ends the loss of supervision, which T_SUP without one declares. -/
def Obligations.LeavenCommandsWait : Prop :=
  (∀ s : State, ∀ p ∈ [(Instr.start, leavenStart), (.stop, leavenStop), (.abort, leavenAbort), (.sync, leavenSync),
      (.breakerClosed, leavenBreaker)],
    (s.leaven.command = none → exec p.1 s = .next ((s.wrFlag GFE_RESULT.VALID false).modGfe (fun l => { l with command := some p.2 })))
    ∧ (s.leaven.command ≠ none → ∃ t, exec p.1 s = .next t ∧ t.rd GFE_RESULT.STATUS = gfeBusy
      ∧ t.rd GFE_RESULT.OP = p.2 ∧ t.rd GFE_RESULT.REASON = 0 ∧ t.rd GFE_RESULT.ABORT_ACK = 0 ∧ t.flag GFE_RESULT.VALID = false
      ∧ t.rd GFE_RESULT.GEN = (s.rd GFE_RESULT.GEN + 1) % 65536
      ∧ OnlyFields [(GFE_RESULT.STATUS, 0), (GFE_RESULT.GEN, 0), (GFE_RESULT.OP, 0), (GFE_RESULT.REASON, 0), (GFE_RESULT.ABORT_ACK, 0),
          (GFE_RESULT.VALID, 0)] s t ∧ OnlyRegisters s t))
  ∧ ∀ s : State, exec .gfeKick s = .next ((s.wrFlag GFE_STATUS.SUP_LOST false).modGfe (fun l => { l with kick := 0 }))
    ∧ exec .supLost s = .next (s.wrFlag GFE_STATUS.SUP_LOST true)

/-- R274, R276, R277, R282, R287, R293: each trip makes Leaven OFF with its cause, its bridges' gates off, `CLOSE_PERMIT` low and
no reservation left, the bridges available as before (R271). A DC link out of its window takes its bridge out with the reason; Leaven
trips only where too few remain. Nothing but Leaven and its bridges changes, and with EN_LEAVEN set a snapshot that a trip may latch
(R439). -/
def Obligations.LeavenTrips : Prop :=
  (∀ s : State,
    ∀ p ∈ [(Instr.bsOverload, decide (s.gfe = gfeBlackstart) && (decide (s.leaven.phase = .ramp) || decide (s.leaven.phase = .settle)),
          gfeBsOverload),
        (.frtTime, decide (s.gfe = gfeRide), gfeFrtTime),
        (.freq, decide (s.gfe ≠ gfeOff) && s.flag GFE_STATUS.CLAMP, gfeFreq),
        (.overvolt, decide (s.gfe ≠ gfeOff), gfeOvervolt)], p.2.1 = true →
      ∃ t, exec p.1 s = .next t ∧ t.gfe = gfeOff ∧ t.rd GFE_STATUS.CAUSE = p.2.2 ∧ t.flag GFE_STATUS.CLOSE_PERMIT = false
        ∧ t.rd GFE_COUNT.N_TRIP = min (s.rd GFE_COUNT.N_TRIP + 1) 65535 ∧ t.leaven.reservations = []
        ∧ bit (t.rd SYS_IRQ_PEND.VEC) 5 = true ∧ (∀ j : Fin 12, s.gfeBridge j = true → t.flag PWM_BR_STATUS.ENABLED j = false)
        ∧ t.leaven.avail = s.leaven.avail ∧ t.mode = s.mode ∧ t.mem = s.mem
        ∧ (s.flag SNP_CFG.EN_LEAVEN = false →
          OnlyFields ([(GFE_STATUS.STATE, 0), (GFE_STATUS.CAUSE, 0), (GFE_STATUS.GEN, 0), (GFE_STATUS.CLOSE_PERMIT, 0),
            (GFE_STATUS.ILIM, 0), (GFE_STATUS.CLAMP, 0), (GFE_COUNT.N_TRIP, 0), (SYS_IRQ_PEND.VEC, 0)]
            ++ ((List.range 12).filter s.gfeBridge).map (fun j => (PWM_BR_STATUS.ENABLED, j))) s t
          ∧ { t with regs := s.regs, leaven := s.leaven, out := s.out } = s))
  ∧ ∀ (s : State) (j : Fin 12) (high : Bool), s.avail j = true → ∃ t, exec (.dcWindowTimeout j high) s = .next t
    ∧ t.flag PWM_BR_STATUS.ENABLED j = false ∧ bits (t.rd GFE_BRIDGES.REASON) (2 * j) 2 = (if high then 3 else 2)
    ∧ (if s.gfe ≠ gfeOff ∧ (s.availList.filter (fun k => decide (k ≠ j.val))).length < s.rd GFE_BASE.MIN_BR then
        t.gfe = gfeOff ∧ t.rd GFE_STATUS.CAUSE = gfeBridges
      else t.gfe = s.gfe) ∧ t.availList = s.availList.filter (fun k => decide (k ≠ j.val)) ∧ t.mode = s.mode ∧ t.mem = s.mem
    ∧ (s.flag SNP_CFG.EN_LEAVEN = false → { t with regs := s.regs, leaven := s.leaven, out := s.out } = s)

/-- R280, R287, R289, R290: the end of a back-off joins a live bus, ramps a dead one, and trips else; the ramp's end settles; a
join takes the bus's phase and frequency and forms; an automatic start is one of at most three in 600 s. -/
def Obligations.LeavenStartsAndJoins : Prop :=
  (∀ s : State, s.gfe = gfeBlackstart → s.leaven.phase = .backoff ∨ s.leaven.phase = .recheck → s.leaven.raised = [] →
    ∃ t, exec .blackstartBackoffEnd s = .next t ∧ t.mode = s.mode ∧ t.mem = s.mem
      ∧ (if countUpTo (fun j => s.avail j && s.dcInside j) 12 < s.rd GFE_BASE.MIN_BR then
          t.gfe = gfeOff ∧ t.rd GFE_STATUS.CAUSE = gfeBridges
        else if s.busLive then t.gfe = gfeBlackstart ∧ t.leaven.phase = .join
        else if s.busDead then t.gfe = gfeBlackstart ∧ t.leaven.phase = .ramp ∧ t.leaven.w = pu ∧ t.leaven.e = 0
          ∧ ∀ j : Fin 12, s.avail j = true → s.tripped j = false → s.flag PWM_BR_STATUS.CH_FAIL j = false → t.flag PWM_BR_STATUS.ENABLED j = true
        else t.gfe = gfeOff ∧ t.rd GFE_STATUS.CAUSE = gfeBsContend))
  ∧ (∀ s : State, s.gfe = gfeBlackstart → s.leaven.phase = .ramp →
    exec .blackstartRampEnd s = .next (s.modGfe (fun l => { l with phase := .settle, phaseSteps := 0, settleRun := 0 })))
  ∧ (∀ s : State, s.gfe = gfeBlackstart → s.leaven.phase = .join → ∃ t, exec .join s = .next t ∧ t.mode = s.mode ∧ t.mem = s.mem
    ∧ (if s.busLive then t.gfe = gfeForming ∧ t.rd GFE_STATUS.CAUSE = gfeJoin ∧ t.leaven.w = s.held32 0 s.leaven.sample.fBus
        ∧ t.leaven.theta = s.leaven.sample.phiBus % 4294967296 ∧ t.leaven.e = s.held32 1 s.leaven.sample.vb
        ∧ ∀ j : Fin 12, s.avail j = true → s.tripped j = false → s.flag PWM_BR_STATUS.CH_FAIL j = false → t.flag PWM_BR_STATUS.ENABLED j = true
      else t.gfe = gfeOff ∧ t.rd GFE_STATUS.CAUSE = gfeBsContend))
  ∧ ∀ s : State, s.flag GFE_BASE.AUTO_BS = true → s.mode = .service ∨ s.mode = .recovery → s.leaven.noAuto = false →
    s.startRefusal = none →
    (3 ≤ s.autosNow.length → exec .autoBs s = .next (s.modGfe (fun l => { l with noAuto := true })))
    ∧ (s.autosNow.length < 3 → ∃ t, exec .autoBs s = .next t ∧ t.gfe = gfeBlackstart ∧ t.rd GFE_STATUS.CAUSE = gfeStart
      ∧ t.leaven.autoTicks = s.ticks :: s.autosNow ∧ t.leaven.phase = (if s.deadLong then .backoff else .join)
      ∧ bit (t.rd SYS_IRQ_PEND.VEC) 5 = true ∧ t.mode = s.mode ∧ t.mem = s.mem)

/-- R280, R292, R295, R296: the end of a ride-through, an automatic synchronisation and the ends of one change the state with
their cause; the permit goes high only in the window. Only Leaven changes. -/
def Obligations.LeavenRidesAndSynchronises : Prop :=
  (∀ s : State,
    ∀ p ∈ [(Instr.frtEnd, decide (s.gfe = gfeRide), gfeForming, gfeFrtEnd),
        (.autoSync, decide (s.gfe = gfeForming) && s.flag GFE_BASE.AUTO_SYNC && decide (s.mode = .service) && s.gridChannels
          && !s.leaven.noAutoSync, gfeSyncing, gfeStartSync),
        (.syncGridLost, decide (s.gfe = gfeSyncing), gfeForming, gfeGridLost),
        (.syncTimeout, decide (s.gfe = gfeSyncing), gfeForming, gfeSyncTimeout)], p.2.1 = true →
      ∃ t, exec p.1 s = .next t ∧ t.gfe = p.2.2.1 ∧ t.rd GFE_STATUS.CAUSE = p.2.2.2
        ∧ t.rd GFE_STATUS.GEN = (s.rd GFE_STATUS.GEN + 1) % 65536 ∧ bit (t.rd SYS_IRQ_PEND.VEC) 5 = true
        ∧ (s.gfe = gfeSyncing → t.flag GFE_STATUS.CLOSE_PERMIT = false)
        ∧ OnlyFields [(GFE_STATUS.STATE, 0), (GFE_STATUS.CAUSE, 0), (GFE_STATUS.GEN, 0), (GFE_STATUS.CLOSE_PERMIT, 0),
            (SYS_IRQ_PEND.VEC, 0)] s t
        ∧ { t with regs := s.regs, leaven := s.leaven, out := s.out } = s)
  ∧ ∀ s : State, s.gfe = gfeSyncing → s.mode = .service → s.inWindow = true →
    exec .closePermitQualified s = .next (s.wrFlag GFE_STATUS.CLOSE_PERMIT true)

/-- R279, R298, R300: a set-point beyond its range is clipped, the active, the reactive or the voltage one, and SET_CLIP says so; the oldest wheel-event copy that waits is taken
by the section, confidence and event time that its bytes hold, and no other: it is accepted and reserves power until its hold ends,
or is counted only; the reservation that expires first ends first. -/
def Obligations.SetpointsAndReservations : Prop :=
  (∀ (s : State) (v : Word), ∃ t, exec (.setpointWrite false v) s = .next t
    ∧ t.rdS GFE_SET0.P_SET = s.clipP (toSigned 16 (bits v.toNat 0 16))
    ∧ t.rdS GFE_SET0.Q_SET = clampInt (-12000) 12000 (toSigned 16 (bits v.toNat 16 16))
    ∧ t.flag GFE_SET1.SET_CLIP = (s.flag GFE_SET1.SET_CLIP || decide (t.rdS GFE_SET0.P_SET ≠ toSigned 16 (bits v.toNat 0 16))
        || decide (t.rdS GFE_SET0.Q_SET ≠ toSigned 16 (bits v.toNat 16 16)))
    ∧ OnlyFields [(GFE_SET0.P_SET, 0), (GFE_SET0.Q_SET, 0), (GFE_SET1.SET_CLIP, 0)] s t ∧ OnlyRegisters s t)
  ∧ (∀ (s : State) (v : Word), ∃ t, exec (.setpointWrite true v) s = .next t
    ∧ (t.rd GFE_SET1.V_SET : Int) = clampInt 9000 11000 (bits v.toNat 0 16)
    ∧ t.flag GFE_SET1.SET_CLIP = (decide (t.rd GFE_SET1.V_SET ≠ bits v.toNat 0 16)
        || s.flag GFE_SET1.SET_CLIP && !bit v.toNat 31)
    ∧ OnlyFields [(GFE_SET1.V_SET, 0), (GFE_SET1.SET_CLIP, 0)] s t ∧ OnlyRegisters s t)
  ∧ (∀ (s : State) (x conf ns : Nat), (∀ bs ∈ s.leaven.copies.head?, copyFields bs ≠ (x, conf, ns)) →
    exec (.ffCopy x conf ns) s = .next s)
  ∧ (∀ (s : State) (bs : List Nat) (rest : List (List Nat)) (x conf ns : Nat), s.leaven.copies = bs :: rest →
    x = bs.getD 0x1E 0xFF → conf = bs.getD 0xF 0 → ns = bytesTime bs →
    (s.ffAccepts x conf ns = true → ∃ t, exec (.ffCopy x conf ns) s = .next t ∧ t.leaven.copies = rest
      ∧ t.leaven.reservations = addReservation (ns + 100000000 * s.rd GFE_FF_CFG0.FF_HOLD, s.rdS GFE_FF_AMP.A x)
          s.leaven.reservations
      ∧ t.rd GFE_FF_CNT.USED = min (s.rd GFE_FF_CNT.USED + 1) 65535 ∧ OnlyFields [(GFE_FF_CNT.USED, 0)] s t
      ∧ { t with regs := s.regs, leaven := s.leaven } = s)
    ∧ (s.ffAccepts x conf ns = false →
      exec (.ffCopy x conf ns) s = .next ((s.modGfe (fun l => { l with copies := rest })).count GFE_FF_CNT.IGNORED)))
  ∧ ∀ (s : State) (q : Nat × Int), firstToExpire s.leaven.reservations = some q → ∃ t, exec .ffReservationExpiry s = .next t
    ∧ t.leaven.reservations = s.leaven.reservations.erase q ∧ (∀ r ∈ s.leaven.reservations, q.1 ≤ r.1)
    ∧ { t with leaven := s.leaven } = s

/-! ### Bridges and power measurement -/

/-- R316, R317, R320: a desaturation trips the leg's bridge with the first cause, and none of its gates is on; a new crossing of the
window trips it, forces its leg, or is counted, by the channel's action, and changes nothing else but where the carrier has come
to; an input back inside the narrowed window ends both levels, one within the hysteresis changes nothing; the cores clear a trip only
with ENABLE 0, and a standing desaturation trips again. A trip whose Crumb `SNP_CFG` enables also latches one. The thresholds are the
codes before correction that item 8 has formed (the model's choice, log 88). -/
def Obligations.BridgeTrips : Prop :=
  (∀ (s : State) (m : Fin 36), s.legUsed m = true → s.legBridge m < 12 →
    exec (.dsat m false) s = .next (s.wrFlag PWM_LEG_STATE.DSAT false m)
    ∧ ∃ t, exec (.dsat m true) s = .next t ∧ t.flag PWM_LEG_STATE.DSAT m = true ∧ t.tripped (s.legBridge m) = true
      ∧ (∀ k, s.legBridge k = s.legBridge m → t.legH k = false ∧ t.legL k = false)
      ∧ t.mode = s.mode ∧ t.mem = s.mem
      ∧ (if s.tripped (s.legBridge m) then OnlyFields [(PWM_LEG_STATE.DSAT, m)] s t ∧ OnlyRegisters s t
        else t.rd PWM_BR_STATUS.TRIP (s.legBridge m) = tripDesat ∧ t.rd PWM_BR_STATUS.TRIP_LEG (s.legBridge m) = m
          ∧ (s.flag SNP_CFG.EN_BRIDGE = false → OnlyRegisters s t
            ∧ OnlyFields [(PWM_LEG_STATE.DSAT, m), (PWM_BR_STATUS.TRIP, s.legBridge m), (PWM_BR_STATUS.TRIP_LEG, s.legBridge m),
                (PWM_BR_STATUS.N_TRIP, s.legBridge m)] s t)))
  ∧ (∀ (s : State) (c : Fin 48) (x : Int) (up : Bool) (m : Fin 36) (th : Thresholds), s.rd PMA_CH_WIN1.LEG c = m → s.legUsed m = true →
    s.legBridge m < 12 → th = tget s.thresholds c → th.held = true →
    (if up then th.hi < x else x < th.lo ∧ x ≤ th.hi) →
    s.flag (if up then PMA_CH_STATUS.ABOVE else PMA_CH_STATUS.BELOW) c = false → ∃ t, exec (.windowCrossing c x) s = .next t
      ∧ t.flag PMA_CH_STATUS.ABOVE c = up ∧ t.flag PMA_CH_STATUS.BELOW c = !up
      ∧ (s.rd PMA_CH_WIN1.ACTION c = 1 → t.flag (if up then PMA_CH_STATUS.HI_SEEN else PMA_CH_STATUS.LO_SEEN) c = true)
      ∧ (s.rd PMA_CH_WIN1.ACTION c = 2 → t.flag PWM_LEG_STATE.FORCED m = true ∧ (t.leg m).forceS = !up)
      ∧ (s.rd PMA_CH_WIN1.ACTION c = 3 → t.tripped (s.legBridge m) = true
          ∧ (s.tripped (s.legBridge m) = false → t.rd PWM_BR_STATUS.TRIP (s.legBridge m) = tripOc))
      ∧ t.mode = s.mode ∧ t.mem = s.mem
      ∧ (s.flag SNP_CFG.EN_BRIDGE = false → (s.rd PMA_CH_WIN1.ACTION c ≠ 2 → OnlyRegisters s t)
        ∧ { t with regs := s.regs, legs := s.legs, gens := s.gens, bridges := s.bridges, free := s.free } = s))
  ∧ (∀ (s : State) (c : Fin 48) (x : Int) (th : Thresholds), th = tget s.thresholds c →
    (th.held = true → x ≤ th.hi → th.lo ≤ x → th.loBack ≤ x → x ≤ th.hiBack → exec (.windowCrossing c x) s =
      .next ((s.wrFlag PMA_CH_STATUS.ABOVE false c).wrFlag PMA_CH_STATUS.BELOW false c))
    ∧ (th.held = false ∨ (x ≤ th.hi ∧ th.lo ≤ x ∧ (x < th.loBack ∨ th.hiBack < x)) → exec (.windowCrossing c x) s = .next s))
  ∧ ∀ (s : State) (j : Fin 12),
    (s.coreOwned j = false → exec (.clrTrip j) s = .next (accessError .app .notPermitted true (PWM_BR_CTRL.CLR_TRIP.addr j) s))
    ∧ (s.coreOwned j = true → s.flag PWM_BR_CTRL.ENABLE j = true → exec (.clrTrip j) s = .next s)
    ∧ (s.coreOwned j = true → s.flag PWM_BR_CTRL.ENABLE j = false → ∃ t, exec (.clrTrip j) s = .next t
      ∧ t.rd PWM_BR_STATUS.TRIP j = (if (s.dsatLeg j).isSome then tripDesat else 0) ∧ t.mode = s.mode ∧ t.mem = s.mem
      ∧ (s.flag SNP_CFG.EN_BRIDGE = false ∨ s.dsatLeg j = none → { t with regs := s.regs, legs := s.legs } = s
        ∧ OnlyFields [(PWM_BR_STATUS.TRIP, j), (PWM_BR_STATUS.TRIP_LEG, j), (PWM_BR_STATUS.N_TRIP, j)] s t))

/-- R304, R306 to R309, R311, R312, R314, R318, R321: the cores enable and load only a bridge they own, and an enable in the clock
period of a trip has no effect; a load transfers every duty of
the bridge at its update point, and no other leg's; OC_N forced periods in a row trip; a control step's duties come into force
together or are counted late; after either a leg's state is whether the carrier, where it then stands, lies below its duty, or the
forced one; a hop steps the shift register eight times and takes its period. -/
def Obligations.BridgesFollowTheirOwner : Prop :=
  (∀ (s : State) (j : Fin 12) (late : Bool),
    (s.coreOwned j = false → (∀ w : EnableWrite,
        exec (.bridgeEnable j w) s = .next (accessError .app .notPermitted true (PWM_BR_CTRL.ENABLE.addr j) s))
      ∧ exec (.load j late) s = .next (accessError .app .notPermitted true (PWM_BR_CTRL.LOAD.addr j) s))
    ∧ (s.coreOwned j = true →
      exec (.bridgeEnable j .onAsItTrips) s = .next s
      ∧ (∃ t, exec (.bridgeEnable j .off) s = .next t ∧ t.flag PWM_BR_STATUS.ENABLED j = false ∧ t.flag PWM_BR_CTRL.ENABLE j = false
        ∧ OnlyFields [(PWM_BR_STATUS.ENABLED, j), (PWM_BR_CTRL.ENABLE, j)] s t ∧ OnlyRegisters s t)
      ∧ (s.flag PWM_BR_STATUS.CH_FAIL j = true → exec (.bridgeEnable j .on) s = .next s)
      ∧ (s.flag PWM_BR_STATUS.CH_FAIL j = false → ∃ t, exec (.bridgeEnable j .on) s = .next t
        ∧ t.flag PWM_BR_STATUS.ENABLED j = true ∧ t.flag PWM_BR_CTRL.ENABLE j = true
        ∧ OnlyFields [(PWM_BR_STATUS.ENABLED, j), (PWM_BR_CTRL.ENABLE, j)] s t
        ∧ { t with regs := s.regs, gens := s.gens, legs := s.legs } = s)
      ∧ ∃ t, exec (.load j late) s = .next t ∧ (t.bridge j).load = setBit (s.bridge j).load (if late then 1 else 0) true
        ∧ { t with bridges := s.bridges } = s))
  ∧ (∀ (s : State) (j : Fin 12) (peak : Bool), s.mdllA = true → s.bridgeUsed j = true → s.isUpdatePoint j peak = true →
    ∃ t, exec (.pwmUpdatePoint j peak) s = .next t ∧ t.mode = s.mode ∧ t.mem = s.mem
      ∧ (s.coreOwned j = true → (t.bridge j).load = (s.bridge j).load / 2)
      ∧ (s.coreOwned j = true → bit (s.bridge j).load 0 = true → ∀ m ∈ s.bridgeLegs j, (t.leg m).duty = s.rd PWM_LEG_DUTY.D m)
      ∧ (s.coreOwned j = false ∨ bit (s.bridge j).load 0 = false → ∀ m, (t.leg m).duty = (s.leg m).duty)
      ∧ (∀ m, m ∉ s.bridgeLegs j → (t.leg m).duty = (s.leg m).duty)
      ∧ (∀ m ∈ s.bridgeLegs j, (t.leg m).s = if t.flag PWM_LEG_STATE.FORCED m then (t.leg m).forceS
          else t.legBelow j m)
      ∧ (peak = false → s.rd PWM_BR_CFG0.OC_N j ≠ 0 → ∀ m ∈ s.bridgeLegs j, (s.leg m).forcedPeriod = true →
          s.rd PWM_BR_CFG0.OC_N j ≤ min (s.rd PWM_LEG_STATE.OC_RUN m + 1) 255 → t.tripped j = true))
  ∧ (∀ (s : State) (j : Fin 12), s.leavenOwned j = true → s.mdllA = true →
    exec (.stepUpdate j none) s = .next (s.count PWM_BR_STATUS.LATE j)
    ∧ ∀ a b c : BitVec 24, ∃ t, exec (.stepUpdate j (some (a, b, c))) s = .next t
      ∧ (∀ m, s.phaseLeg j 0 = some m → (t.leg m).duty = a.toNat) ∧ (∀ m, s.phaseLeg j 1 = some m → (t.leg m).duty = b.toNat)
      ∧ (∀ m, s.phaseLeg j 2 = some m → (t.leg m).duty = c.toNat)
      ∧ (∀ m, m ∉ s.bridgeLegs j → (t.leg m).duty = (s.leg m).duty)
      ∧ (∀ m ∈ s.bridgeLegs j, (t.leg m).s = if t.flag PWM_LEG_STATE.FORCED m then (t.leg m).forceS
          else t.legBelow j m)
      ∧ OnlyFields ((s.bridgeLegs j).map (fun m => (PWM_LEG_DUTY.D, m))) s t
      ∧ { t with regs := s.regs, legs := s.legs, gens := s.gens, bridges := s.bridges, free := s.free } = s)
  ∧ ∀ (s : State) (g : Fin 12), s.mdllA = true → s.flag PWM_GEN_CFG0.DITHER_EN g = true → s.rd PWM_GEN_STATUS.N_ALLOWED g ≠ 0 →
    ∃ t, exec (.ditherHop g) s = .next t ∧ (t.gen g).lfsr = lfsrRun 8 (s.gen g).lfsr
      ∧ t.rd PWM_GEN_STATUS.INDEX g = lfsrRun 8 (s.gen g).lfsr % 256 * s.rd PWM_GEN_STATUS.N_ALLOWED g / 256 % 256
      ∧ OnlyFields [(PWM_GEN_STATUS.INDEX, g), (PWM_GEN_PERIOD.PERIOD, g)] s t
      ∧ { t with regs := s.regs, gens := s.gens, legs := s.legs, bridges := s.bridges } = s

/-! ### Metering, packs and CAN -/

/-- R329, R332, R333: a sample of a string that integrates shows its codes, corrected by the device's own trim and then by the loaf's
calibration, and adds its energy to the counter of its sign; a full-scale code, before, between or after the two, sets OVERRANGE (which
codes are looked at is the model's choice, log 78); a string that does not integrate takes none; a stalled converter
makes its string UNMETERED. No other string changes. -/
def Obligations.SamplesAreIntegrated : Prop :=
  (∀ (s : State) (k : Fin 32) (v i : BitVec 24) (v0 i0 : Int), v0 = ownTrim (s.str k).trimV (clampInt (-mtrFull) mtrFull v.toInt) →
    i0 = ownTrim (s.str k).trimI (clampInt (-mtrFull) mtrFull i.toInt) →
    (s.integrates k = false → exec (.meterSample k v i) s = .next s)
    ∧ (s.integrates k = true → ∃ t, exec (.meterSample k v i) s = .next t
      ∧ (t.str k).v = mtrCal (s.str k).cfg.vgain (s.str k).cfg.voff v0
      ∧ (t.str k).i = (if (s.str k).cfg.sign then -1 else 1)
          * mtrCal (s.str k).cfg.igain (s.str k).cfg.ioff i0
      ∧ t.rdS MTR_STR_V.CODE k = (t.str k).v ∧ t.rdS MTR_STR_I.CODE k = (t.str k).i
      ∧ (t.str k).eDis = ((s.str k).eDis + (sampleEnergy (s.str k).cfg (t.str k).v (t.str k).i).toNat) % 2 ^ 96
      ∧ (t.str k).eChg = ((s.str k).eChg + (-(sampleEnergy (s.str k).cfg (t.str k).v (t.str k).i)).toNat) % 2 ^ 96
      ∧ ((∃ x ∈ [clampInt (-mtrFull) mtrFull v.toInt, clampInt (-mtrFull) mtrFull i.toInt, v0, i0, (t.str k).v, (t.str k).i],
          x.natAbs = 8388607) → t.flag MTR_STR_STATUS.OVERRANGE k = true ∧ bit (t.rd MTR_STR_STATUS.FLAGS k) flOver = true)
      ∧ OnlyFields [(MTR_STR_V.GEN, k), (MTR_STR_V.CODE, k), (MTR_STR_I.GEN, k), (MTR_STR_I.CODE, k),
          (MTR_STR_STATUS.OVERRANGE, k), (MTR_STR_STATUS.FLAGS, k)] s t
      ∧ (∀ j, j ≠ k.val → t.str j = s.str j) ∧ { t with regs := s.regs, strings := s.strings } = s))
  ∧ ∀ (s : State) (k : Fin 32), (s.integrates k = false → exec (.meterStall k) s = .next s)
    ∧ (s.integrates k = true → ∃ t, exec (.meterStall k) s = .next t ∧ t.integrates k = false
      ∧ t.flag MTR_STR_STATUS.UNMETERED k = true ∧ bit (t.rd MTR_STR_STATUS.FLAGS k) flUnmetered = true
      ∧ OnlyFields [(MTR_STR_STATUS.UNMETERED, k), (MTR_STR_STATUS.FLAGS, k)] s t
      ∧ (∀ j, j ≠ k.val → t.str j = s.str j) ∧ { t with regs := s.regs, strings := s.strings } = s)

/-- R334 to R338: a close that is due builds the record of each string and starts its next span; while MDLL-B is gated it marks a
gap; one that is not due does nothing. A record that reads back is programmed at the next position and posted, and its string's SEQ advances; of four that do not, the
last stops the ledger. No byte changes but the record, its sector at a sector's start, and the buffer its ring offers. -/
def Obligations.LedgerClosesAndWrites : Prop :=
  (∀ s : State, s.closeDue = false → exec .ledgerClose s = .next s) ∧ (∀ s : State, s.mode = .dormant → s.closeDue = false)
  ∧ (∀ s : State, s.closeDue = true → ∃ t, exec .ledgerClose s = .next t ∧ t.mode = s.mode ∧ t.mem = s.mem
    ∧ ∀ k : Fin 32, s.strMetered k = true →
      (s.mdllB = false ∨ s.mode = .resetSeq → bit (t.rd MTR_STR_STATUS.FLAGS k) flGap = true ∧ t.waiting k = s.waiting k)
      ∧ (s.mdllB = true → s.mode ≠ .resetSeq → s.flag MTR_LEDGER_STATUS.FLASH_FAIL = false →
        s.rd MTR_STR_SEQ.NEXT k + (s.waiting k).length < 0xFFFFFFF0 →
          (t.str k).closeNs = s.timeNs ∧ (t.str k).closeDis = (s.str k).eDis ∧ (t.str k).closeChg = (s.str k).eChg
          ∧ ∃ n, t.waiting k = s.waiting k
            ++ [(meterTime k { s with free := n }).buildRecord k (s.rd MTR_STR_SEQ.NEXT k + (s.waiting k).length)
              (match (s.waiting k).getLast? with | some bs => recCheck bs | none => (s.str k).check)]))
  ∧ ∀ (s : State) (k : Nat) (bs : List Nat) (rest : List (Nat × List Nat)), s.mdllB = true →
    s.flag MTR_LEDGER_STATUS.FLASH_FAIL = false → s.meter.queue = (k, bs) :: rest → bs.length = 64 → k < 32 →
    s.meter.ptr < ledgerSlots →
    (∃ t, exec (.ledgerRecordWritten true) s = .next t ∧ t.meter.queue = rest ∧ t.meter.ptr = (s.meter.ptr + 1) % ledgerSlots
      ∧ t.rd MTR_STR_SEQ.NEXT k = (s.rd MTR_STR_SEQ.NEXT k + 1) % 2 ^ 32 ∧ (t.str k).check = recCheck bs
      ∧ bit (t.rd SYS_IRQ_PEND.VEC) 7 = true
      ∧ (s.ringOffers s.ledgerRing = false → t.mem = (enterSector s).mem.writeBytes (flashAddr (ledgerOff s.meter.ptr)) bs)
      ∧ ∀ a, (a < flashAddr (ledgerOff s.meter.ptr)
            ∨ flashAddr (ledgerOff s.meter.ptr) + (if s.meter.ptr % ledgerSector = 0 then 65536 else 64) ≤ a) →
          (s.ringOffers s.ledgerRing = false → t.mem.read a = s.mem.read a)
          ∧ ∀ d, OffersBuffer s.ledgerRing d s → (a < d.dst ∨ d.dst + min d.len 64 ≤ a) →
            (a < s.rd DMA_RING_CBASE.BASE s.ledgerRing / 16 * 16 + 16 * (d.seq % s.ringSize s.ledgerRing)
              ∨ s.rd DMA_RING_CBASE.BASE s.ledgerRing / 16 * 16 + 16 * (d.seq % s.ringSize s.ledgerRing) + 16 ≤ a) →
            t.mem.read a = s.mem.read a)
    ∧ ∃ t, exec (.ledgerRecordWritten false) s = .next t ∧ t.meter.ptr = (s.meter.ptr + 1) % ledgerSlots
      ∧ t.flag MTR_LEDGER_STATUS.FLASH_FAIL = decide (3 ≤ s.meter.tries)
      ∧ (s.meter.tries < 3 → t.meter.queue = s.meter.queue ∧ t.meter.tries = s.meter.tries + 1)
      ∧ (3 ≤ s.meter.tries → t.meter.queue = [])
      ∧ OnlyBytes (flashAddr (ledgerOff s.meter.ptr)) (if s.meter.ptr % ledgerSector = 0 then 65536 else 64) s t

/-- R340, R434: LEDGER_READ posted on a ready channel is answered at once with its status, and, where the string has records, with
those asked for; memory and mode stay. R432, R434, R435, R438, R442: a command posted on a ready channel is answered with its
code, its tag and its status: SUMMARY waits for the boundary; SNAP latches at once, or arms its time; a code that has no
command is UNKNOWN; a command that the pair has not taken in 10 ms is answered TIMEOUT. A post on a channel with a command pending is
only counted. That UNKNOWN, BAD_LENGTH and TIMEOUT have empty payloads is the model's choice (log 37). -/
def Obligations.CommandsAreAnsweredAtOnce : Prop :=
  (∀ (s : State) (ch : Chan) (tag k n : Byte) (first : Word), ChannelReady ch.val s → ∃ t, exec (.ledgerRead ch tag k n first) s = .next t
    ∧ (t.channel ch.val).request = none ∧ t.flag (statValid ch.val) = true ∧ t.flag (statPending ch.val) = false
    ∧ (t.channel ch.val).response.take 3 = [8, tag.toNat, (s.ledgerAnswer k.toNat n.toNat first.toNat).1.code]
    ∧ (oldestRec (sortRecs (s.ledgerOf k.toNat)) ≠ none → (t.channel ch.val).response
        = responseBytes 8 tag.toNat (s.ledgerAnswer k.toNat n.toNat first.toNat).1.code 0 (t.rd (statGen ch.val))
            (s.ledgerAnswer k.toNat n.toNat first.toNat).2)
    ∧ t.mode = s.mode ∧ t.mem = s.mem)
  ∧ ((∀ (s : State) (ch : Chan) (tag : Byte), ChannelReady ch.val s → ∃ t, exec (.summary ch tag) s = .next t
    ∧ (t.channel ch.val).request = some [0x5A, tag.toNat, 0, 0] ∧ t.flag (statPending ch.val) = true
    ∧ t.flag (statValid ch.val) = false ∧ t.mode = s.mode ∧ t.mem = s.mem)
  ∧ (∀ (s : State) (tag : Byte), s.svReady = true → (s.channel 1).request ≠ none →
    exec (.summary 1 tag) s = .next (s.count SYS_CMD_STAT_SV.N_BUSY))
  ∧ (∀ (s : State) (ch : Chan) (tag : Byte), ChannelReady ch.val s → s.snap.latchedNow = none →
    ∃ t, exec (.snap ch tag none) s = .next t ∧ (t.channel ch.val).request = none ∧ t.flag (statValid ch.val) = true
      ∧ (t.channel ch.val).response.take 3 = [4, tag.toNat, if s.flag SNP_STATUS.LOCKED then 7 else 1]
      ∧ t.rd SNP_STATUS.GEN = (if s.flag SNP_STATUS.LOCKED then s.rd SNP_STATUS.GEN else (s.rd SNP_STATUS.GEN + 1) % 65536)
      ∧ (s.flag SNP_STATUS.LOCKED = false → t.rd SNP_STATUS.SOURCE = 3 ∧ t.flag SNP_STATUS.VALID = true)
      ∧ t.mode = s.mode ∧ t.mem = s.mem)
  ∧ (∀ (s : State) (ch : Chan) (tag : Byte) (ns : Word) (sec : BitVec 48) (at_ : Nat) (ok : Bool), ChannelReady ch.val s →
    at_ = 1000000000 * sec.toNat + ns.toNat →
    ok = (decide (ns.toNat < 1000000000) && !s.flag SNP_STATUS.ARMED && decide (s.timeNs < at_)) →
    ∃ t, exec (.snap ch tag (some (ns, sec))) s = .next t ∧ (t.channel ch.val).request = none
      ∧ (t.channel ch.val).response.take 3 = [4, tag.toNat, if ok then 1
          else if ns.toNat < 1000000000 ∧ s.flag SNP_STATUS.ARMED = true then 4 else 0xE]
      ∧ t.snap = (if ok then { s.snap with armedAt := some at_ } else s.snap)
      ∧ t.flag SNP_STATUS.ARMED = (ok || s.flag SNP_STATUS.ARMED) ∧ t.mode = s.mode ∧ t.mem = s.mem)
  ∧ (∀ (s : State) (ch : Chan) (tag code : Byte) (payload : List Byte), (Instr.unknownCmd ch tag code payload).wf = true →
    ChannelReady ch.val s → ∃ t, exec (.unknownCmd ch tag code payload) s = .next t ∧ (t.channel ch.val).request = none
      ∧ (t.channel ch.val).response = responseBytes code.toNat tag.toNat 0x12 0 (t.rd (statGen ch.val)) []
      ∧ t.flag (statValid ch.val) = true ∧ t.mode = s.mode ∧ t.mem = s.mem)
  ∧ ∀ (s : State) (ch : Chan),
    ((s.channel ch.val).request = none ∨ (s.channel ch.val).taken = true ∨ s.takeOver ch.val = false →
      exec (.commandTimeout ch) s = .next s)
    ∧ ∀ req, (s.channel ch.val).request = some req → (s.channel ch.val).taken = false → pairCode (reqCode req) = true →
      s.takeOver ch.val = true →
      ∃ t, exec (.commandTimeout ch) s = .next t ∧ (t.channel ch.val).request = none ∧ t.flag (statValid ch.val) = true
        ∧ (t.channel ch.val).response = responseBytes (reqCode req) (reqTag req) 0x11 0 (t.rd (statGen ch.val)) []
        ∧ t.mode = s.mode ∧ t.mem = s.mem)

/-- R343 to R345, R347, R353: every frame without error lowers the receive error counter, and one with an error raises it, to error
passive beyond 127; a remote frame is counted only; a data frame of one string, on its controller, is discarded and flagged
where a field does not pass, else taken, a primary one ending SILENT; a frame of no string and no class changes no report.
3 T_PACK without a primary frame make a string SILENT, and 10 s without a discard end MALFORMED. A frame is copied only into the buffer
its ring offers. -/
def Obligations.PackFramesReport : Prop :=
  (∀ (s : State) (c : Fin 8) (ext : Bool) (id : BitVec 29), s.canRuns c = true →
    (∃ t, exec (.packFrame c ext .remote id []) s = .next t
      ∧ t.rd CAN_QSTAT.N_REMOTE c = min (s.rd CAN_QSTAT.N_REMOTE c + 1) (2 ^ CAN_QSTAT.N_REMOTE.width - 1)
      ∧ OnlyFields [(CAN_QSTAT.N_REMOTE, c), (CAN_STATUS.REC, c), (CAN_STATUS.STATE, c)] s t
      ∧ { t with regs := s.regs, free := s.free } = s)
    ∧ ∀ n : Fin 9, ∃ t, exec (.packFrame c ext (.error n) id []) s = .next t
      ∧ t.rd CAN_STATUS.REC c = min 255 (s.rd CAN_STATUS.REC c + n)
      ∧ t.rd CAN_STATUS.STATE c = (if 127 < s.rd CAN_STATUS.TEC c ∨ 127 < s.rd CAN_STATUS.REC c + n then 1 else 0)
      ∧ OnlyFields [(CAN_STATUS.REC, c), (CAN_STATUS.STATE, c)] s t ∧ OnlyRegisters s t)
  ∧ (∀ (s : State) (c : Fin 8) (ext : Bool) (id : BitVec 29) (data : List Byte), s.canRuns c = true →
    dlcLengths.contains data.length = true → ∃ t, exec (.packFrame c ext .data id data) s = .next t ∧ t.mode = s.mode
      ∧ (s.rd CAN_STATUS.REC c ≤ 127 → t.rd CAN_STATUS.REC c = s.rd CAN_STATUS.REC c - 1)
      ∧ (127 < s.rd CAN_STATUS.REC c → 119 ≤ t.rd CAN_STATUS.REC c ∧ t.rd CAN_STATUS.REC c ≤ 127)
      ∧ (∀ (k : Fin 32) (f : Nat), (List.range 32).filter (fun j => s.strUsed j && (s.mappedFrame ext id.toNat j).isSome) = [k.val] →
          s.mappedFrame ext id.toNat k = some f → s.rd MTR_PACK_STATUS.CTRL k = c →
          if s.packAccepts k f (byteNats data) then (f = 0 → t.flag MTR_PACK_STATUS.SILENT k = false)
              ∧ t.rd MTR_PACK_STATUS.N_DISCARD k = s.rd MTR_PACK_STATUS.N_DISCARD k
          else t.flag MTR_PACK_STATUS.MALFORMED k = true ∧ bit (t.rd MTR_STR_STATUS.FLAGS k) flMalformed = true
              ∧ t.rd MTR_PACK_STATUS.N_DISCARD k = min (s.rd MTR_PACK_STATUS.N_DISCARD k + 1) 255)
      ∧ ((∀ j : Fin 32, s.strUsed j = true → s.mappedFrame ext id.toNat j = none) → s.classFrame c ext id.toNat = false →
          t.strings = s.strings ∧ t.meter = s.meter)
      ∧ (s.ringOffers s.packRing = false → t.mem = s.mem)
      ∧ ∀ d, OffersBuffer s.packRing d s →
          OnlyDelivered s.packRing d (Config.packCopy c (id.toNat + 2 ^ 31 * b2n ext) (byteNats data)).length s t)
  ∧ ∀ (s : State) (k : Fin 32),
    (s.packLate k = false → exec (.packSilent k) s = .next s)
    ∧ (s.packLate k = true → ∃ t, exec (.packSilent k) s = .next t ∧ t.flag MTR_PACK_STATUS.SILENT k = true
      ∧ bit (t.rd MTR_STR_STATUS.FLAGS k) flSilent = true
      ∧ OnlyFields [(MTR_PACK_STATUS.SILENT, k), (MTR_STR_STATUS.FLAGS, k)] s t
      ∧ (∀ j, j ≠ k.val → t.str j = s.str j) ∧ { t with regs := s.regs, strings := s.strings } = s)
    ∧ exec (.packMalformedExpiry k) s
      = .next (if s.discardOver k then s.wrFlag MTR_PACK_STATUS.MALFORMED false k else s)

/-- R350 to R353: a post joins its queue, replaces its namesake in queue 0, or is refused where queues 1 to 3 are full; a 17th frame of
queue 0 replaces the oldest there (the model's choice, log 85). The frame that was next at the bus leaves its queue with its outcome,
or, one of queue 3 past its deadline, refused; an error raises the transmit counter, an aborted frame then ends ABORTED, and beyond 255
the controller is bus-off. An abort takes a queued frame out, marks one on the bus, or marks the completion word of one that has
won; passed deadlines refuse the bulk frames that have not started; bus-off empties every queue and recovery ends it. A full completion
FIFO counts what it loses. Memory and mode stay. Error counting is that of ISO 11898-1, and a post to a controller that is off ends
ABORTED with MODE (the model's choices, log 54). -/
def Obligations.CanQueuesFrames : Prop :=
  (∀ (s : State) (c : Fin 8) (tag : BitVec 16) (q : BitVec 2) (len : BitVec 7) (f : CanFrame),
    f = ⟨q.toNat, tag.toNat, s.canIdWord c, s.canData c len.toNat, s.upNs,
      min 10000 (max 1 (s.rd CAN_TX_DEADLINE.DEADLINE c)), false⟩ →
    (s.rd CAN_STATUS.STATE c = 3 → exec (.canTxPost c tag q len) s = .next (canDone c tag.toNat canAborted false canMode 0 s))
    ∧ (s.rd CAN_STATUS.STATE c ≠ 3 → q ≠ 0 → 16 ≤ (s.canQueue c q.toNat).length →
      exec (.canTxPost c tag q len) s = .next (canDone c tag.toNat canRefused false 0 0 s))
    ∧ (s.rd CAN_STATUS.STATE c ≠ 3 → (s.canQueue c q.toNat).length < 16 →
      (q = 0 → ∀ g ∈ s.canQueue c 0, g.aborted = false → sameId g.idWord f.idWord = false) →
      ∃ t, exec (.canTxPost c tag q len) s = .next t
      ∧ (t.can c).frames = (s.can c).frames ++ [f] ∧ (t.can c).done = (s.can c).done ∧ { t with cans := s.cans } = s)
    ∧ ∀ g, s.rd CAN_STATUS.STATE c ≠ 3 → q = 0 → (s.can c).done.length < 64 →
      (match (s.canQueue c 0).find? (fun g => sameId g.idWord f.idWord && !g.aborted) with
        | some h => g = h
        | none => 16 ≤ (s.canQueue c 0).length ∧ (s.canQueue c 0).find? (fun g => !g.aborted) = some g) →
      ∃ t, exec (.canTxPost c tag q len) s = .next t
      ∧ (t.can c).frames = (s.can c).frames.map (fun h => if h = g then f else h)
      ∧ (t.can c).done = (s.can c).done ++ [g.tag % 65536 * 65536 + canReplaced * 8192] ∧ { t with cans := s.cans } = s)
  ∧ (∀ (s : State) (c : Fin 8) (a : CanAttempt),
    (s.canRuns c = false ∨ s.canNext c a.queue a.delay = none → exec (.canTxComplete c a) s = .next s)
    ∧ ∀ f, s.canRuns c = true → s.canNext c a.queue a.delay = some f → (s.can c).done.length < 64 →
      (f.late a.delay = true → ∃ t, exec (.canTxComplete c a) s = .next t ∧ (t.can c).frames = (s.can c).frames.erase f
        ∧ (t.can c).done = (s.can c).done ++ [f.tag % 65536 * 65536 + canRefused * 8192] ∧ { t with cans := s.cans } = s)
      ∧ (f.late a.delay = false → a.ok = true → ∃ t, exec (.canTxComplete c a) s = .next t
        ∧ (t.can c).frames = (s.can c).frames.erase f ∧ t.out = .canFrame c f.idWord f.data :: s.out
        ∧ (t.can c).lastNs = s.upNs ∧ t.rd CAN_STATUS.TEC c = s.rd CAN_STATUS.TEC c - 1
        ∧ t.rd CAN_STATUS.STATE c = (if 128 < s.rd CAN_STATUS.TEC c ∨ 127 < s.rd CAN_STATUS.REC c then 1 else 0)
        ∧ (t.can c).done = (s.can c).done ++ [f.tag % 65536 * 65536 + if f.aborted then canAborted * 8192 + canHost * 1024
            else (s.canJudge c f.queue a.delay).1 * 8192 + min (s.canJudge c f.queue a.delay).2 0x3FF]
        ∧ OnlyFields [(CAN_STATUS.TEC, c), (CAN_STATUS.STATE, c)] s t
        ∧ { t with regs := s.regs, cans := s.cans, out := s.out } = s)
      ∧ (f.late a.delay = false → a.ok = false → s.rd CAN_STATUS.TEC c + 8 ≤ 255 → ∃ t, exec (.canTxComplete c a) s = .next t
        ∧ t.rd CAN_STATUS.TEC c = s.rd CAN_STATUS.TEC c + 8
        ∧ t.rd CAN_STATUS.STATE c = (if 119 < s.rd CAN_STATUS.TEC c ∨ 127 < s.rd CAN_STATUS.REC c then 1 else 0)
        ∧ (f.aborted = false → t.cans = s.cans)
        ∧ (f.aborted = true → (t.can c).frames = (s.can c).frames.erase f
          ∧ (t.can c).done = (s.can c).done ++ [f.tag % 65536 * 65536 + canAborted * 8192 + canHost * 1024])
        ∧ OnlyFields [(CAN_STATUS.TEC, c), (CAN_STATUS.STATE, c)] s t ∧ { t with regs := s.regs, cans := s.cans } = s)
      ∧ (f.late a.delay = false → a.ok = false → 255 < s.rd CAN_STATUS.TEC c + 8 → ∃ t, exec (.canTxComplete c a) s = .next t
        ∧ t.rd CAN_STATUS.STATE c = 2 ∧ (t.can c).frames = []
        ∧ t.rd CAN_STATUS.N_BUSOFF c = min (s.rd CAN_STATUS.N_BUSOFF c + 1) 255
        ∧ { t with regs := s.regs, cans := s.cans, free := s.free } = s))
  ∧ (∀ (s : State) (c : Fin 8) (tag : BitVec 16) (delay : Nat),
    ((∀ f ∈ (s.can c).frames, f.tag ≠ tag.toNat) → ∀ stage : Fin 3, ∃ t, exec (.canTxAbort c tag stage delay) s = .next t
      ∧ (t.can c).done = markDone tag.toNat (s.can c).done ∧ (t.can c).frames = (s.can c).frames ∧ { t with cans := s.cans } = s)
    ∧ ∀ f : CanFrame, (s.can c).frames.find? (fun f => decide (f.tag = tag.toNat)) = some f → (s.can c).done.length < 64 →
      (∀ stage : Fin 3, stage = 0 ∨ s.canOnBus c f = false → ∃ t, exec (.canTxAbort c tag stage delay) s = .next t
        ∧ (t.can c).frames = (s.can c).frames.erase f
        ∧ (t.can c).done = (s.can c).done ++ [f.tag % 65536 * 65536 + canAborted * 8192 + canHost * 1024]
        ∧ { t with cans := s.cans } = s)
      ∧ (s.canOnBus c f = true → ∃ t, exec (.canTxAbort c tag 1 delay) s = .next t
        ∧ (t.can c).frames = (s.can c).frames.map (fun h => if h = f then { h with aborted := true } else h)
        ∧ (t.can c).done = (s.can c).done ∧ { t with cans := s.cans } = s)
      ∧ (s.canOnBus c f = true → ∃ t, exec (.canTxAbort c tag 2 delay) s = .next t ∧ (t.can c).frames = (s.can c).frames.erase f
        ∧ t.out = .canFrame c f.idWord f.data :: s.out ∧ t.rd CAN_STATUS.TEC c = s.rd CAN_STATUS.TEC c - 1
        ∧ (t.can c).done = (s.can c).done ++ [f.tag % 65536 * 65536 + (s.canJudge c f.queue delay).1 * 8192 + 4096
            + min (s.canJudge c f.queue delay).2 0x3FF]
        ∧ OnlyFields [(CAN_STATUS.TEC, c), (CAN_STATUS.STATE, c)] s t
        ∧ { t with regs := s.regs, cans := s.cans, out := s.out } = s))
  ∧ (∀ (s : State) (c : Fin 8) (started : Bool), (s.can c).done.length + (s.bulkLate c started).length ≤ 64 →
    ∃ t, exec (.bulkDeadline ⟨c, started⟩) s = .next t
      ∧ (t.can c).frames = (s.bulkLate c started).foldl List.erase (s.can c).frames
      ∧ (t.can c).done = (s.can c).done ++ (s.bulkLate c started).map (fun f => f.tag % 65536 * 65536 + canRefused * 8192)
      ∧ { t with cans := s.cans } = s)
  ∧ ∀ (s : State) (c : Fin 8),
    (s.canRuns c = true → ∃ t, exec (.busOff c) s = .next t ∧ t.rd CAN_STATUS.STATE c = 2 ∧ (t.can c).frames = []
      ∧ t.rd CAN_STATUS.N_BUSOFF c = min (s.rd CAN_STATUS.N_BUSOFF c + 1) 255
      ∧ (t.can c).done.length = max (s.can c).done.length (min 64 ((s.can c).done.length + (s.can c).frames.length))
      ∧ OnlyFields [(CAN_STATUS.STATE, c), (CAN_STATUS.N_BUSOFF, c), (CAN_STATUS.TEC, c), (CAN_TX_FIFO_STAT.OVERFLOW, c)] s t
      ∧ { t with regs := s.regs, cans := s.cans, free := s.free } = s)
    ∧ (s.rd CAN_STATUS.STATE c = 2 → ∃ t, exec (.busOffRecovery c) s = .next t ∧ t.rd CAN_STATUS.STATE c = 0
      ∧ t.rd CAN_STATUS.TEC c = 0 ∧ t.rd CAN_STATUS.REC c = 0
      ∧ OnlyFields [(CAN_STATUS.STATE, c), (CAN_STATUS.TEC, c), (CAN_STATUS.REC, c)] s t ∧ OnlyRegisters s t)

/-! ### Clocks -/

/-- R65, R192, R361 to R365: the gate of MDLL-A closes with every output gate, Chafer, the heartbeat monitor and Leaven; the gate
of MDLL-B with its cause; the period guard closes either. A qualified MDLL opens its gate again. A strobe is refused, answered
at once or carried out; a drain within its 2 ms switches the source, and 2 ms without one fail it. -/
def Obligations.MdllGatesCloseAndOpen : Prop :=
  (∀ (s : State), s.mdllA = true → s.gateCounts = true → ∃ t, exec (.mdllLockLoss false) s = .next t
    ∧ t.mdllA = false ∧ t.rd CLK_MA_STATUS.N_GATE = min (s.rd CLK_MA_STATUS.N_GATE + 1) 65535 ∧ t.flag LKS_HB.ARMED = false
    ∧ t.chafer.running = false ∧ t.gfe = gfeOff ∧ t.rd HFE_GLB_STATUS.RATE = rateLow
    ∧ (∀ o, t.soh o = false ∧ t.sol o = false) ∧ t.mdllB = s.mdllB ∧ t.mode = s.mode ∧ t.mem = s.mem)
  ∧ (∀ s : State, s.mdllA = true → s.gateCounts = false → ∃ t, exec (.mdllLockLoss false) s = .next t ∧ t.mdllA = false
      ∧ OnlyFields [(CLK_STATUS.MA_QUAL, 0)] s t ∧ { t with regs := s.regs, rings := s.rings } = s
      ∧ ∀ r, (t.ring r).queue = (s.ring r).queue.map (fun d => { d with waited := true }))
  ∧ (∀ s : State, s.mdllB = true → s.gateCounts = true → s.lastStands 0x21 = false → ∃ t, exec (.mdllLockLoss true) s = .next t
    ∧ t.mdllB = false ∧ t.mdllA = s.mdllA ∧ CauseRecorded ⟨0x21, 1, 0xFF⟩ s t ∧ t.mode = s.mode ∧ t.mem = s.mem)
  ∧ (∀ s : State, (s.mdllA = false → exec (.mdllLockLoss false) s = .next s) ∧ (s.mdllB = false → exec (.mdllLockLoss true) s = .next s))
  ∧ (∀ (s : State) (b : Bool), (if b then s.mdllB else s.mdllA) = true → ∃ t, exec (.periodGuard b) s = .next t
    ∧ t.flag (if b then CLK_MON.GUARD_B else CLK_MON.GUARD_A) = true ∧ (if b then t.mdllB else t.mdllA) = false
    ∧ bit (t.rd SYS_IRQ_PEND.VEC) 11 = true ∧ t.mode = s.mode ∧ t.mem = s.mem)
  ∧ (∀ s : State, s.clk.gatedA = true → s.clk.lossRaised = false → s.gateCounts = true → s.lastStands 7 = false →
    ∃ t, exec .clkALoss s = .next t ∧ CauseRecorded ⟨7, 1, 0xFF⟩ s t ∧ t.clk.lossRaised = true ∧ t.mode = s.mode ∧ t.mem = s.mem)
  ∧ (∀ (s : State) (us : Nat), s.flag CLK_STATUS.REF_OK = true → s.mode ≠ .dormant ∨ s.modes.waking = true →
    (s.mdllB = false → ∃ t, exec (.mdllQualified true us) s = .next t ∧ t.mdllB = true ∧ t.mdllA = s.mdllA
      ∧ (s.clk.relock = true → t.rd CLK_MB_RESULT.STATUS = 1 ∧ t.flag CLK_MB_RESULT.VALID = true ∧ t.clk.strobe = false)
      ∧ OnlyFields [(CLK_STATUS.MB_QUAL, 0), (CLK_MB_RESULT.STATUS, 0), (CLK_MB_RESULT.GEN, 0), (CLK_MB_RESULT.VALID, 0),
          (CLK_MB_TAG.TAG, 0)] s t ∧ { t with regs := s.regs, clk := s.clk, recorder := s.recorder } = s
      ∧ (s.recording = false → t.recorder = s.recorder))
    ∧ (s.mdllA = false → ∃ t, exec (.mdllQualified false us) s = .next t ∧ t.mdllA = true ∧ t.mdllB = s.mdllB
      ∧ (s.clk.gatedA = true → t.clk.gatedA = false ∧ t.rd CLK_MA_STATUS.LAST_US = min us 65535
        ∧ (s.joined = true → t.flag LKS_HB.ARMED = true) ∧ (s.fullRateMode = true → t.chafer.running = true))
      ∧ t.mode = s.mode ∧ t.mem = s.mem))
  ∧ (∀ (s : State) (tag : BitVec 16), ∃ t, exec (.strobe tag) s = .next t
    ∧ OnlyFields [(CLK_MB_RESULT.STATUS, 0), (CLK_MB_RESULT.GEN, 0), (CLK_MB_RESULT.VALID, 0), (CLK_MB_TAG.TAG, 0)] s t
    ∧ { t with regs := s.regs, clk := s.clk } = s
    ∧ (s.clk.strobe = true → t.rd CLK_MB_RESULT.STATUS = 4 ∧ t.rd CLK_MB_TAG.TAG = tag.toNat ∧ t.clk = s.clk)
    ∧ (s.clk.strobe = false → s.mode = .proof ∨ s.mode = .dormant → t.rd CLK_MB_RESULT.STATUS = 3
        ∧ t.flag CLK_MB_RESULT.VALID = true ∧ t.rd CLK_MB_TAG.TAG = tag.toNat ∧ t.clk = s.clk)
    ∧ (s.clk.strobe = false → s.mode ≠ .proof → s.mode ≠ .dormant → s.rd CLK_MB_SHADOW.SEL = s.rd CLK_MB_ACTIVE.SEL →
        t.rd CLK_MB_RESULT.STATUS = 1 ∧ t.flag CLK_MB_RESULT.VALID = true ∧ t.rd CLK_MB_TAG.TAG = tag.toNat ∧ t.clk = s.clk)
    ∧ (s.clk.strobe = false → s.mode ≠ .proof → s.mode ≠ .dormant → s.rd CLK_MB_SHADOW.SEL ≠ s.rd CLK_MB_ACTIVE.SEL →
        t.flag CLK_MB_RESULT.VALID = false ∧ t.clk.strobe = true ∧ t.clk.strobeTag = tag.toNat ∧ t.clk.strobeTick = s.ticks))
  ∧ ∀ s : State, s.clk.strobe = true → s.clk.relock = false →
    (s.ticks - s.clk.strobeTick ≤ 100 → ∃ t, exec (.strobeDrainEnd true) s = .next t
      ∧ t.rd CLK_MB_ACTIVE.SEL = s.rd CLK_MB_SHADOW.SEL % 2 ∧ t.mdllB = false
      ∧ t.clk.relock = true ∧ t.mode = s.mode ∧ t.mem = s.mem)
    ∧ (s.strobeOver = false → exec (.strobeDrainEnd false) s = .next s)
    ∧ (s.strobeOver = true → ∃ t, exec (.strobeDrainEnd false) s = .next t ∧ t.rd CLK_MB_RESULT.STATUS = 8 ∧ t.flag CLK_MB_RESULT.VALID = true
      ∧ t.rd CLK_MB_TAG.TAG = s.clk.strobeTag % 65536 ∧ t.clk.strobe = false ∧ t.mdllB = s.mdllB
      ∧ OnlyFields [(CLK_MB_RESULT.STATUS, 0), (CLK_MB_RESULT.GEN, 0), (CLK_MB_RESULT.VALID, 0), (CLK_MB_TAG.TAG, 0)] s t
      ∧ { t with regs := s.regs, clk := s.clk } = s)

/-- R358, R365, R367, R369: a lost reference disqualifies the synthesizer and both MDLLs and takes the guard out of LOCKED with
cause CLOCK, as the synthesizer's own unlock does; a lost crystal or RC oscillator is flagged and recorded. Each returns when
requalified: the dither's register starts at its seed, and FF_CLK runs from a crystal that has not failed at once, from one that has
from the next cycle boundary. A write of the frequency is clipped to ±1,000 ppm and flagged beyond what is applied. -/
def Obligations.ClockLossesShow : Prop :=
  (∀ s : State, s.flag CLK_STATUS.REF_OK = true → ∃ t, exec .refLoss s = .next t
    ∧ t.flag CLK_STATUS.REF_OK = false ∧ t.flag CLK_STATUS.TS_QUAL = false ∧ t.mdllA = false ∧ t.mdllB = false
    ∧ t.flag CLK_MON.REF_LOSS = true ∧ bit (t.rd SYS_IRQ_PEND.VEC) 11 = true ∧ t.rd ETH_SRV_STATUS.CAUSE = gcClock
    ∧ t.guard = (if s.guard = guardLocked then guardHoldover else s.guard) ∧ t.mode = s.mode ∧ t.mem = s.mem)
  ∧ (∀ s : State, s.flag CLK_STATUS.TS_QUAL = true → ∃ t, exec .tsUnlock s = .next t ∧ t.flag CLK_STATUS.TS_QUAL = false
    ∧ t.flag CLK_MON.TS_UNLOCK = true ∧ t.rd CLK_TS_STATUS.N_UNLOCK = min (s.rd CLK_TS_STATUS.N_UNLOCK + 1) (2 ^ CLK_TS_STATUS.N_UNLOCK.width - 1)
    ∧ bit (t.rd SYS_IRQ_PEND.VEC) 11 = true ∧ t.rd ETH_SRV_STATUS.CAUSE = gcClock
    ∧ t.guard = (if s.guard = guardLocked then guardHoldover else s.guard) ∧ t.mode = s.mode ∧ t.mem = s.mem)
  ∧ (∀ s : State, (s.flag CLK_STATUS.REF_OK = true → exec .referenceRequalified s = .next s)
    ∧ (s.phase = .done → s.flag CLK_STATUS.REF_OK = false → ∃ t, exec .referenceRequalified s = .next t
      ∧ t.flag CLK_STATUS.REF_OK = true ∧ t.clk = { s.clk with tsLfsr := t.clk.tsLfsr }
      ∧ 1 ≤ t.clk.tsLfsr ∧ t.clk.tsLfsr < 65536 ∧ (s.rd CLK_TS_CFG.DSEED ≠ 0 → t.clk.tsLfsr = s.rd CLK_TS_CFG.DSEED)
      ∧ OnlyFields [(CLK_STATUS.REF_OK, 0)] s t ∧ { t with regs := s.regs, clk := s.clk, free := s.free } = s)
    ∧ (s.flag CLK_STATUS.REF_OK = true → exec .tsQualified s = .next (s.wrFlag CLK_STATUS.TS_QUAL true))
    ∧ ∃ t, exec .crystalReturn s = .next t ∧ t.clk.fxRuns = true
      ∧ t.flag CLK_STATUS.FF_XTAL = (s.flag CLK_STATUS.FF_XTAL || !s.clk.fxFailed) ∧ t.clk.fxReturn = !t.flag CLK_STATUS.FF_XTAL
      ∧ OnlyFields [(CLK_STATUS.FF_XTAL, 0)] s t ∧ { t with regs := s.regs, clk := s.clk } = s)
  ∧ (∀ s : State, s.lastStands 0x20 = false →
    (s.flag CLK_STATUS.FF_XTAL = true ∨ s.clk.fxRuns = true → ∃ t, exec .fxStop s = .next t ∧ t.flag CLK_STATUS.FF_XTAL = false
      ∧ t.flag CLK_MON.FX_STOP = true ∧ t.clk.fxRuns = false ∧ CauseRecorded ⟨0x20, 1, 0xFF⟩ s t ∧ t.mode = s.mode ∧ t.mem = s.mem)
    ∧ ∃ t, exec .rcStop s = .next t ∧ t.clk.rcStopped = true ∧ t.flag CLK_MON.RC_STOP = true
      ∧ bit (t.rd SYS_IRQ_PEND.VEC) 11 = true ∧ CauseRecorded ⟨0x20, 1, 0xFF⟩ s t ∧ t.mode = s.mode ∧ t.mem = s.mem)
  ∧ ∀ (s : State) (v : Word), ∃ t, exec (.tsFreqWrite v) s = .next t
    ∧ t.rdS CLK_TS_FREQ.OFFSET = clampInt (-1099511627) 1099511627 v.toInt
    ∧ t.flag CLK_TS_STATUS.CLIP = (s.flag CLK_TS_STATUS.CLIP || decide (1099511627 < v.toInt.natAbs))
    ∧ t.flag ETH_SRV_STATUS.RATE_CLAMP = (s.flag ETH_SRV_STATUS.RATE_CLAMP || decide (549755813 < v.toInt.natAbs))
    ∧ OnlyFields [(CLK_TS_FREQ.OFFSET, 0), (CLK_TS_STATUS.CLIP, 0), (ETH_SRV_STATUS.RATE_CLAMP, 0)] s t
    ∧ { t with regs := s.regs, eth := s.eth } = s ∧ t.eth.written = true

/-! ### Network time and egress -/

/-- R7, R374, R376 to R379, R382: a frame comes in only on a used port while Ethernet works; a well-formed Sync of the parent in
the domain is kept with its arrival time less the ingress latency, a malformed one is not; a frame is copied, behind its 16-byte header, only into the buffer its port's
ring offers. A marked frame's departure joins the port's queue of 8, under the TAG of its descriptor, or is counted as dropped; a read
of the queue pops the oldest. Where in a tick a frame passes the pins is taken from the row, and the row's TAG stands where no
descriptor of the model's is on its way (the model's choices, logs 56 and 90). -/
def Obligations.FramesAreStamped : Prop :=
  (∀ (s : State) (p : Fin 3) (pin : Nat) (f : List Byte), s.flag ETH_P_CFG.USED p = false ∨ s.ethOn = false →
    exec (.ptpFrameReceived p pin f) s = .next s)
  ∧ (∀ (s : State) (p : Fin 3) (pin : Nat) (f : List Byte), s.flag ETH_P_CFG.USED p = true → s.ethOn = true →
    ∃ t, exec (.ptpFrameReceived p pin f) s = .next t ∧ t.mode = s.mode
      ∧ (s.rxRing p = none → t.mem = s.mem ∧ t.rings = s.rings)
      ∧ (∀ q d, s.rxRing p = some q → OffersBuffer q d s → OnlyDelivered q d (16 + f.length) s t)
      ∧ (∀ j, j ≠ p.val → t.port j = s.port j)
      ∧ (s.ptpMessage (byteNats f) = none → t.eth = s.eth ∧ t.port p = { s.port p with lastPin := s.pinTime p pin })
      ∧ ∀ m, s.ptpMessage (byteNats f) = some m → s.engineOn p = true → ptpDomain m = s.rd ETH_PTP_CFG.DOMAIN →
          ptpType m = 0 → ptpSource m = s.parentId →
          t.eth.sync = if ptpMalformed m then s.eth.sync else some ⟨s.pinTime p pin - s.rd ETH_P_LAT.LAT_IN p, ptpSeq m,
            ptpCorrection m, s.rdS ETH_P_ASYM.ASYM p, if ptpTwoStep m then none else some (ptpTime m, 0)⟩)
  ∧ (∀ (s : State) (p : Fin 3) (ty : BitVec 4) (seq : BitVec 16) (tag : Byte) (pin : Nat),
    s.flag ETH_P_CFG.USED p = false ∨ s.ethOn = false → exec (.txTimestamp p ty seq tag pin) s = .next s)
  ∧ (∀ (s : State) (p : Fin 3) (ty : BitVec 4) (seq : BitVec 16) (tag : Byte) (pin : Nat),
    s.flag ETH_P_CFG.USED p = true → s.ethOn = true → ∃ t, exec (.txTimestamp p ty seq tag pin) s = .next t
      ∧ ((s.port p).stamps.length < 8 → t.regs = s.regs ∧ (t.port p).stamps = (s.port p).stamps
          ++ [⟨ty.toNat * 2 ^ 24 + seq.toNat * 256 + (s.markTag p ty.toNat seq.toNat tag.toNat) % 256,
            s.pinTime p pin + s.rd ETH_P_LAT.LAT_OUT p⟩])
      ∧ ((∀ m ∈ (s.port p).marks, m.ty ≠ ty.toNat ∨ m.seq ≠ seq.toNat) → s.markTag p ty.toNat seq.toNat tag.toNat = tag.toNat)
      ∧ (8 ≤ (s.port p).stamps.length → (t.port p).stamps = (s.port p).stamps ∧ t.flag ETH_P_TXTS_STAT.OVF p = true
          ∧ t.rd ETH_P_TXTS_STAT.DROP p = min (s.rd ETH_P_TXTS_STAT.DROP p + 1) (2 ^ ETH_P_TXTS_STAT.DROP.width - 1))
      ∧ (ty = 1 → s.rd ETH_SRV_CTRL.SLAVE_PORT = p →
          t.eth.delayReqs = (seq.toNat, s.pinTime p pin + s.rd ETH_P_LAT.LAT_OUT p) :: s.eth.delayReqs)
      ∧ (ty ≠ 1 → t.eth = s.eth) ∧ (∀ j, j ≠ p.val → t.port j = s.port j)
      ∧ OnlyFields [(ETH_P_TXTS_STAT.OVF, p), (ETH_P_TXTS_STAT.DROP, p)] s t
      ∧ { t with regs := s.regs, ports := s.ports, eth := s.eth } = s)
  ∧ ∀ (s : State) (p : Fin 3), s.mdllB = true → ∃ t, exec (.txtsPop p) s = .next t
    ∧ t.out = .readData (s.word (ETH_P_TXTS0.reg.addr p)) :: s.out ∧ t.mode = s.mode ∧ t.mem = s.mem
    ∧ (∀ e es, (s.port p).stamps = e :: es → (t.port p).stamps = es ∧ t.rd ETH_P_TXTS1.NS p = e.timeNs % 1000000000
        ∧ t.rd ETH_P_TXTS2.SEC_LO p = e.timeNs / 1000000000 % 2 ^ 32)
    ∧ ((s.port p).stamps = [] → t.ports = s.ports ∧ OnlyFields [(ETH_P_TXTS_STAT.UNDERFLOW, p)] s t
        ∧ t.rd ETH_P_TXTS_STAT.UNDERFLOW p = min (s.rd ETH_P_TXTS_STAT.UNDERFLOW p + 1) (2 ^ ETH_P_TXTS_STAT.UNDERFLOW.width - 1))

/-- R382 to R387: outside an arming a measurement within T_J and the widening is published as accepted, one beyond it as refused,
which takes the guard out of LOCKED; neither moves the time base. LOCKED ends after SYNC_TO without a measurement and with a change of
parent, which also discards the exchanges under way; in HOLDOVER and UNSYNC a master lost replaces the cause shown, once for each
loss (the model's reading, log 55). STEP_ARM arms an acquisition, unless mode or enable forbids it; its 600 s
end it. -/
def Obligations.TimeGuardJudges : Prop :=
  (∀ (s : State) (w : SyncWait) (t1 : Nat) (cf d2 off : Int), s.eth.sync = some w → w.t1 = some (t1, cf) →
    s.delay2 w t1 (w.corr + cf) = some d2 → s.flag ETH_SRV_STATUS.ARMED = false →
    s.engineOn (s.rd ETH_SRV_CTRL.SLAVE_PORT) = true →
    off = roundQ (2 * (((w.t2 : Int) - t1 - w.asym) * 65536 - (w.corr + cf)) - d2) 131072 →
    ∃ t, exec .syncMeasurement s = .next t ∧ t.eth.sync = none ∧ t.flag ETH_SRV_OFFSET2.VALID = true
      ∧ t.flag ETH_SRV_OFFSET2.REFUSED = decide (s.jumpLimit < off.natAbs)
      ∧ t.rd ETH_SRV_OFFSET0.OFFSET = ofSigned 64 off % 2 ^ 32 ∧ t.rd ETH_SRV_OFFSET1.OFFSET = ofSigned 64 off / 2 ^ 32
      ∧ t.rd ETH_SRV_OFFSET2.GEN = (s.rd ETH_SRV_OFFSET2.GEN + 1) % 2 ^ ETH_SRV_OFFSET2.GEN.width
      ∧ (s.jumpLimit < off.natAbs → t.rd ETH_SRV_STATUS.CAUSE = gcJumpRefused
          ∧ t.guard = (if s.guard = guardLocked then guardHoldover else s.guard)
          ∧ t.rd ETH_SRV_CNT.N_REFUSED = min (s.rd ETH_SRV_CNT.N_REFUSED + 1) (2 ^ ETH_SRV_CNT.N_REFUSED.width - 1))
      ∧ (off.natAbs ≤ s.jumpLimit → s.guard = guardLocked → t.guard = guardLocked)
      ∧ t.timeNs = s.timeNs ∧ t.mode = s.mode ∧ t.mem = s.mem)
  ∧ (∀ s : State, s.eth.sync = none ∨ s.engineOn (s.rd ETH_SRV_CTRL.SLAVE_PORT) = false → exec .syncMeasurement s = .next s)
  ∧ (∀ s : State, (s.syncOver = false → exec .masterLost s = .next s)
    ∧ (s.syncOver = true → ∃ t, exec .masterLost s = .next t ∧ t.rd ETH_SRV_STATUS.CAUSE = gcMasterLost ∧ t.eth.lost = true
      ∧ t.guard = (if s.guard = guardLocked then guardHoldover else s.guard)
      ∧ (s.guard = guardLocked → t.eth.holdover = s.rdS CLK_TS_APPLIED.OFFSET ∧ bit (t.rd SYS_IRQ_PEND.VEC) 6 = true)
      ∧ (s.guard ≠ guardLocked → OnlyFields [(ETH_SRV_STATUS.CAUSE, 0)] s t ∧ t.eth = { s.eth with lost := true })
      ∧ OnlyFields [(ETH_SRV_STATUS.STATE, 0), (ETH_SRV_STATUS.GEN, 0), (ETH_SRV_STATUS.CAUSE, 0), (SYS_IRQ_PEND.VEC, 0)] s t
      ∧ { t with regs := s.regs, eth := s.eth, out := s.out } = s))
  ∧ (∀ (s : State) (k : Fin 4) (v : Word), ∃ t, exec (.parentWrite k v) s = .next t
    ∧ (k = 0 → t.rd ETH_SRV_CTRL.SLAVE_PORT = v.toNat % 4 ∧ t.flag ETH_SRV_CTRL.ENABLE = bit v.toNat 2)
    ∧ (k = 1 → t.rd ETH_SRV_PARENT0.ID = v.toNat) ∧ (k = 2 → t.rd ETH_SRV_PARENT1.ID = v.toNat)
    ∧ (k = 3 → t.rd ETH_SRV_PARENT2.PORT = v.toNat % 65536)
    ∧ ((t.rd ETH_SRV_CTRL.SLAVE_PORT, t.parentId) ≠ (s.rd ETH_SRV_CTRL.SLAVE_PORT, s.parentId) →
        t.rd ETH_SRV_STATUS.CAUSE = gcMasterChange ∧ t.eth.sync = none ∧ t.eth.delayReqs = [] ∧ t.eth.endToEnd = none
          ∧ t.guard = (if s.guard = guardLocked then guardHoldover else s.guard))
    ∧ ((t.rd ETH_SRV_CTRL.SLAVE_PORT, t.parentId) = (s.rd ETH_SRV_CTRL.SLAVE_PORT, s.parentId) → t.eth = s.eth ∧ t.guard = s.guard)
    ∧ t.timeNs = s.timeNs ∧ t.mode = s.mode ∧ t.mem = s.mem)
  ∧ (∀ (s : State) (ch : Chan) (tag : Byte), ChannelReady ch.val s → ∃ t, exec (.stepArm ch tag) s = .next t
    ∧ (t.channel ch.val).request = none ∧ t.flag (statValid ch.val) = true
    ∧ (t.channel ch.val).response.take 3 = [5, tag.toNat, (s.stepArmRefused).getD 1]
    ∧ (s.stepArmRefused = none → t.flag ETH_SRV_STATUS.ARMED = true ∧ t.eth = { s.eth with armTick := some s.ticks, acq := [] })
    ∧ (s.stepArmRefused ≠ none → t.flag ETH_SRV_STATUS.ARMED = s.flag ETH_SRV_STATUS.ARMED ∧ t.eth = s.eth)
    ∧ t.mode = s.mode ∧ t.mem = s.mem)
  ∧ ∀ s : State, (s.armOver = false → exec .armExpiry s = .next s)
    ∧ (s.armOver = true → ∃ t, exec .armExpiry s = .next t ∧ t.flag ETH_SRV_STATUS.ARMED = false
      ∧ t.eth = { s.eth with armTick := none, acq := [] } ∧ OnlyFields [(ETH_SRV_STATUS.ARMED, 0)] s t
      ∧ { t with regs := s.regs, eth := s.eth } = s)

/-- R375, R378, R381, R410, R413, R427: the frame at the head of an egress ring leaves its port, judged when it starts against its queue's
limit and against class T's bound from its eligibility on, and completes; one whose descriptor asks for a stamp is marked; a
queue-3 frame that has not started by its deadline completes REFUSED. A link that goes down marks every waiting descriptor of its
port's rings to end with reason LINK, and touches no other ring. Memory changes in completion entries only. That EGRESS goes before
BOUND where a frame is late by both is the model's choice (log 96). -/
def Obligations.EgressFramesComplete : Prop :=
  (∀ (s : State) (r : Fin 32) (delay p : Nat) (d e : Desc) (f : List Nat), AtHead r d s → s.egressPort r = some p → s.ethOn = true →
    s.egressBehind r p d = false → s.overdue r d = false → srcSpace d.ctrl = 0 → dstSpace d.ctrl = 2 → s.ringTranslates r = false →
    e = s.egressBegin r delay d → f = s.asymFrame p ((s.ring r).held ++ s.memBytes d.src d.len) →
    (d.started = false → e.delay = delay - 20 * ((s.ring r).doneTick - d.postedTick)
      ∧ e.late = (if (match egressLimit (d.ctrl / 64 % 4) with | some l => decide (l < delay) | none => false) then some reasonEgress
          else if 50 < e.delay then some reasonBound else none))
    ∧ (d.started = true → e = d)
    ∧ ∃ t, exec (.egressComplete r delay) s = .next t
      ∧ Out.ethFrame p f ∈ t.out
      ∧ t.rd ETH_P_EGRESS.LATE p = (if e.late = some reasonEgress then min (s.rd ETH_P_EGRESS.LATE p + 1) 65535
          else s.rd ETH_P_EGRESS.LATE p)
      ∧ (bit d.ctrl 5 = false → (t.port p).marks = (s.port p).marks)
      ∧ (bit d.ctrl 5 = true → ∀ m, s.ptpMessage f = some m →
          (t.port p).marks = (s.port p).marks ++ [⟨ptpType m, ptpSeq m, d.tag % 256⟩])
      ∧ CompletedAs r d (completionBytes { e with done := d.len } (b2n e.late.isSome) (e.late.getD 0)
          (s.flag DMA_RING_STATE.PHASE r)) s t)
  ∧ (∀ (s : State) (r : Fin 32) (p : Nat) (d : Desc), s.ringState r = ringRun → s.egressPort r = some p →
    (s.ring r).queue.head? = some d → d.ended = false →
    (s.overdue r d = false → exec (.egressDeadline r) s = .next s)
    ∧ (s.overdue r d = true → ∃ t, exec (.egressDeadline r) s = .next t
      ∧ t.rd ETH_P_EGRESS.REFUSED p = min (s.rd ETH_P_EGRESS.REFUSED p + 1) 65535
      ∧ (s.ringStands r = false →
        CompletedAs r d (completionBytes d refused reasonLoad (s.flag DMA_RING_STATE.PHASE r)) s t)
      ∧ (s.ringStands r = true → t.mem = s.mem
        ∧ (t.ring r).queue = { d with finished := some (refused, reasonLoad) } :: (s.ring r).queue.tail)))
  ∧ ∀ (s : State) (p : Fin 3), ∃ t, exec (.ethernetLinkDown p) s = .next t ∧ t.mode = s.mode
    ∧ (∀ r, r < 16 ∨ 24 ≤ r ∨ s.rd DMA_RING_CFG.PORT r ≠ (Config.ethPort p).toNat → t.ring r = s.ring r)
    ∧ (∀ r, 16 ≤ r → r < 24 → s.rd DMA_RING_CFG.PORT r = (Config.ethPort p).toNat →
        ∀ d ∈ (t.ring r).queue, d.portSide = true → d.started = false → d.abort = some reasonLink)
    ∧ ∀ a, (∀ r, 16 ≤ r → r < 24 → s.rd DMA_RING_CFG.PORT r = (Config.ethPort p).toNat →
        a < s.rd DMA_RING_CBASE.BASE r / 16 * 16 ∨ s.rd DMA_RING_CBASE.BASE r / 16 * 16 + 16 * s.ringSize r ≤ a) →
      t.mem.read a = s.mem.read a

/-! ### Rings and memory -/

/-- R407, R409, R416 to R419: a post is refused with OVERPOST, sets HEAD and queues the descriptors it finds in memory, or takes
posts back; START, STOP, RESUME, ABORT and FLUSH answer 1 and act in the states that allow them, else they answer 5 and do nothing else;
an ABORT of a descriptor that has committed its last beat says so, and a paused ring runs again after one. Descriptors that move no
byte complete as their turn comes. While the ring stands, MDLL-A gated or its arrays behind a gated MDLL-B, posts and completions wait.
Memory changes in the ring's completion array only. -/
def Obligations.RingCommandsAct : Prop :=
  (∀ (s : State) (r : Fin 32) (head : BitVec 16) (h lv n : Nat), h = head.toNat → lv = s.ringLevel r h →
    n = (h + s.ringWrap r - s.rd DMA_RING_HEAD.HEAD r) % s.ringWrap r →
    (s.ringWrap r ≤ h ∨ s.ringSize r < lv → exec (.ringPost r head) s = .next (s.wrFlag DMA_RING_STATE.OVERPOST true r))
    ∧ (h < s.ringWrap r → lv ≤ s.ringSize r → lv < s.ringLevel r (s.rd DMA_RING_HEAD.HEAD r) →
      ∃ t, exec (.ringPost r head) s = .next t ∧ t.rd DMA_RING_HEAD.HEAD r = h
        ∧ (t.ring r).queue = (s.ring r).queue.take (s.ringKeeps r h) ∧ OnlyFields [(DMA_RING_HEAD.HEAD, r)] s t
        ∧ (∀ q, q ≠ r.val → t.ring q = s.ring q) ∧ { t with regs := s.regs, rings := s.rings } = s)
    ∧ (h < s.ringWrap r → lv ≤ s.ringSize r → s.ringLevel r (s.rd DMA_RING_HEAD.HEAD r) ≤ lv →
      (s.ringStands r = true → ∃ t, exec (.ringPost r head) s = .next t ∧ t.rd DMA_RING_HEAD.HEAD r = h
        ∧ t.ring r = { s.ring r with unfetched := (s.ring r).unfetched ++ List.replicate n (s.ticks, false) }
        ∧ OnlyFields [(DMA_RING_HEAD.HEAD, r)] s t ∧ { t with regs := s.regs, rings := s.rings } = s)
      ∧ (s.ringStands r = false → (s.ring r).unfetched = [] → ∃ t, exec (.ringPost r head) s = .next t
        ∧ t.rd DMA_RING_HEAD.HEAD r = h ∧ OnlyCompletions r s t
        ∧ ∀ q, q = (s.ring r).queue ++ s.fetchDescs r (s.rd DMA_RING_HEAD.HEAD r) n →
            (t.ring r).queue = (if s.ringState r = ringRun then q.dropWhile (s.endsUnmoved r) else q))))
  ∧ (∀ (s : State) (r : Fin 32) (c : Instr), c ∈ [.ringStart r, .ringStop r, .ringResume r, .ringFlush r] →
    (match c with
      | .ringStart _ => s.ringState r ≠ ringIdle ∧ s.ringState r ≠ ringStopped
      | .ringStop _ => s.ringState r ≠ ringRun
      | .ringResume _ => s.ringState r ≠ ringPaused
      | _ => s.ringState r ≠ ringStopped ∧ s.ringState r ≠ ringPaused) →
    ∃ t, exec c s = .next t ∧ t.rd DMA_RING_STATE.CMD_RES r = 5 ∧ OnlyRegisters s t
      ∧ OnlyFields [(DMA_RING_STATE.CMD_RES, r), (DMA_RING_STATE.GEN, r)] s t)
  ∧ (∀ (s : State) (r : Fin 32),
    (s.ringState r = ringIdle → ∃ t, exec (.ringStart r) s = .next t ∧ t.ringState r = ringRun ∧ t.rd DMA_RING_HEAD.HEAD r = 0
      ∧ t.rd DMA_RING_TAIL.TAIL r = 0 ∧ t.flag DMA_RING_STATE.PHASE r = true ∧ t.rd DMA_RING_STATE.CMD_RES r = 1
      ∧ t.ring r = (s.ring r).anew ∧ OnlyCompletions r s t ∧ t.mem = s.mem)
    ∧ (s.ringState r = ringStopped → (s.ring r).stopping = false → ∃ t, exec (.ringStart r) s = .next t ∧ t.ringState r = ringRun
      ∧ t.rd DMA_RING_STATE.CMD_RES r = 1 ∧ OnlyCompletions r s t
      ∧ (t.ring r).queue = (if s.ringStands r then (s.ring r).queue else (s.ring r).queue.dropWhile (s.endsUnmoved r)))
    ∧ (s.ringState r = ringRun → ∃ t, exec (.ringStop r) s = .next t ∧ t.rd DMA_RING_STATE.CMD_RES r = 1
      ∧ t.ringState r = (if s.flag DMA_RING_STATE.BUSY r then ringRun else ringStopped)
      ∧ (s.flag DMA_RING_STATE.BUSY r = true → (t.ring r).stopping = true) ∧ (t.ring r).queue = (s.ring r).queue
      ∧ OnlyCompletions r s t ∧ t.mem = s.mem)
    ∧ (s.ringState r = ringPaused → ∃ t, exec (.ringResume r) s = .next t ∧ t.rd DMA_RING_STATE.CMD_RES r = 1
      ∧ (match (translate (s.rd DMA_RING_CFG.DOM r) (s.flag DMA_RING_FAULT1.WRITE r) (s.rd DMA_RING_FAULT0.IOVA r) s).2 with
          | .ok _ _ => t.ringState r = ringRun
          | .fault f => t.ringState r = ringPaused ∧ t.rd DMA_RING_FAULT1.TYPE r = f.code)
      ∧ (∀ d ds, (s.ring r).queue = d :: ds → (t.ring r).queue
          = { d with resumed := true, pauseTicks := d.pauseTicks + (s.ticks - (s.ring r).pausedTick) } :: ds)
      ∧ OnlyCompletions r s t ∧ t.mem = s.mem)
    ∧ (s.ringState r = ringStopped ∨ s.ringState r = ringPaused → ∃ t, exec (.ringFlush r) s = .next t
      ∧ t.rd DMA_RING_STATE.CMD_RES r = 1 ∧ t.ringState r = ringStopped ∧ OnlyCompletions r s t
      ∧ (s.ringStands r = false → (t.ring r).queue = [] ∧ (t.ring r).unfetched = [])
      ∧ (s.ringStands r = true → (t.ring r).flushing = true ∧ t.mem = s.mem ∧ ∀ d ∈ (t.ring r).queue, d.abort.isSome = true)))
  ∧ ∀ (s : State) (r : Fin 32) (seq : BitVec 16),
    (s.ringState r = ringIdle ∨ (s.ringHasDone r seq.toNat = false ∧ s.ringHas r seq.toNat = false) →
      ∃ t, exec (.ringAbort r seq) s = .next t ∧ t.rd DMA_RING_STATE.CMD_RES r = 5 ∧ OnlyRegisters s t
        ∧ OnlyFields [(DMA_RING_STATE.CMD_RES, r), (DMA_RING_STATE.GEN, r)] s t)
    ∧ (s.ringState r ≠ ringIdle → s.ringHasDone r seq.toNat = true → ∃ t, exec (.ringAbort r seq) s = .next t
      ∧ t.rd DMA_RING_STATE.CMD_RES r = 1 ∧ t.rd DMA_RING_STATE.ABORT_ACK r = 2 ∧ { t with regs := s.regs, rings := s.rings } = s
      ∧ t.ringState r = (if s.ringState r = ringPaused then ringRun else s.ringState r)
      ∧ ∀ d ∈ (t.ring r).queue, d.seq = seq.toNat → d.already = true)
    ∧ ∀ d ds, s.ringState r ≠ ringIdle → s.ringHasDone r seq.toNat = false → (s.ring r).queue = d :: ds →
      (d.seq = seq.toNat → d.started = true → s.ringStands r = false →
        (∀ e, ds.head? = some e → s.endsUnmoved r e = false) → ∃ t, exec (.ringAbort r seq) s = .next t
        ∧ t.rd DMA_RING_STATE.CMD_RES r = 1 ∧ t.rd DMA_RING_STATE.ABORT_ACK r = 1
        ∧ (s.ringState r ≠ ringPaused →
          CompletedAs r d (completionBytes d aborted reasonHost (s.flag DMA_RING_STATE.PHASE r)) s t)
        ∧ (s.ringState r = ringPaused → (t.ringState r = if (s.ring r).stopping then ringStopped else ringRun)
          ∧ CompletedAs r d (completionBytes { d with pauseTicks := d.pauseTicks + (s.ticks - (s.ring r).pausedTick) } aborted
              reasonFault (s.flag DMA_RING_STATE.PHASE r)) s t))
      ∧ (d.started = false → s.ringState r ≠ ringPaused → (∃ e ∈ d :: ds, e.seq = seq.toNat) →
        ∃ t, exec (.ringAbort r seq) s = .next t
        ∧ t.rd DMA_RING_STATE.CMD_RES r = 1 ∧ t.rd DMA_RING_STATE.ABORT_ACK r = 1 ∧ OnlyCompletions r s t
        ∧ ∀ q, q = (d :: ds).map (fun e => if e.seq = seq.toNat then { e with abort := some reasonHost } else e) →
            (t.ring r).queue = (if s.ringState r = ringRun ∧ s.ringStands r = false then q.dropWhile (s.endsUnmoved r) else q))
      ∧ (d.seq ≠ seq.toNat → s.ringState r = ringPaused → (s.ring r).stopping = false → (∃ e ∈ ds, e.seq = seq.toNat) →
        ∃ t, exec (.ringAbort r seq) s = .next t ∧ t.ringState r = ringRun
        ∧ t.rd DMA_RING_STATE.CMD_RES r = 1 ∧ t.rd DMA_RING_STATE.ABORT_ACK r = 1 ∧ OnlyCompletions r s t)

/-- R409 to R413, R415, R416: the live descriptor at the head of a running ring moves its bytes from a port into memory, from
memory to memory or out of a port, and completes; a ring of a higher class that has beats at the same memory is served
before it, one of its class beyond its budget waits, and one of a lower class waits and is pre-empted where it had begun; how the
grants of one row fall on its rivals is the model's reading (log 73); a page that does not translate pauses the ring
with the fault shown and memory as it was; a Class B descriptor that has not started by its deadline completes REFUSED with
LOAD. -/
def Obligations.DescriptorsMoveBytes : Prop :=
  (∀ (s : State) (r : Fin 32) (v : Service), (Instr.descriptorComplete r v).wf = true → s.ringState r ≠ ringRun →
    exec (.descriptorComplete r v) s = .next s)
  ∧ (∀ (s : State) (r : Fin 32) (v : Service) (d : Desc), (Instr.descriptorComplete r v).wf = true → v.ending = .all → AtHead r d s →
    s.ringTranslates r = false → ∃ t, exec (.descriptorComplete r v) s = .next t
      ∧ (t.ring r).queue = (s.ring r).queue.tail ∧ t.rd DMA_RING_TAIL.TAIL r = (d.seq + 1) % s.ringWrap r
      ∧ (∀ q, q ≠ r.val → t.ring q = s.ring q) ∧ t.mode = s.mode
      ∧ (srcSpace d.ctrl = 2 → dstSpace d.ctrl = 0 → OnlyDelivered r d v.data.length s t
          ∧ (s.mem.wf = true → completionAt r d s + 16 ≤ d.dst ∨ d.dst + d.len ≤ completionAt r d s →
            t.mem.readBytes d.dst (min d.len v.data.length) = v.data.take d.len))
      ∧ (srcSpace d.ctrl = 0 → dstSpace d.ctrl = 0 → OnlyDelivered r d d.len s t
          ∧ (s.mem.wf = true → d.dst ≤ d.src ∨ d.src + d.len ≤ d.dst →
            completionAt r d s + 16 ≤ d.dst ∨ d.dst + d.len ≤ completionAt r d s →
            t.mem.readBytes d.dst d.len = s.memBytes d.src d.len))
      ∧ (srcSpace d.ctrl = 0 → dstSpace d.ctrl = 2 → d.len ≠ 0 → Out.portData r (s.memBytes d.src d.len) ∈ t.out
          ∧ OnlyBytes (completionAt r d s) 16 s t))
  ∧ (∀ (s : State) (r q : Fin 32) (v : Service) (d e : Desc), (Instr.descriptorComplete r v).wf = true → HeadReady r d s →
    NoRivalBut [q.val] r d s → s.rival r d q = true → (s.ring q).queue = [e] → s.ringStands q = false → s.ringTranslates r = false →
    s.ringTranslates q = false →
    (ringClass q < ringClass r → ∃ t, exec (.descriptorComplete r v) s = .next t ∧ (t.ring q).queue = []
      ∧ t.rd DMA_RING_TAIL.TAIL q = (e.seq + 1) % s.ringWrap q ∧ (t.ring r).queue = (s.ring r).queue.tail
      ∧ t.rd DMA_RING_TAIL.TAIL r = (d.seq + 1) % s.ringWrap r)
    ∧ (ringClass q = ringClass r → s.overBudget q = true → s.overBudget r = false →
      ∃ t, exec (.descriptorComplete r v) s = .next t ∧ t.ring q = s.ring q ∧ (t.ring r).queue = (s.ring r).queue.tail)
    ∧ (ringClass r < ringClass q → ∃ t, exec (.descriptorComplete r v) s = .next t
      ∧ (t.ring q).queue = [{ e with preempted := e.preempted || e.started }] ∧ (t.ring r).queue = (s.ring r).queue.tail))
  ∧ (∀ (s : State) (r : Fin 32) (v : Service) (write : Bool) (d : Desc) (f : TransFault),
    (Instr.translationFault r 0 write v).wf = true → v.ending = .all → AtHead r d s → s.ringTranslates r = true → d.len ≠ 0 →
    (if write then srcSpace d.ctrl = 2 ∧ dstSpace d.ctrl = 0 ∧ v.data ≠ [] else srcSpace d.ctrl = 0) →
    (translate (s.rd DMA_RING_CFG.DOM r) write (if write then d.dst else d.src) s).2 = .fault f →
    ∃ t, exec (.translationFault r 0 write v) s = .next t ∧ t.ringState r = ringPaused ∧ t.rd DMA_RING_FAULT1.TYPE r = f.code
      ∧ t.rd DMA_RING_FAULT0.IOVA r = (if write then d.dst else d.src) % 2 ^ 32 ∧ t.flag DMA_RING_FAULT1.WRITE r = write
      ∧ t.rd DMA_RING_FAULT1.DONE r = 0 ∧ t.rd DMA_RING_TAIL.TAIL r = s.rd DMA_RING_TAIL.TAIL r
      ∧ (t.ring r).queue.map Desc.seq = (s.ring r).queue.map Desc.seq ∧ OnlyCompletions r s t ∧ t.mem = s.mem)
  ∧ (∀ (s : State) (r : Fin 32), s.ringState r ≠ ringRun ∨ s.ringStands r = true
      ∨ (∀ d, (s.ring r).queue.head? = some d → s.endsUnmoved r d = false) →
    exec (.classBDeadline r) s = .next s)
  ∧ ∀ (s : State) (r : Fin 32) (d : Desc) (ds : List Desc), s.ringState r = ringRun → s.ringStands r = false →
    (s.ring r).queue = d :: ds →
    (∃ t, exec (.classBDeadline r) s = .next t ∧ (t.ring r).queue = (d :: ds).dropWhile (s.endsUnmoved r) ∧ OnlyCompletions r s t)
    ∧ (ringClass r = 3 → d.ended = false → s.overdue r d = true → (∀ e, ds.head? = some e → s.endsUnmoved r e = false) →
      ∃ t, exec (.classBDeadline r) s = .next t
      ∧ t.rd DMA_CLASS_CNT1.REFUSED_B = min (s.rd DMA_CLASS_CNT1.REFUSED_B + 1) (2 ^ DMA_CLASS_CNT1.REFUSED_B.width - 1)
      ∧ CompletedAs r d (completionBytes d refused reasonLoad (s.flag DMA_RING_STATE.PHASE r)) s t)

/-- R397, R398, R400, R401, R406: an invalidation empties its scope of the TLB and is pending until the next tick, or until a read of a
register of its block finds it complete (the model's choice, log 95), and one that comes meanwhile is BUSY; the scrubbers and a core's read count what they
meet and log it where it is heavy or cannot be corrected, in the safety region with the Hold cause (that a read meets only what its row
reports, and that the Hold comes beside the requester's own effect, are the model's readings, log 44); a read of the log by an
application core pops its oldest entry. -/
def Obligations.MemoryErrorsAreLogged : Prop :=
  (∀ (s : State) (scope : BitVec 2) (dom : BitVec 4) (page : BitVec 20),
    (s.invPending = true → exec (.iommuInvalidate scope dom page) s = .next (s.wr DMA_IOMMU_INV_RESULT.STATUS 4))
    ∧ (s.invPending = false → ∃ t, exec (.iommuInvalidate scope dom page) s = .next t
    ∧ t.tlb = s.tlb.filter (fun e => if scope = 0 then false else if scope = 1 then decide (e.dom ≠ dom.toNat)
        else if scope = 2 then !e.hits dom.toNat (page.toNat * 4096) else true)
    ∧ t.flag DMA_IOMMU_INV_RESULT.VALID = false ∧ t.invPending = true
    ∧ OnlyFields [(DMA_IOMMU_INV_RESULT.VALID, 0)] s t ∧ { t with regs := s.regs, tlb := s.tlb, invPending := s.invPending } = s)
    ∧ (s.invPending = true → (invComplete s).rd DMA_IOMMU_INV_RESULT.STATUS = 1
      ∧ (invComplete s).flag DMA_IOMMU_INV_RESULT.VALID = true ∧ (invComplete s).invPending = false
      ∧ (invComplete s).rd DMA_IOMMU_INV_RESULT.GEN = (s.rd DMA_IOMMU_INV_RESULT.GEN + 1) % 65536
      ∧ ∀ som sov, s.phase ≠ .held → ∃ t, exec (.tick som sov) s = .next t ∧ t.invPending = false))
  ∧ (∀ s : State, s.mdllA = true ∨ s.mdllB = true → ∃ t, exec .errLogPop s = .next t
    ∧ t.out = .readData (s.word DMA_ERR_LOG0.reg.base) :: s.out ∧ t.mode = s.mode ∧ t.mem = s.mem
    ∧ (∀ e es, s.errLog = e :: es → t.errLog = es ∧ t.rd DMA_ERR_LOG1.ADDR = e.addr % 2 ^ 32)
    ∧ (s.errLog = [] → t.errLog = [] ∧ (s.invPending = false → OnlyFields [(DMA_ERR_LOG_STAT.UNDERFLOW, 0)] s t)
        ∧ t.rd DMA_ERR_LOG_STAT.UNDERFLOW = min (s.rd DMA_ERR_LOG_STAT.UNDERFLOW + 1) 255))
  ∧ (∀ (s : State) (es : List ScrubError), (Instr.dramScrub es).wf = true → s.mdllB = true → s.mode ≠ .proof → s.mode ≠ .dormant →
    ∃ t, exec (.dramScrub es) s = .next t ∧ t.rd DMA_MEM_CFG.PASSES = (s.rd DMA_MEM_CFG.PASSES + 1) % 32768
      ∧ t.mode = s.mode ∧ t.mem = s.mem
      ∧ (es = [] → t.errLog = s.errLog ∧ OnlyFields [(DMA_MEM_CFG.PASSES, 0)] s t)
      ∧ ∀ e, es = [e] → s.errLog.length < 16 →
        (e.syms = none → t.errLog = s.errLog ++ [⟨1, 2, logReqScrub, 0, e.addr.toNat, s.timeNs⟩]
          ∧ t.rd DMA_DRAM_ECC.UE = min (s.rd DMA_DRAM_ECC.UE + 1) 255 ∧ bit (t.rd SYS_IRQ_PEND.VEC) 8 = true)
        ∧ ∀ n : Fin 8, e.syms = some n → t.rd DMA_DRAM_ECC.CE = min (s.rd DMA_DRAM_ECC.CE + 1) 65535
          ∧ t.errLog = s.errLog ++ (if 3 ≤ n.val then [⟨1, 1, logReqScrub, n, e.addr.toNat, s.timeNs⟩] else []))
  ∧ (∀ (s : State) (e : ScrubError), (Instr.sramScrub [e]).wf = true → s.mdllA = true → ∃ t, exec (.sramScrub [e]) s = .next t
      ∧ t.mode = s.mode ∧ t.mem = s.mem
      ∧ (e.syms ≠ none → t.rd DMA_SRAM_ECC.CE = min (s.rd DMA_SRAM_ECC.CE + 1) 65535 ∧ t.errLog = s.errLog)
      ∧ (e.syms = none → s.errLog.length < 16 → t.errLog = s.errLog ++ [⟨2, 2, logReqScrub, 0, e.addr.toNat, s.timeNs⟩]
        ∧ (inSafety e.addr.toNat 1 = false → t.rd DMA_SRAM_ECC.UE_CTRL = min (s.rd DMA_SRAM_ECC.UE_CTRL + 1) 255)
        ∧ (inSafety e.addr.toNat 1 = true → t.rd DMA_SRAM_ECC.UE_SAFE = min (s.rd DMA_SRAM_ECC.UE_SAFE + 1) 255
          ∧ (s.mode ≠ .resetSeq → s.lastStands 6 = false → CauseRecorded ⟨6, 0x0E, 0xFF⟩ s t))))
  ∧ ∀ (s : State) (a : Word), (Instr.sramUncorr a).wf = true → s.mode ≠ .resetSeq → s.lastStands 6 = false →
    ∃ t, exec (.sramUncorr a) s = .next t ∧ CauseRecorded ⟨6, 0x0E, 0xFF⟩ s t ∧ t.out.head? = some .busError
      ∧ t.rd DMA_SRAM_ECC.UE_SAFE = min (s.rd DMA_SRAM_ECC.UE_SAFE + 1) 255
      ∧ (s.errLog.length < 16 → t.errLog = s.errLog ++ [⟨2, 2, logReqScarab, 0, a.toNat, s.timeNs⟩]) ∧ t.mode = s.mode ∧ t.mem = s.mem

/-! ### Host and service port -/

/-- R400, R423, R424, R426 to R428, R444: a reset of the endpoint clears its buffers, its vectors and its masks, and one that takes its
link down ends the host's descriptors with reason LINK; an access through BAR2 within one page reads or writes where the host domain
maps it, or waits for the DRAM's clock; one that does not translate, waits too long or cannot be read answers with its status and is
noted, and a write that fails is discarded; BAR4 holds the request buffer and the MSI-X table, and shows the response and the pending
bits; an unmasked pending vector sends its message. What BAR4 reads as before it is written and how a reset finds the vectors (log 41), how far a failed access has
come (log 74), what the link's loss does to the rings' states (log 57), and what the errors of Advanced Error Reporting and the rest of
the configuration space are (log 94), is the model's choice. -/
def Obligations.EndpointServesTheHost : Prop :=
  (∀ (s : State) (kind : LinkReset), ∃ t, exec (.pcieLinkReset kind) s = .next t ∧ t.reqBuf = [] ∧ t.endpoint = default
    ∧ t.hostPort.held = [] ∧ t.hostPort.waits = []
    ∧ (t.channel 0).response = [] ∧ t.channel 1 = s.channel 1 ∧ t.rd SYS_IRQ_MASK.VEC = SYS_IRQ_MASK.VEC.reset
    ∧ t.flag SYS_HOST_CFG.LINK_UP = (decide (kind = .functionLevel) && s.flag SYS_HOST_CFG.LINK_UP) ∧ t.mode = s.mode
    ∧ (kind = .functionLevel → t.rings = s.rings ∧ t.mem = s.mem)
    ∧ (kind ≠ .functionLevel → ∀ r < 32, ∀ d ∈ (t.ring r).queue, d.hostSide = true → d.started = false → d.abort = some reasonLink)
    ∧ ∀ a, (∀ r < 32, a < s.rd DMA_RING_CBASE.BASE r / 16 * 16 ∨ s.rd DMA_RING_CBASE.BASE r / 16 * 16 + 16 * s.ringSize r ≤ a) →
      t.mem.read a = s.mem.read a)
  ∧ (∀ (s : State) (off : BitVec 28) (len : Nat) (write : Option (List Byte)) (late : Bool) (f : MemFound) (x : Trans),
    (Instr.hostMemoryAccess (.window off) len write late f).wf = true → s.pcieReach = true →
    s.walkDamage f (s.rd SYS_HOST_CFG.DOM) off.toNat = none → x = (translate (s.rd SYS_HOST_CFG.DOM) write.isSome off.toNat s).2 →
    (∀ e, x = .fault e → ∃ t, exec (.hostMemoryAccess (.window off) len write late f) s = .next t ∧ t.mem = s.mem ∧ t.mode = s.mode
      ∧ t.rd DMA_IOMMU_STAT.FAULT = min (s.rd DMA_IOMMU_STAT.FAULT + 1) (2 ^ DMA_IOMMU_STAT.FAULT.width - 1)
      ∧ t.endpoint = { s.endpoint with errors := setBit s.endpoint.errors 20 true }
      ∧ t.out = (if write = none then .unsupported :: s.out else s.out))
    ∧ ∀ pa room, x = .ok pa room → len ≤ room →
      (f = ⟨[], []⟩ → (touchesDram pa len = true → s.mdllB = true ∧ (late = true → write ≠ none)) →
        ∃ t, exec (.hostMemoryAccess (.window off) len write late f) s = .next t ∧ t.mode = s.mode ∧ t.endpoint = s.endpoint
          ∧ (∀ bs, write = some bs → OnlyBytes pa len s t ∧ t.out = s.out
              ∧ (s.mem.wf = true → t.mem.readBytes pa len = byteNats bs))
          ∧ (write = none → t.out = .memData (s.memBytes pa len) :: s.out ∧ t.mem = s.mem))
      ∧ (f.meets pa len = true → write = none → (touchesDram pa len = true → s.mdllB = true ∧ late = false) →
        ∃ t, exec (.hostMemoryAccess (.window off) len write late f) s = .next t ∧ t.mode = s.mode ∧ t.mem = s.mem
          ∧ t.out.head? = some .completerAbort ∧ t.endpoint = { s.endpoint with errors := setBit s.endpoint.errors 15 true })
      ∧ (touchesDram pa len = true → s.mdllB = false → (late = true → write ≠ none) →
        ∃ t, exec (.hostMemoryAccess (.window off) len write late f) s = .next t ∧ t.out = s.out ∧ t.mem = s.mem ∧ t.mode = s.mode
          ∧ t.hostPort = { s.hostPort with waits := s.hostPort.waits ++ [⟨s.ticks, [(pa, len)], write.map byteNats, f⟩] })
      ∧ (touchesDram pa len = true → late = true → write = none →
        ∃ t, exec (.hostMemoryAccess (.window off) len write late f) s = .next t ∧ t.mem = s.mem ∧ t.mode = s.mode
          ∧ t.out = .completerAbort :: s.out ∧ t.endpoint = { s.endpoint with errors := setBit s.endpoint.errors 15 true }))
  ∧ (∀ (s : State) (off : BitVec 16) (len : Nat) (late : Bool) (f : MemFound), s.pcieReach = true →
    ((Instr.hostMemoryAccess (.mailbox off) len none late f).wf = true →
      ∃ t, exec (.hostMemoryAccess (.mailbox off) len none late f) s = .next t
        ∧ t.out = .memData ((List.range len).map (fun k => s.mailboxByte (off.toNat + k))) :: s.out ∧ t.mem = s.mem ∧ t.mode = s.mode)
    ∧ ∀ bs, (Instr.hostMemoryAccess (.mailbox off) len (some bs) late f).wf = true →
      ∃ t, exec (.hostMemoryAccess (.mailbox off) len (some bs) late f) s = .next t
        ∧ (∀ k, t.mailboxByte k = if off.toNat ≤ k ∧ k < off.toNat + len ∧ (k < 0x400 ∨ 0x3000 ≤ k ∧ k < 0x3200)
            then (bs.getD (k - off.toNat) 0).toNat else s.mailboxByte k)
        ∧ t.out = s.out ∧ t.mem = s.mem ∧ t.mode = s.mode)
  ∧ (∀ (s : State) (off : BitVec 12) (len : Nat) (write : Option (List Byte)) (late : Bool) (f : MemFound), s.pcieReach = true →
    (Instr.hostMemoryAccess (.config off) len write late f).wf = true →
    ∃ t, exec (.hostMemoryAccess (.config off) len write late f) s = .next t ∧ t.mem = s.mem ∧ t.mode = s.mode ∧ t.endpoint = s.endpoint
      ∧ (write ≠ none → t.out = s.out)
      ∧ (write = none → ∃ bs, t.out = .memData bs :: s.out ∧ bs.length = len
        ∧ ∀ p ∈ [(2, 0x00), (3, 0x96), (9, 0x00), (10, 0x80), (11, 0x11)], off.toNat ≤ p.1 → p.1 < off.toNat + len →
          bs.getD (p.1 - off.toNat) 0 = p.2))
  ∧ (∀ (s : State) (place : HostSpace) (len : Nat) (write : Option (List Byte)) (late : Bool) (f : MemFound),
    (Instr.hostMemoryAccess place len write late f).wf = true → s.pcieReach = false → s.mode ≠ .dormant →
    exec (.hostMemoryAccess place len write late f) s = .next s)
  ∧ ∀ (s : State) (k : Fin 32), ∃ t, exec (.irqUnmask k) s = .next t
    ∧ (∀ j : Fin 32, bit (t.rd SYS_IRQ_MASK.VEC) j = (bit (s.rd SYS_IRQ_MASK.VEC) j && decide (j ≠ k)))
    ∧ t.out = (if bit (s.rd SYS_IRQ_MASK.VEC) k && bit (s.rd SYS_IRQ_PEND.VEC) k && decide (s.phase = .done ∧ s.mode ≠ .proof)
        then .msix k.val :: s.out else s.out)
    ∧ OnlyFields [(SYS_IRQ_MASK.VEC, 0)] s t ∧ { t with regs := s.regs, out := s.out } = s

/-- R393, R394, R396, R429, R430, R448: once Proof has been entered the status byte is always answered and clears LAST_ERR; while READY is 0 every other frame only wakes,
and a post is noted in LAST_ERR. While READY is 1 words are read and written one after the other as single accesses, memory is
read and, outside the safety region and the flash, written, the response is read, and an unknown opcode or a cut frame is
noted. A post answers its command or leaves it pending; every form completes. That a word which cannot be read gives zeros and sets
LAST_ERR, and that one which is written in part keeps its content and sets it, is the model's choice (log 81), as is what
an address outside the memories answers (log 36). -/
def Obligations.ServicePortServesFrames : Prop :=
  (∀ s : State, s.phase ≠ .done → exec .svStatus s = .next s)
  ∧ (∀ s : State, s.phase = .done → ∃ t, exec .svStatus s = .next t ∧ t.out = .svBytes [b2n s.svReady + 2 * b2n (s.flag SYS_CMD_STAT_SV.PENDING)
        + 4 * b2n (s.flag SYS_CMD_STAT_SV.VALID) + 8 * b2n s.hostPort.svErr] :: s.out
      ∧ t.hostPort = { s.hostPort with svErr := false } ∧ t.mode = s.mode ∧ t.mem = s.mem)
  ∧ (∀ (s : State) (c : Instr), s.svReady = false → c.wf = true →
    (match c with
      | .svRegRead _ _ => True | .svRegWrite _ _ => True | .svMemRead _ _ _ => True | .svMemWrite _ _ => True
      | .svReadResponse _ => True | .svUnknownOpcode _ => True | .svFrameCut _ _ => True | _ => False) →
    exec c s = .next (wakeEvent wakeService s))
  ∧ (∀ (s : State) (a : Word) (vs : List Word), s.svReady = true →
    (vs = [] → exec (.svRegWrite a vs) s = .next s)
    ∧ (∃ t, exec (.svRegWrite a vs) s = .next t ∧ t.pending = s.pending)
    ∧ ∃ t, exec (.svFrameCut a vs) s = .next t ∧ t.hostPort.svErr = true ∧ t.pending = s.pending)
  ∧ (∀ (s : State) (v : Word) (i : Fin 2), s.svReady = true →
    (∃ t, exec (.svRegWrite (BitVec.ofNat 32 (SYS_CAUSE_SET.reg.addr i)) [v]) s = .next t
      ∧ (∀ b < 32, bit (t.rd SYS_CAUSE_SET.SET i) b = (bit (s.rd SYS_CAUSE_SET.SET i) b && !bit v.toNat b))
      ∧ OnlyFields [(SYS_CAUSE_SET.SET, i)] s t ∧ OnlyRegisters s t)
    ∧ ∃ t, exec (.svFrameCut (BitVec.ofNat 32 (SYS_CAUSE_SET.reg.addr i)) [v]) s = .next t ∧ t.hostPort.svErr = true
      ∧ (∀ b < 32, bit (t.rd SYS_CAUSE_SET.SET i) b = (bit (s.rd SYS_CAUSE_SET.SET i) b && !bit v.toNat b))
      ∧ OnlyFields [(SYS_CAUSE_SET.SET, i)] s t ∧ { t with regs := s.regs, hostPort := s.hostPort } = s)
  ∧ (∀ (s : State) (a : Word) (v : Word) (vs : List Word), s.svReady = true →
    exec (.svRegWrite a [v]) s = exec (.registerWrite .sv a ⟨4, 0, .clean⟩ v) s
    ∧ (∀ u, exec (.svRegWrite a [v]) s = .next u → u.svReady = true →
        exec (.svRegWrite a (v :: vs)) s = exec (.svRegWrite (a + 4) vs) u)
    ∧ ∀ u, exec (.svRegWrite a vs) s = .next u →
        exec (.svFrameCut a vs) s = .next { u with hostPort := { u.hostPort with svErr := true } })
  ∧ (∀ (s : State) (a : Word) (n : Nat), s.svReady = true →
    (∃ t bs, exec (.svRegRead a n) s = .next t ∧ t.out = .svBytes bs :: s.out ∧ bs.length = 4 * n ∧ t.mode = s.mode ∧ t.mem = s.mem)
    ∧ (a.toNat % 4 = 0 → a.toNat < 0x110000 → regAt a.toNat ≠ none → s.clockStopped a.toNat = false → s.eth.latched = none →
      ∃ t, exec (.svRegRead a 1) s = .next t
        ∧ t.out = .svBytes (toBytesLE 4 ((runOn (a.toNat / 0x10000) s).word a.toNat)) :: s.out)
    ∧ ∃ t bs, exec (.svReadResponse n) s = .next t ∧ t.out = .svBytes bs :: s.out ∧ bs.length = n
      ∧ (∀ i, i < n → bs.getD i 0 = (s.channel 1).response.getD i 0) ∧ { t with out := s.out } = s)
  ∧ (∀ (s : State) (a : Word) (n : Nat) (f : MemFound), s.svReady = true → (Instr.svMemRead a n ⟨true, f⟩).wf = true →
    (inControl a.toNat n || inSafety a.toNat n || inFlash a.toNat n || inDram a.toNat n) = true →
    (∃ t, exec (.svMemRead a n ⟨false, f⟩) s = .next t ∧ t.out = .svBytes (List.replicate n 0) :: s.out
      ∧ t.hostPort = { s.hostPort with svErr := true } ∧ t.regs = s.regs ∧ t.mem = s.mem)
    ∧ (f = ⟨[], []⟩ → exec (.svMemRead a n ⟨true, f⟩) s = .next (s.emit (.svBytes (s.memBytes a.toNat n))))
    ∧ ∃ t, exec (.svMemRead a n ⟨true, f⟩) s = .next t ∧ t.mem = s.mem ∧ t.mode = s.mode
      ∧ (∃ bs, Out.svBytes bs ∈ t.out ∧ bs.length = n ∧ ∀ k < n, bs.getD k 0
        = if wordLost f (a.toNat + k) then 0 else (s.mem.read (a.toNat + k)).toNat)
      ∧ ((∃ k < n, wordLost f (a.toNat + k) = true) → t.hostPort.svErr = true))
  ∧ (∀ (s : State) (a : Word) (w : PortWrite), s.svReady = true → (Instr.svMemWrite a w).wf = true →
    (inControl a.toNat w.bytes.length = true ∨ inDram a.toNat w.bytes.length = true →
      ∃ t, exec (.svMemWrite a w) s = .next t ∧ OnlyBytes a.toNat w.bytes.length s t
      ∧ (s.mem.wf = true → ∀ k, k < w.bytes.length → t.mem.read (a.toNat + k)
        = if partLost w.found a.toNat w.bytes.length (a.toNat + k) then s.mem.read (a.toNat + k) else w.bytes.getD k 0)
      ∧ ((∃ k < w.bytes.length, partLost w.found a.toNat w.bytes.length (a.toNat + k) = true) → t.hostPort.svErr = true)
      ∧ (w.found.damaged = [] → { t with mem := s.mem } = s))
    ∧ (w.found.damaged = [] → (inSafety a.toNat w.bytes.length || inFlash a.toNat w.bytes.length) = true →
      ∃ t, exec (.svMemWrite a w) s = .next t ∧ AccessRejected .sv .notPermitted true a.toNat s t))
  ∧ (∀ (s : State) (bs : List Byte), (Instr.svPost bs).wf = true →
    (∃ t, exec (.svPost bs) s = .next t ∧ t.pending = s.pending ∧ ∀ a, t.mem.read a = s.mem.read a)
    ∧ (∀ tag : Byte, bs = [4, tag, 0, 0] → s.svReady = true → (s.channel 1).request = none → s.snap.latchedNow = none →
      ∃ t, exec (.svPost bs) s = .next t ∧ (t.channel 1).request = none ∧ t.flag SYS_CMD_STAT_SV.VALID = true
        ∧ (t.channel 1).response.take 3 = [4, tag.toNat, if s.flag SNP_STATUS.LOCKED then 7 else 1])
    ∧ (s.svReady = false → ∃ t, exec (.svPost bs) s = .next t ∧ t.hostPort.svErr = true ∧ t.channels = s.channels ∧ t.mode = s.mode
      ∧ t.mem = s.mem)
    ∧ (s.svReady = true → (s.channel 1).request ≠ none → ∃ t, exec (.svPost bs) s = .next t ∧ t.channels = s.channels
      ∧ t.rd SYS_CMD_STAT_SV.N_BUSY = min (s.rd SYS_CMD_STAT_SV.N_BUSY + 1) 255 ∧ OnlyFields [(SYS_CMD_STAT_SV.N_BUSY, 0)] s t)
    ∧ (s.svReady = true → (s.channel 1).request = none → ∀ (code tag : Byte) (payload : List Byte) (ls : List Nat),
      bs = [code, tag, BitVec.ofNat 8 payload.length, BitVec.ofNat 8 (payload.length / 256)] ++ payload →
      payloadLengths code.toNat = some ls → ls.contains payload.length = false →
      ∃ t, exec (.svPost bs) s = .next t ∧ (t.channel 1).request = none
        ∧ (t.channel 1).response.take 3 = [code.toNat, tag.toNat, 0x13] ∧ t.flag SYS_CMD_STAT_SV.VALID = true
        ∧ t.mode = s.mode ∧ t.mem = s.mem))
  ∧ ∀ (s : State) (op : Byte), (Instr.svUnknownOpcode op).wf = true → s.svReady = true →
    exec (.svUnknownOpcode op) s = .next { s with hostPort := { s.hostPort with svErr := true } }

/-! ### Crumb -/

/-- R439 to R443, R445: a trigger latches an image of 8 KiB with its source where no lock is held, and is counted as missed where
one is held or in Dormant; a time match is armed for a later time only, fires once, and can be disarmed; UNLOCK clears the
lock and the record of the missed triggers. -/
def Obligations.SnapshotsLatchAndLock : Prop :=
  (∀ (s : State) (c : Instr) (src : Nat),
    (c, src) ∈ [(.snapTrig, 1), (.trigger, 6)] ∨ (c, src) = (.timeMatch, 2) ∧ (∃ a, s.snap.armedAt = some a ∧ a ≤ s.timeNs) →
    (s.mode = .dormant ∨ (s.snap.latchedNow = none ∧ s.flag SNP_STATUS.LOCKED = true) → ∃ t, exec c s = .next t
      ∧ t.rd SNP_MISSED.COUNT = min (s.rd SNP_MISSED.COUNT + 1) (2 ^ SNP_MISSED.COUNT.width - 1) ∧ t.snap.image = s.snap.image
      ∧ (s.rd SNP_MISSED.COUNT = 0 → t.rd SNP_MISSED.FIRST_SRC = src) ∧ t.rd SNP_STATUS.GEN = s.rd SNP_STATUS.GEN
      ∧ bit (t.rd SYS_IRQ_PEND.VEC) 1 = true ∧ t.mode = s.mode ∧ t.mem = s.mem)
    ∧ (s.mode ≠ .dormant → s.snap.latchedNow = none → s.flag SNP_STATUS.LOCKED = false → ∃ t, exec c s = .next t
      ∧ t.rd SNP_STATUS.GEN = (s.rd SNP_STATUS.GEN + 1) % 65536 ∧ t.rd SNP_STATUS.SOURCE = src ∧ t.flag SNP_STATUS.VALID = true
      ∧ t.flag SNP_STATUS.LOCKED = s.flag SNP_CFG.AUTO_LOCK ∧ t.snap.image.length = 8192
      ∧ bit (t.rd SYS_IRQ_PEND.VEC) 1 = true ∧ t.mode = s.mode ∧ t.mem = s.mem)
    ∧ (c = .timeMatch → ∃ t, exec c s = .next t ∧ t.flag SNP_STATUS.ARMED = false ∧ t.snap.armedAt = none))
  ∧ (∀ s : State, (∀ a, s.snap.armedAt = some a → s.timeNs < a) → exec .timeMatch s = .next s)
  ∧ (∀ s : State, ∃ t, exec .unlock s = .next t ∧ t.flag SNP_STATUS.LOCKED = false ∧ t.rd SNP_MISSED.COUNT = 0
    ∧ t.rd SNP_MISSED.FIRST_SRC = 0 ∧ t.rd SNP_MISSED_T0.NS = 0
    ∧ OnlyFields [(SNP_STATUS.LOCKED, 0), (SNP_MISSED.COUNT, 0), (SNP_MISSED.FIRST_SRC, 0), (SNP_MISSED_T0.NS, 0),
        (SNP_MISSED_T1.SEC_LO, 0), (SNP_MISSED_T2.SEC_HI, 0)] s t
    ∧ { t with regs := s.regs, snap := s.snap } = s ∧ t.snap = { s.snap with reading := false })
  ∧ (∀ (s : State), (s.matchTime = none ∨ s.flag SNP_STATUS.ARMED = true → exec .arm s = .next s)
    ∧ ∀ a, s.matchTime = some a → s.flag SNP_STATUS.ARMED = false →
      (a ≤ s.timeNs → exec .arm s = .next s)
      ∧ (s.timeNs < a → ∃ t, exec .arm s = .next t ∧ t.flag SNP_STATUS.ARMED = true ∧ t.snap = { s.snap with armedAt := some a }
        ∧ OnlyFields [(SNP_STATUS.ARMED, 0)] s t ∧ { t with regs := s.regs, snap := s.snap } = s))
  ∧ ∀ s : State, ∃ t, exec .disarm s = .next t ∧ t.flag SNP_STATUS.ARMED = false ∧ t.snap = { s.snap with armedAt := none }
    ∧ OnlyFields [(SNP_STATUS.ARMED, 0)] s t ∧ { t with regs := s.regs, snap := s.snap } = s

/-! ### Register accesses -/

/-- R9 to R11, R14, R83, R185, R393, R394, R396: core 1 reaches nothing while the pair is joined; any other core's write that is too
long, narrow, unaligned or outside every window and memory, or that its rights do not cover, or that a loaf has locked,
is refused and recorded; elsewhere in a window it is ignored; a permitted write of a plain register replaces its fields, or
clears the bits written as 1, and changes nothing else: the third command word has 8 outputs, and the reserved mode of a
domain reads as 0. A permitted store fills its bytes of memory; one that reads a word it cannot read is not performed and answers with
a bus error. That a long access of any requester has type SIZE (log 30), and who writes a register for which the manual names no
writer (log 33), are the model's choices. -/
def Obligations.RegisterWritesFollowRights : Prop :=
  (∀ (s : State) (a v : Word) (w : Width), w.bytes ≠ 0 → s.joined = true → exec (.registerWrite .core1 a w v) s = .next s)
  ∧ (∀ (s : State) (req q : Requester) (a v : Word) (w : Width) (e : AccErr), s.speaksAs req q → w.bytes ≠ 0 →
    memKindAt a.toNat = none → shapeError req a.toNat w.bytes = some e → ∃ t, exec (.registerWrite req a w v) s = .next t
      ∧ AccessRejected q e true a.toNat s t)
  ∧ (∀ (req : Requester) (a size : Nat), isCore req = true →
    shapeError req a size = (if 4 < size then some .size else if size < 4 ∨ a % 4 ≠ 0 then some .narrow
      else if 0x110000 ≤ a then some .unmapped else none))
  ∧ (∀ (s : State) (req q : Requester) (a v : Word) (w : Width), s.speaksAs req q → w.bytes = 4 → shapeError req a.toNat 4 = none →
    (regAt a.toNat = none → exec (.registerWrite req a w v) s = .next s)
    ∧ ∀ r i, regAt a.toNat = some (r, i) →
      (r.writable = true → writersOf r i ≠ .nobody → s.mayWrite q r i = false →
        ∃ t, exec (.registerWrite req a w v) s = .next t ∧ AccessRejected q .notPermitted true a.toNat s t)
      ∧ (r.writable = false → reflectsLoaf r = true → s.itemEnded 5 = true →
        ∃ t, exec (.registerWrite req a w v) s = .next t ∧ AccessRejected q .locked true (r.addr i) s t))
  ∧ (∀ (s : State) (req q : Requester) (a v : Word) (r : Reg) (i x : Nat) (w : Width), s.speaksAs req q → w.bytes = 4 →
    regAt a.toNat = some (r, i) →
    shapeError req a.toNat 4 = none → s.mayWrite q r i = true →
    x = (if r = SOP_CMD.reg ∧ i = 2 then v.toNat % 256
      else if r = DMA_IOMMU_CTX0.reg ∧ bits v.toNat 30 2 = 3 then 0 else v.toNat) →
    r ∈ [SYS_CAUSE_HOLD1.reg, SYS_CAUSE_LAST1.reg, SYS_PROOF_TIMER.reg, SYS_HOST_CFG.reg, SYS_CAUSE_SET.reg, CLK_MON.reg,
      HFE_FAULT.reg, SOP_CMD.reg, PMA_CH_STATUS.reg, CAN_TX_BUF.reg, CAN_TX_DATA.reg, CAN_TX_DEADLINE.reg, ETH_P_CTRL.reg,
      ETH_P_LAT.reg, ETH_P_ASYM.reg, DMA_IOMMU_CTX0.reg, DMA_IOMMU_CTX1.reg, SNP_TMATCH0.reg, SNP_TMATCH1.reg, SNP_TMATCH2.reg,
      FAB_FLASH_SRC.reg, FAB_FLASH_DST.reg, FAB_FLASH_LEN.reg] →
    ∃ t, exec (.registerWrite req a w v) s = .next t ∧ OnlyRegisters s t ∧ OnlyFields (r.fields.map (fun f => (f, i))) s t
      ∧ ∀ f ∈ r.fields,
        (f.acc = .rw ∨ f.acc = .rws → t.rd f i = bits x f.lo f.width)
        ∧ (f.acc = .w1c → ∀ b < f.width, bit (t.rd f i) b = (bit (s.rd f i) b && !bit x (f.lo + b)))
        ∧ (f.acc = .ro ∨ f.acc = .rc → t.rd f i = s.rd f i))
  ∧ ∀ (s : State) (req q : Requester) (a v : Word) (w : Width), s.speaksAs req q → w.bytes ≠ 0 → memKindAt a.toNat ≠ none →
    (memKindAt (a.toNat + w.bytes - 1) ≠ memKindAt a.toNat → ∃ t, exec (.registerWrite req a w v) s = .next t
      ∧ AccessRejected q .unmapped true a.toNat s t)
    ∧ (memKindAt (a.toNat + w.bytes - 1) = memKindAt a.toNat →
      (s.mayStore q a.toNat w.bytes = false → ∃ t, exec (.registerWrite req a w v) s = .next t
        ∧ AccessRejected q .notPermitted true a.toNat s t)
      ∧ (s.mayStore q a.toNat w.bytes = true → s.coreWaits a.toNat w.bytes = true → exec (.registerWrite req a w v) s = .next s)
      ∧ (s.mayStore q a.toNat w.bytes = true → s.coreWaits a.toNat w.bytes = false →
        (w.word = .clean ∨ inDram a.toNat 1 = false → ∃ t, exec (.registerWrite req a w v) s = .next t ∧ { t with mem := s.mem } = s
          ∧ OnlyBytes a.toNat w.bytes s t
          ∧ (s.mem.wf = true → t.mem.readBytes a.toNat w.bytes = toBytesLE w.bytes (v.toNat + 2 ^ 32 * w.high.toNat)))
        ∧ (w.word = .damaged → inDram a.toNat 1 = true → ∃ t, exec (.registerWrite req a w v) s = .next t ∧ t.mem = s.mem
          ∧ t.out.head? = some .busError ∧ t.rd DMA_DRAM_ECC.UE = min (s.rd DMA_DRAM_ECC.UE + 1) 255)))

/-- R9 to R11, R19, R42, R185, R393, R400, R436: core 1 reads nothing while the pair is joined; any other core's read in a window whose
clock runs returns the register's value, what runs in the block runs on to that moment, and clears the counters
that a read clears; a malformed one, or one in a window whose clock stands, is refused, recorded and reads 0, or ends in a bus error
where it is longer than a word. A load returns the bytes of memory, or a bus error where they cannot be read. The host reaches
no register while its link cannot be up; in Dormant the endpoint holds its writes while they fit. That a stopped clock refuses the
reads of every requester (log 31), whom the registers without a named writer admit (log 33), that no host access arrives in the reset
sequence and in Proof (log 35), and how a held write counts (log 40) are the model's choices. -/
def Obligations.RegisterReadsAnswer : Prop :=
  (∀ (s : State) (a : Word) (w : Width), w.bytes ≠ 0 → s.joined = true → exec (.registerRead .core1 a w) s = .next s)
  ∧ (∀ (s : State) (req q : Requester) (a : Word) (w : Width), s.speaksAs req q → w.bytes ≠ 0 → memKindAt a.toNat = none →
    (∀ e, shapeError req a.toNat w.bytes = some e → ∃ t, exec (.registerRead req a w) s = .next t
      ∧ t.out.head? = some (if 4 < w.bytes.val then .busError else .readData 0) ∧ AccessRejected q e false a.toNat s t)
    ∧ (shapeError req a.toNat w.bytes = none → regAt a.toNat = none →
      exec (.registerRead req a w) s = .next (s.emit (.readData 0)))
    ∧ ∀ r i, shapeError req a.toNat w.bytes = none → regAt a.toNat = some (r, i) →
      (s.clockStopped a.toNat = true → ∃ t, exec (.registerRead req a w) s = .next t
        ∧ t.out.head? = some (.readData 0) ∧ AccessRejected q .clockStop false a.toNat s t)
      ∧ (s.clockStopped a.toNat = false → s.eth.latched = none → ∃ t, exec (.registerRead req a w) s = .next t
        ∧ t.out.head? = some (.readData ((runOn (r.base / 0x10000) s).word a.toNat)) ∧ t.mode = s.mode ∧ t.mem = s.mem
        ∧ (r.base ≠ CAN_TX_DONE.reg.base → r.base ≠ ETH_P_TXTS0.reg.base → ∀ f ∈ r.fields, f.acc = .rc → t.rd f i = 0)
        ∧ (r.base / 0x10000 ∈ [0x0, 0x1, 0x3, 0x4, 0x7, 0x8, 0x9, 0xA, 0xF, 0x10] →
            OnlyFields ((r.fields.filter (fun f => decide (f.acc = .rc))).map (fun f => (f, i))) s t
            ∧ { t with
                regs := s.regs, out := s.out, free := s.free, snap := s.snap, gens := s.gens, bridges := s.bridges, legs := s.legs } = s
            ∧ t.snap = { s.snap with reading := t.snap.reading } ∧ (r ≠ SNP_DATA.reg → t.snap = s.snap)
            ∧ (r.base / 0x10000 ≠ 0x9 → t.gens = s.gens ∧ t.bridges = s.bridges ∧ t.legs = s.legs))))
  ∧ (∀ (s : State) (req q : Requester) (a : Word) (w : Width), s.speaksAs req q → w.bytes ≠ 0 → memKindAt a.toNat ≠ none →
    memKindAt (a.toNat + w.bytes - 1) = memKindAt a.toNat →
    (s.coreWaits a.toNat w.bytes = true → exec (.registerRead req a w) s = .next s)
    ∧ (s.coreWaits a.toNat w.bytes = false →
      (w.word = .clean → exec (.registerRead req a w) s = .next (s.emit (.readData (s.memLE a.toNat w.bytes))))
      ∧ (w.word = .damaged → ∃ t, exec (.registerRead req a w) s = .next t ∧ t.out.head? = some .busError ∧ t.mem = s.mem
        ∧ t.mode = s.mode ∧ (s.errLog.length < 16 → t.errLog.length = s.errLog.length + 1))))
  ∧ ∀ (s : State) (a v : Word) (w : Width), w.bytes = 4 → s.pcieReach = false →
    (s.mode ≠ .dormant → exec (.registerRead .host a w) s = .next s ∧ exec (.registerWrite .host a w v) s = .next s)
    ∧ (s.mode = .dormant → (s.hostPort.held.map HeldWrite.size).sum ≤ 1036 → ∃ t, exec (.registerWrite .host a w v) s = .next t
      ∧ t.hostPort.held = s.hostPort.held ++ [.reg a.toNat 4 v.toNat] ∧ t.mode = s.mode ∧ t.mem = s.mem)

/-! ### Single rules -/

/-- R47: a Hold cause that arises in Hold leaves the Hold cause record and is recorded in SYS_CAUSE_LAST and SYS_CAUSE_SET:
so for every cause that is raised, and so do the commands that raise one. -/
def Obligations.HoldKeepsItsCause : Prop :=
  ∀ s : State, s.mode = .hold →
    (∀ c : Cause, c.code < 64 → c.block < 256 → c.index < 256 → s.lastStands c.code = false →
      CauseRecorded c s (raiseHold c s) ∧ (raiseHold c s).mode = .hold ∧ ∀ f ∈ holdRecord, (raiseHold c s).rd f = s.rd f) ∧
    ∀ (a : Word), ∀ p ∈ [(Instr.thermal, true, (⟨8, 0, 0xFF⟩ : Cause)), (.sramUncorr a, (Instr.sramUncorr a).wf, ⟨6, 0x0E, 0xFF⟩),
        (.clkALoss, s.clk.gatedA && !s.clk.lossRaised, ⟨7, 1, 0xFF⟩)],
      p.2.1 = true → s.lastStands p.2.2.code = false → ∃ t, exec p.1 s = .next t ∧ CauseRecorded p.2.2 s t ∧ t.mode = .hold
        ∧ ∀ f ∈ holdRecord, t.rd f = s.rd f

/-- R262: START selects the first running value of a scan: 0xFFFF_FFFF, the value in RUN, or a refusal that leaves RUN. -/
def Obligations.StartSelectsTheSeed : Prop :=
  ∀ (s : State) (b : Fin 2) (tag : BitVec 16) (start : BitVec 2), (b = 0 → s.joined = true) → s.scanBusy b = false →
    chkRangeOk b (s.rd CHK_x_ADDR.ADDR b) (s.rd CHK_x_LEN.LEN b) = true → s.rd CHK_x_LEN.LEN b ≠ 0 →
    ∃ t, exec (.chkGo b tag start) s = .next t
      ∧ (start = 0 → (t.scan b).running = true ∧ t.rd CHK_x_RUN.RUN b = 0xFFFFFFFF)
      ∧ (start = 1 → (t.scan b).running = true ∧ t.rd CHK_x_RUN.RUN b = s.rd CHK_x_RUN.RUN b)
      ∧ (start = 2 ∨ start = 3 → (t.scan b).running = false ∧ t.rd CHK_x_RESULT.STATUS b = chkRefused
          ∧ t.rd CHK_x_RUN.RUN b = s.rd CHK_x_RUN.RUN b)

/-- R415: a pre-emption shows as PREEMPTED in the completion and changes nothing else; DELAY is the one of the first beat. -/
def Obligations.PreemptionOnlyShows : Prop :=
  ∀ (s : State) (r : Fin 32) (v : Service) (d : Desc) (c : Nat), (Instr.descriptorComplete r v).wf = true → AtHead r d s →
    s.ringTranslates r = false → d.preempted = false → c = completionAt r d s → regionOk r true c 16 = true →
    ∃ t0 t1, exec (.descriptorComplete r { v with preempted := false }) s = .next t0
      ∧ exec (.descriptorComplete r { v with preempted := true }) s = .next t1 ∧ t1 = { t0 with mem := t1.mem }
      ∧ (∀ a, a ≠ c + 12 → t1.mem.read a = t0.mem.read a)
      ∧ (s.mem.wf = true → bit (t0.mem.read (c + 12)).toNat 4 = false ∧ bit (t1.mem.read (c + 12)).toNat 4 = true
        ∧ (d.started = true → t0.mem.readBytes (c + 8) 4 = toBytesLE 4 (sat 32 d.delay))
        ∧ (d.started = false → t0.mem.readBytes (c + 8) 4 = toBytesLE 4 (sat 32 (s.fitService r d v).delay)))

end DVStatements
end

