-- ==== Sys2Proof/Laws/Cells.lean ====
section
/-!
SUPPORT. Sparse tables: what a lookup finds after an insertion; the register file as cells.
-/
namespace Sys2Proof.Machine

/-- An insertion is found at its own key. -/
@[simp] theorem lookup_insert_same {α : Type} (t : Tab α) (k : Nat) (v : α) : lookup (insert t k v) k = some v := by
  induction t with
  | nil => simp [insert, lookup]
  | cons p t ih =>
    obtain ⟨k', v'⟩ := p
    simp only [insert]
    split
    · simp [lookup]
    · split
      · simp [lookup]
      · simp [lookup, *]

/-- An insertion leaves every other key as it was. -/
theorem lookup_insert_ne {α : Type} (t : Tab α) {k j : Nat} (v : α) (h : k ≠ j) : lookup (insert t k v) j = lookup t j := by
  induction t with
  | nil => simp [insert, lookup, h]
  | cons p t ih =>
    obtain ⟨k', v'⟩ := p
    simp only [insert]
    split
    · subst k'; simp [lookup, h]
    · split
      · simp [lookup, h]
      · simp [lookup, ih]

/-- A table record is read back. -/
@[simp] theorem tget_tmod_same {α : Type} [Inhabited α] (t : Tab α) (k : Nat) (f : α → α) :
    tget (tmod t k f) k = f (tget t k) := by simp [tget, tmod]

/-- A change of one record leaves the others. -/
theorem tget_tmod_ne {α : Type} [Inhabited α] (t : Tab α) {k j : Nat} (f : α → α) (h : k ≠ j) :
    tget (tmod t k f) j = tget t j := by simp [tget, tmod, lookup_insert_ne t _ h]

/-! ### Register fields -/

/-- A field reads back what was written, cut to its width. -/
@[simp] theorem rd_wr_same (s : State) (f : Fld) (v i : Nat) : (s.wr f v i).rd f i = v % 2 ^ f.width := by
  simp [State.rd, State.wr]

/-- A write of one cell leaves every other cell. -/
theorem rd_wr_ne (s : State) {f g : Fld} (v : Nat) {i j : Nat} (h : f.key i ≠ g.key j) :
    (s.wr f v i).rd g j = s.rd g j := by simp [State.rd, State.wr, lookup_insert_ne _ _ h]

/-- One spelling for the writes of a field: `wr`. -/
theorem wrFlag_eq_wr (s : State) (f : Fld) (b : Bool) (i : Nat) : s.wrFlag f b i = s.wr f (b2n b) i := rfl
theorem wrS_eq_wr (s : State) (f : Fld) (v : Int) (i : Nat) : s.wrS f v i = s.wr f (ofSigned f.width v) i := rfl
theorem inc_eq_wr (s : State) (f : Fld) (i : Nat) : s.inc f i = s.wr f (s.rd f i + 1) i := rfl
theorem clr_eq_wr (s : State) (f : Fld) (i : Nat) : s.clr f i = s.wr f f.reset i := rfl
theorem count_eq_wr (s : State) (f : Fld) (i n : Nat) :
    s.count f i n = s.wr f (sat f.width (s.rd f i + n)) i := rfl

/-- A GEN field advances by one, wrapping. -/
theorem rd_inc (s : State) (f : Fld) (i : Nat) : (s.inc f i).rd f i = (s.rd f i + 1) % 2 ^ f.width := rd_wr_same ..

/-- A counter stays at all ones. -/
theorem rd_count (s : State) (f : Fld) (i n : Nat) :
    (s.count f i n).rd f i = sat f.width (s.rd f i + n) % 2 ^ f.width := rd_wr_same ..

end Sys2Proof.Machine
end

