-- ==== Sys2Proof/Laws/State.lean ====
section
/-!
SUPPORT. What each basic update leaves alone: one lemma for each field of the state, true by unfolding.
-/
namespace Sys2Proof.Machine

/-! ### `wr` -/

@[simp] theorem wr_mem (s : State) (f : Fld) (v i : Nat) : (s.wr f v i).mem = s.mem := by cases s; rfl
@[simp] theorem wr_timeNs (s : State) (f : Fld) (v i : Nat) : (s.wr f v i).timeNs = s.timeNs := by cases s; rfl
@[simp] theorem wr_ticks (s : State) (f : Fld) (v i : Nat) : (s.wr f v i).ticks = s.ticks := by cases s; rfl
@[simp] theorem wr_boundaries (s : State) (f : Fld) (v i : Nat) : (s.wr f v i).boundaries = s.boundaries := by cases s; rfl
@[simp] theorem wr_cycles (s : State) (f : Fld) (v i : Nat) : (s.wr f v i).cycles = s.cycles := by cases s; rfl
@[simp] theorem wr_phase (s : State) (f : Fld) (v i : Nat) : (s.wr f v i).phase = s.phase := by cases s; rfl
@[simp] theorem wr_appCores (s : State) (f : Fld) (v i : Nat) : (s.wr f v i).appCores = s.appCores := by cases s; rfl
@[simp] theorem wr_pins (s : State) (f : Fld) (v i : Nat) : (s.wr f v i).pins = s.pins := by cases s; rfl
@[simp] theorem wr_modes (s : State) (f : Fld) (v i : Nat) : (s.wr f v i).modes = s.modes := by cases s; rfl
@[simp] theorem wr_proof (s : State) (f : Fld) (v i : Nat) : (s.wr f v i).proof = s.proof := by cases s; rfl
@[simp] theorem wr_kept (s : State) (f : Fld) (v i : Nat) : (s.wr f v i).kept = s.kept := by cases s; rfl
@[simp] theorem wr_flash (s : State) (f : Fld) (v i : Nat) : (s.wr f v i).flash = s.flash := by cases s; rfl
@[simp] theorem wr_routes (s : State) (f : Fld) (v i : Nat) : (s.wr f v i).routes = s.routes := by cases s; rfl
@[simp] theorem wr_crossbar (s : State) (f : Fld) (v i : Nat) : (s.wr f v i).crossbar = s.crossbar := by cases s; rfl
@[simp] theorem wr_endpoint (s : State) (f : Fld) (v i : Nat) : (s.wr f v i).endpoint = s.endpoint := by cases s; rfl
@[simp] theorem wr_tap (s : State) (f : Fld) (v i : Nat) : (s.wr f v i).tap = s.tap := by cases s; rfl
@[simp] theorem wr_invPending (s : State) (f : Fld) (v i : Nat) : (s.wr f v i).invPending = s.invPending := by cases s; rfl
@[simp] theorem wr_thresholds (s : State) (f : Fld) (v i : Nat) : (s.wr f v i).thresholds = s.thresholds := by cases s; rfl
@[simp] theorem wr_slices (s : State) (f : Fld) (v i : Nat) : (s.wr f v i).slices = s.slices := by cases s; rfl
@[simp] theorem wr_clk (s : State) (f : Fld) (v i : Nat) : (s.wr f v i).clk = s.clk := by cases s; rfl
@[simp] theorem wr_scans (s : State) (f : Fld) (v i : Nat) : (s.wr f v i).scans = s.scans := by cases s; rfl
@[simp] theorem wr_channels (s : State) (f : Fld) (v i : Nat) : (s.wr f v i).channels = s.channels := by cases s; rfl
@[simp] theorem wr_reqBuf (s : State) (f : Fld) (v i : Nat) : (s.wr f v i).reqBuf = s.reqBuf := by cases s; rfl
@[simp] theorem wr_posts (s : State) (f : Fld) (v i : Nat) : (s.wr f v i).posts = s.posts := by cases s; rfl
@[simp] theorem wr_hostPort (s : State) (f : Fld) (v i : Nat) : (s.wr f v i).hostPort = s.hostPort := by cases s; rfl
@[simp] theorem wr_snap (s : State) (f : Fld) (v i : Nat) : (s.wr f v i).snap = s.snap := by cases s; rfl
@[simp] theorem wr_chans (s : State) (f : Fld) (v i : Nat) : (s.wr f v i).chans = s.chans := by cases s; rfl
@[simp] theorem wr_outputs (s : State) (f : Fld) (v i : Nat) : (s.wr f v i).outputs = s.outputs := by cases s; rfl
@[simp] theorem wr_pair (s : State) (f : Fld) (v i : Nat) : (s.wr f v i).pair = s.pair := by cases s; rfl
@[simp] theorem wr_rings (s : State) (f : Fld) (v i : Nat) : (s.wr f v i).rings = s.rings := by cases s; rfl
@[simp] theorem wr_tlb (s : State) (f : Fld) (v i : Nat) : (s.wr f v i).tlb = s.tlb := by cases s; rfl
@[simp] theorem wr_errLog (s : State) (f : Fld) (v i : Nat) : (s.wr f v i).errLog = s.errLog := by cases s; rfl
@[simp] theorem wr_systems (s : State) (f : Fld) (v i : Nat) : (s.wr f v i).systems = s.systems := by cases s; rfl
@[simp] theorem wr_sched (s : State) (f : Fld) (v i : Nat) : (s.wr f v i).sched = s.sched := by cases s; rfl
@[simp] theorem wr_recorder (s : State) (f : Fld) (v i : Nat) : (s.wr f v i).recorder = s.recorder := by cases s; rfl
@[simp] theorem wr_heads (s : State) (f : Fld) (v i : Nat) : (s.wr f v i).heads = s.heads := by cases s; rfl
@[simp] theorem wr_chafer (s : State) (f : Fld) (v i : Nat) : (s.wr f v i).chafer = s.chafer := by cases s; rfl
@[simp] theorem wr_sections (s : State) (f : Fld) (v i : Nat) : (s.wr f v i).sections = s.sections := by cases s; rfl
@[simp] theorem wr_points (s : State) (f : Fld) (v i : Nat) : (s.wr f v i).points = s.points := by cases s; rfl
@[simp] theorem wr_counting (s : State) (f : Fld) (v i : Nat) : (s.wr f v i).counting = s.counting := by cases s; rfl
@[simp] theorem wr_links (s : State) (f : Fld) (v i : Nat) : (s.wr f v i).links = s.links := by cases s; rfl
@[simp] theorem wr_gens (s : State) (f : Fld) (v i : Nat) : (s.wr f v i).gens = s.gens := by cases s; rfl
@[simp] theorem wr_bridges (s : State) (f : Fld) (v i : Nat) : (s.wr f v i).bridges = s.bridges := by cases s; rfl
@[simp] theorem wr_legs (s : State) (f : Fld) (v i : Nat) : (s.wr f v i).legs = s.legs := by cases s; rfl
@[simp] theorem wr_leaven (s : State) (f : Fld) (v i : Nat) : (s.wr f v i).leaven = s.leaven := by cases s; rfl
@[simp] theorem wr_strings (s : State) (f : Fld) (v i : Nat) : (s.wr f v i).strings = s.strings := by cases s; rfl
@[simp] theorem wr_meter (s : State) (f : Fld) (v i : Nat) : (s.wr f v i).meter = s.meter := by cases s; rfl
@[simp] theorem wr_cans (s : State) (f : Fld) (v i : Nat) : (s.wr f v i).cans = s.cans := by cases s; rfl
@[simp] theorem wr_ports (s : State) (f : Fld) (v i : Nat) : (s.wr f v i).ports = s.ports := by cases s; rfl
@[simp] theorem wr_eth (s : State) (f : Fld) (v i : Nat) : (s.wr f v i).eth = s.eth := by cases s; rfl
@[simp] theorem wr_out (s : State) (f : Fld) (v i : Nat) : (s.wr f v i).out = s.out := by cases s; rfl
@[simp] theorem wr_free (s : State) (f : Fld) (v i : Nat) : (s.wr f v i).free = s.free := by cases s; rfl
@[simp] theorem wr_pending (s : State) (f : Fld) (v i : Nat) : (s.wr f v i).pending = s.pending := by cases s; rfl

/-! ### `nextFree` -/

@[simp] theorem nextFree_regs (s : State) : (s.nextFree).regs = s.regs := by cases s; rfl
@[simp] theorem nextFree_mem (s : State) : (s.nextFree).mem = s.mem := by cases s; rfl
@[simp] theorem nextFree_timeNs (s : State) : (s.nextFree).timeNs = s.timeNs := by cases s; rfl
@[simp] theorem nextFree_ticks (s : State) : (s.nextFree).ticks = s.ticks := by cases s; rfl
@[simp] theorem nextFree_boundaries (s : State) : (s.nextFree).boundaries = s.boundaries := by cases s; rfl
@[simp] theorem nextFree_cycles (s : State) : (s.nextFree).cycles = s.cycles := by cases s; rfl
@[simp] theorem nextFree_phase (s : State) : (s.nextFree).phase = s.phase := by cases s; rfl
@[simp] theorem nextFree_appCores (s : State) : (s.nextFree).appCores = s.appCores := by cases s; rfl
@[simp] theorem nextFree_pins (s : State) : (s.nextFree).pins = s.pins := by cases s; rfl
@[simp] theorem nextFree_modes (s : State) : (s.nextFree).modes = s.modes := by cases s; rfl
@[simp] theorem nextFree_proof (s : State) : (s.nextFree).proof = s.proof := by cases s; rfl
@[simp] theorem nextFree_kept (s : State) : (s.nextFree).kept = s.kept := by cases s; rfl
@[simp] theorem nextFree_flash (s : State) : (s.nextFree).flash = s.flash := by cases s; rfl
@[simp] theorem nextFree_routes (s : State) : (s.nextFree).routes = s.routes := by cases s; rfl
@[simp] theorem nextFree_crossbar (s : State) : (s.nextFree).crossbar = s.crossbar := by cases s; rfl
@[simp] theorem nextFree_endpoint (s : State) : (s.nextFree).endpoint = s.endpoint := by cases s; rfl
@[simp] theorem nextFree_tap (s : State) : (s.nextFree).tap = s.tap := by cases s; rfl
@[simp] theorem nextFree_invPending (s : State) : (s.nextFree).invPending = s.invPending := by cases s; rfl
@[simp] theorem nextFree_thresholds (s : State) : (s.nextFree).thresholds = s.thresholds := by cases s; rfl
@[simp] theorem nextFree_slices (s : State) : (s.nextFree).slices = s.slices := by cases s; rfl
@[simp] theorem nextFree_clk (s : State) : (s.nextFree).clk = s.clk := by cases s; rfl
@[simp] theorem nextFree_scans (s : State) : (s.nextFree).scans = s.scans := by cases s; rfl
@[simp] theorem nextFree_channels (s : State) : (s.nextFree).channels = s.channels := by cases s; rfl
@[simp] theorem nextFree_reqBuf (s : State) : (s.nextFree).reqBuf = s.reqBuf := by cases s; rfl
@[simp] theorem nextFree_posts (s : State) : (s.nextFree).posts = s.posts := by cases s; rfl
@[simp] theorem nextFree_hostPort (s : State) : (s.nextFree).hostPort = s.hostPort := by cases s; rfl
@[simp] theorem nextFree_snap (s : State) : (s.nextFree).snap = s.snap := by cases s; rfl
@[simp] theorem nextFree_chans (s : State) : (s.nextFree).chans = s.chans := by cases s; rfl
@[simp] theorem nextFree_outputs (s : State) : (s.nextFree).outputs = s.outputs := by cases s; rfl
@[simp] theorem nextFree_pair (s : State) : (s.nextFree).pair = s.pair := by cases s; rfl
@[simp] theorem nextFree_rings (s : State) : (s.nextFree).rings = s.rings := by cases s; rfl
@[simp] theorem nextFree_tlb (s : State) : (s.nextFree).tlb = s.tlb := by cases s; rfl
@[simp] theorem nextFree_errLog (s : State) : (s.nextFree).errLog = s.errLog := by cases s; rfl
@[simp] theorem nextFree_systems (s : State) : (s.nextFree).systems = s.systems := by cases s; rfl
@[simp] theorem nextFree_sched (s : State) : (s.nextFree).sched = s.sched := by cases s; rfl
@[simp] theorem nextFree_recorder (s : State) : (s.nextFree).recorder = s.recorder := by cases s; rfl
@[simp] theorem nextFree_heads (s : State) : (s.nextFree).heads = s.heads := by cases s; rfl
@[simp] theorem nextFree_chafer (s : State) : (s.nextFree).chafer = s.chafer := by cases s; rfl
@[simp] theorem nextFree_sections (s : State) : (s.nextFree).sections = s.sections := by cases s; rfl
@[simp] theorem nextFree_points (s : State) : (s.nextFree).points = s.points := by cases s; rfl
@[simp] theorem nextFree_counting (s : State) : (s.nextFree).counting = s.counting := by cases s; rfl
@[simp] theorem nextFree_links (s : State) : (s.nextFree).links = s.links := by cases s; rfl
@[simp] theorem nextFree_gens (s : State) : (s.nextFree).gens = s.gens := by cases s; rfl
@[simp] theorem nextFree_bridges (s : State) : (s.nextFree).bridges = s.bridges := by cases s; rfl
@[simp] theorem nextFree_legs (s : State) : (s.nextFree).legs = s.legs := by cases s; rfl
@[simp] theorem nextFree_leaven (s : State) : (s.nextFree).leaven = s.leaven := by cases s; rfl
@[simp] theorem nextFree_strings (s : State) : (s.nextFree).strings = s.strings := by cases s; rfl
@[simp] theorem nextFree_meter (s : State) : (s.nextFree).meter = s.meter := by cases s; rfl
@[simp] theorem nextFree_cans (s : State) : (s.nextFree).cans = s.cans := by cases s; rfl
@[simp] theorem nextFree_ports (s : State) : (s.nextFree).ports = s.ports := by cases s; rfl
@[simp] theorem nextFree_eth (s : State) : (s.nextFree).eth = s.eth := by cases s; rfl
@[simp] theorem nextFree_out (s : State) : (s.nextFree).out = s.out := by cases s; rfl
@[simp] theorem nextFree_pending (s : State) : (s.nextFree).pending = s.pending := by cases s; rfl

/-! ### `emit` -/

@[simp] theorem emit_regs (s : State) (o : Out) : (s.emit o).regs = s.regs := by cases s; rfl
@[simp] theorem emit_mem (s : State) (o : Out) : (s.emit o).mem = s.mem := by cases s; rfl
@[simp] theorem emit_timeNs (s : State) (o : Out) : (s.emit o).timeNs = s.timeNs := by cases s; rfl
@[simp] theorem emit_ticks (s : State) (o : Out) : (s.emit o).ticks = s.ticks := by cases s; rfl
@[simp] theorem emit_boundaries (s : State) (o : Out) : (s.emit o).boundaries = s.boundaries := by cases s; rfl
@[simp] theorem emit_cycles (s : State) (o : Out) : (s.emit o).cycles = s.cycles := by cases s; rfl
@[simp] theorem emit_phase (s : State) (o : Out) : (s.emit o).phase = s.phase := by cases s; rfl
@[simp] theorem emit_appCores (s : State) (o : Out) : (s.emit o).appCores = s.appCores := by cases s; rfl
@[simp] theorem emit_pins (s : State) (o : Out) : (s.emit o).pins = s.pins := by cases s; rfl
@[simp] theorem emit_modes (s : State) (o : Out) : (s.emit o).modes = s.modes := by cases s; rfl
@[simp] theorem emit_proof (s : State) (o : Out) : (s.emit o).proof = s.proof := by cases s; rfl
@[simp] theorem emit_kept (s : State) (o : Out) : (s.emit o).kept = s.kept := by cases s; rfl
@[simp] theorem emit_flash (s : State) (o : Out) : (s.emit o).flash = s.flash := by cases s; rfl
@[simp] theorem emit_routes (s : State) (o : Out) : (s.emit o).routes = s.routes := by cases s; rfl
@[simp] theorem emit_crossbar (s : State) (o : Out) : (s.emit o).crossbar = s.crossbar := by cases s; rfl
@[simp] theorem emit_endpoint (s : State) (o : Out) : (s.emit o).endpoint = s.endpoint := by cases s; rfl
@[simp] theorem emit_tap (s : State) (o : Out) : (s.emit o).tap = s.tap := by cases s; rfl
@[simp] theorem emit_invPending (s : State) (o : Out) : (s.emit o).invPending = s.invPending := by cases s; rfl
@[simp] theorem emit_thresholds (s : State) (o : Out) : (s.emit o).thresholds = s.thresholds := by cases s; rfl
@[simp] theorem emit_slices (s : State) (o : Out) : (s.emit o).slices = s.slices := by cases s; rfl
@[simp] theorem emit_clk (s : State) (o : Out) : (s.emit o).clk = s.clk := by cases s; rfl
@[simp] theorem emit_scans (s : State) (o : Out) : (s.emit o).scans = s.scans := by cases s; rfl
@[simp] theorem emit_channels (s : State) (o : Out) : (s.emit o).channels = s.channels := by cases s; rfl
@[simp] theorem emit_reqBuf (s : State) (o : Out) : (s.emit o).reqBuf = s.reqBuf := by cases s; rfl
@[simp] theorem emit_posts (s : State) (o : Out) : (s.emit o).posts = s.posts := by cases s; rfl
@[simp] theorem emit_hostPort (s : State) (o : Out) : (s.emit o).hostPort = s.hostPort := by cases s; rfl
@[simp] theorem emit_snap (s : State) (o : Out) : (s.emit o).snap = s.snap := by cases s; rfl
@[simp] theorem emit_chans (s : State) (o : Out) : (s.emit o).chans = s.chans := by cases s; rfl
@[simp] theorem emit_outputs (s : State) (o : Out) : (s.emit o).outputs = s.outputs := by cases s; rfl
@[simp] theorem emit_pair (s : State) (o : Out) : (s.emit o).pair = s.pair := by cases s; rfl
@[simp] theorem emit_rings (s : State) (o : Out) : (s.emit o).rings = s.rings := by cases s; rfl
@[simp] theorem emit_tlb (s : State) (o : Out) : (s.emit o).tlb = s.tlb := by cases s; rfl
@[simp] theorem emit_errLog (s : State) (o : Out) : (s.emit o).errLog = s.errLog := by cases s; rfl
@[simp] theorem emit_systems (s : State) (o : Out) : (s.emit o).systems = s.systems := by cases s; rfl
@[simp] theorem emit_sched (s : State) (o : Out) : (s.emit o).sched = s.sched := by cases s; rfl
@[simp] theorem emit_recorder (s : State) (o : Out) : (s.emit o).recorder = s.recorder := by cases s; rfl
@[simp] theorem emit_heads (s : State) (o : Out) : (s.emit o).heads = s.heads := by cases s; rfl
@[simp] theorem emit_chafer (s : State) (o : Out) : (s.emit o).chafer = s.chafer := by cases s; rfl
@[simp] theorem emit_sections (s : State) (o : Out) : (s.emit o).sections = s.sections := by cases s; rfl
@[simp] theorem emit_points (s : State) (o : Out) : (s.emit o).points = s.points := by cases s; rfl
@[simp] theorem emit_counting (s : State) (o : Out) : (s.emit o).counting = s.counting := by cases s; rfl
@[simp] theorem emit_links (s : State) (o : Out) : (s.emit o).links = s.links := by cases s; rfl
@[simp] theorem emit_gens (s : State) (o : Out) : (s.emit o).gens = s.gens := by cases s; rfl
@[simp] theorem emit_bridges (s : State) (o : Out) : (s.emit o).bridges = s.bridges := by cases s; rfl
@[simp] theorem emit_legs (s : State) (o : Out) : (s.emit o).legs = s.legs := by cases s; rfl
@[simp] theorem emit_leaven (s : State) (o : Out) : (s.emit o).leaven = s.leaven := by cases s; rfl
@[simp] theorem emit_strings (s : State) (o : Out) : (s.emit o).strings = s.strings := by cases s; rfl
@[simp] theorem emit_meter (s : State) (o : Out) : (s.emit o).meter = s.meter := by cases s; rfl
@[simp] theorem emit_cans (s : State) (o : Out) : (s.emit o).cans = s.cans := by cases s; rfl
@[simp] theorem emit_ports (s : State) (o : Out) : (s.emit o).ports = s.ports := by cases s; rfl
@[simp] theorem emit_eth (s : State) (o : Out) : (s.emit o).eth = s.eth := by cases s; rfl
@[simp] theorem emit_free (s : State) (o : Out) : (s.emit o).free = s.free := by cases s; rfl
@[simp] theorem emit_pending (s : State) (o : Out) : (s.emit o).pending = s.pending := by cases s; rfl

/-! ### `memWrite` -/

@[simp] theorem memWrite_regs (s : State) (a : Nat) (bs : List Nat) : (s.memWrite a bs).regs = s.regs := by cases s; rfl
@[simp] theorem memWrite_timeNs (s : State) (a : Nat) (bs : List Nat) : (s.memWrite a bs).timeNs = s.timeNs := by cases s; rfl
@[simp] theorem memWrite_ticks (s : State) (a : Nat) (bs : List Nat) : (s.memWrite a bs).ticks = s.ticks := by cases s; rfl
@[simp] theorem memWrite_boundaries (s : State) (a : Nat) (bs : List Nat) : (s.memWrite a bs).boundaries = s.boundaries := by cases s; rfl
@[simp] theorem memWrite_cycles (s : State) (a : Nat) (bs : List Nat) : (s.memWrite a bs).cycles = s.cycles := by cases s; rfl
@[simp] theorem memWrite_phase (s : State) (a : Nat) (bs : List Nat) : (s.memWrite a bs).phase = s.phase := by cases s; rfl
@[simp] theorem memWrite_appCores (s : State) (a : Nat) (bs : List Nat) : (s.memWrite a bs).appCores = s.appCores := by cases s; rfl
@[simp] theorem memWrite_pins (s : State) (a : Nat) (bs : List Nat) : (s.memWrite a bs).pins = s.pins := by cases s; rfl
@[simp] theorem memWrite_modes (s : State) (a : Nat) (bs : List Nat) : (s.memWrite a bs).modes = s.modes := by cases s; rfl
@[simp] theorem memWrite_proof (s : State) (a : Nat) (bs : List Nat) : (s.memWrite a bs).proof = s.proof := by cases s; rfl
@[simp] theorem memWrite_kept (s : State) (a : Nat) (bs : List Nat) : (s.memWrite a bs).kept = s.kept := by cases s; rfl
@[simp] theorem memWrite_flash (s : State) (a : Nat) (bs : List Nat) : (s.memWrite a bs).flash = s.flash := by cases s; rfl
@[simp] theorem memWrite_routes (s : State) (a : Nat) (bs : List Nat) : (s.memWrite a bs).routes = s.routes := by cases s; rfl
@[simp] theorem memWrite_crossbar (s : State) (a : Nat) (bs : List Nat) : (s.memWrite a bs).crossbar = s.crossbar := by cases s; rfl
@[simp] theorem memWrite_endpoint (s : State) (a : Nat) (bs : List Nat) : (s.memWrite a bs).endpoint = s.endpoint := by cases s; rfl
@[simp] theorem memWrite_tap (s : State) (a : Nat) (bs : List Nat) : (s.memWrite a bs).tap = s.tap := by cases s; rfl
@[simp] theorem memWrite_invPending (s : State) (a : Nat) (bs : List Nat) : (s.memWrite a bs).invPending = s.invPending := by cases s; rfl
@[simp] theorem memWrite_thresholds (s : State) (a : Nat) (bs : List Nat) : (s.memWrite a bs).thresholds = s.thresholds := by cases s; rfl
@[simp] theorem memWrite_slices (s : State) (a : Nat) (bs : List Nat) : (s.memWrite a bs).slices = s.slices := by cases s; rfl
@[simp] theorem memWrite_clk (s : State) (a : Nat) (bs : List Nat) : (s.memWrite a bs).clk = s.clk := by cases s; rfl
@[simp] theorem memWrite_scans (s : State) (a : Nat) (bs : List Nat) : (s.memWrite a bs).scans = s.scans := by cases s; rfl
@[simp] theorem memWrite_channels (s : State) (a : Nat) (bs : List Nat) : (s.memWrite a bs).channels = s.channels := by cases s; rfl
@[simp] theorem memWrite_reqBuf (s : State) (a : Nat) (bs : List Nat) : (s.memWrite a bs).reqBuf = s.reqBuf := by cases s; rfl
@[simp] theorem memWrite_posts (s : State) (a : Nat) (bs : List Nat) : (s.memWrite a bs).posts = s.posts := by cases s; rfl
@[simp] theorem memWrite_hostPort (s : State) (a : Nat) (bs : List Nat) : (s.memWrite a bs).hostPort = s.hostPort := by cases s; rfl
@[simp] theorem memWrite_snap (s : State) (a : Nat) (bs : List Nat) : (s.memWrite a bs).snap = s.snap := by cases s; rfl
@[simp] theorem memWrite_chans (s : State) (a : Nat) (bs : List Nat) : (s.memWrite a bs).chans = s.chans := by cases s; rfl
@[simp] theorem memWrite_outputs (s : State) (a : Nat) (bs : List Nat) : (s.memWrite a bs).outputs = s.outputs := by cases s; rfl
@[simp] theorem memWrite_pair (s : State) (a : Nat) (bs : List Nat) : (s.memWrite a bs).pair = s.pair := by cases s; rfl
@[simp] theorem memWrite_rings (s : State) (a : Nat) (bs : List Nat) : (s.memWrite a bs).rings = s.rings := by cases s; rfl
@[simp] theorem memWrite_tlb (s : State) (a : Nat) (bs : List Nat) : (s.memWrite a bs).tlb = s.tlb := by cases s; rfl
@[simp] theorem memWrite_errLog (s : State) (a : Nat) (bs : List Nat) : (s.memWrite a bs).errLog = s.errLog := by cases s; rfl
@[simp] theorem memWrite_systems (s : State) (a : Nat) (bs : List Nat) : (s.memWrite a bs).systems = s.systems := by cases s; rfl
@[simp] theorem memWrite_sched (s : State) (a : Nat) (bs : List Nat) : (s.memWrite a bs).sched = s.sched := by cases s; rfl
@[simp] theorem memWrite_recorder (s : State) (a : Nat) (bs : List Nat) : (s.memWrite a bs).recorder = s.recorder := by cases s; rfl
@[simp] theorem memWrite_heads (s : State) (a : Nat) (bs : List Nat) : (s.memWrite a bs).heads = s.heads := by cases s; rfl
@[simp] theorem memWrite_chafer (s : State) (a : Nat) (bs : List Nat) : (s.memWrite a bs).chafer = s.chafer := by cases s; rfl
@[simp] theorem memWrite_sections (s : State) (a : Nat) (bs : List Nat) : (s.memWrite a bs).sections = s.sections := by cases s; rfl
@[simp] theorem memWrite_points (s : State) (a : Nat) (bs : List Nat) : (s.memWrite a bs).points = s.points := by cases s; rfl
@[simp] theorem memWrite_counting (s : State) (a : Nat) (bs : List Nat) : (s.memWrite a bs).counting = s.counting := by cases s; rfl
@[simp] theorem memWrite_links (s : State) (a : Nat) (bs : List Nat) : (s.memWrite a bs).links = s.links := by cases s; rfl
@[simp] theorem memWrite_gens (s : State) (a : Nat) (bs : List Nat) : (s.memWrite a bs).gens = s.gens := by cases s; rfl
@[simp] theorem memWrite_bridges (s : State) (a : Nat) (bs : List Nat) : (s.memWrite a bs).bridges = s.bridges := by cases s; rfl
@[simp] theorem memWrite_legs (s : State) (a : Nat) (bs : List Nat) : (s.memWrite a bs).legs = s.legs := by cases s; rfl
@[simp] theorem memWrite_leaven (s : State) (a : Nat) (bs : List Nat) : (s.memWrite a bs).leaven = s.leaven := by cases s; rfl
@[simp] theorem memWrite_strings (s : State) (a : Nat) (bs : List Nat) : (s.memWrite a bs).strings = s.strings := by cases s; rfl
@[simp] theorem memWrite_meter (s : State) (a : Nat) (bs : List Nat) : (s.memWrite a bs).meter = s.meter := by cases s; rfl
@[simp] theorem memWrite_cans (s : State) (a : Nat) (bs : List Nat) : (s.memWrite a bs).cans = s.cans := by cases s; rfl
@[simp] theorem memWrite_ports (s : State) (a : Nat) (bs : List Nat) : (s.memWrite a bs).ports = s.ports := by cases s; rfl
@[simp] theorem memWrite_eth (s : State) (a : Nat) (bs : List Nat) : (s.memWrite a bs).eth = s.eth := by cases s; rfl
@[simp] theorem memWrite_out (s : State) (a : Nat) (bs : List Nat) : (s.memWrite a bs).out = s.out := by cases s; rfl
@[simp] theorem memWrite_free (s : State) (a : Nat) (bs : List Nat) : (s.memWrite a bs).free = s.free := by cases s; rfl
@[simp] theorem memWrite_pending (s : State) (a : Nat) (bs : List Nat) : (s.memWrite a bs).pending = s.pending := by cases s; rfl

@[simp] theorem nextFree_free (s : State) : s.nextFree.free = s.free + 1 := by cases s; rfl
@[simp] theorem emit_out (s : State) (o : Out) : (s.emit o).out = o :: s.out := by cases s; rfl
@[simp] theorem memWrite_mem (s : State) (a : Nat) (bs : List Nat) : (s.memWrite a bs).mem = s.mem.writeBytes a bs := by cases s; rfl

end Sys2Proof.Machine
end

