-- ==== Sys2Proof/Laws/Keeps.lean ====
section
/-!
SUPPORT. Operations that leave device memory, the queue of commands and the current mode as they are.
-/
namespace Sys2Proof.Machine

/-- Between two states the memory, the queue and the current mode are the same. -/
def Same (s t : State) : Prop := t.mem = s.mem ∧ t.pending = s.pending ∧ lookup t.regs 128 = lookup s.regs 128

/-- Between two states the queue and the current mode are the same. -/
def SameButMem (s t : State) : Prop := t.pending = s.pending ∧ lookup t.regs 128 = lookup s.regs 128

/-- Between two states the memory and the queue are the same. -/
def SameButMode (s t : State) : Prop := t.mem = s.mem ∧ t.pending = s.pending

/-- Between two states the queue is the same. -/
def SameQueue (s t : State) : Prop := t.pending = s.pending

theorem Same.trans {s t u : State} (h : Same s t) (k : Same t u) : Same s u :=
  ⟨k.1.trans h.1, k.2.1.trans h.2.1, k.2.2.trans h.2.2⟩
theorem SameButMem.trans {s t u : State} (h : SameButMem s t) (k : SameButMem t u) : SameButMem s u :=
  ⟨k.1.trans h.1, k.2.trans h.2⟩
theorem SameButMode.trans {s t u : State} (h : SameButMode s t) (k : SameButMode t u) : SameButMode s u :=
  ⟨k.1.trans h.1, k.2.trans h.2⟩

@[simp] theorem wr_cur (s : State) (f : Fld) (v i : Nat) (h : 128 < f.base * 32 + f.lo) :
    lookup (s.wr f v i).regs 128 = lookup s.regs 128 := by
  refine lookup_insert_ne _ _ ?_
  simp only [Fld.key, Fld.addr]; omega

@[simp] theorem wrFlag_mem (s : State) (f : Fld) (b : Bool) (i : Nat) : (s.wrFlag f b i).mem = s.mem := by cases s; rfl
@[simp] theorem wrS_mem (s : State) (f : Fld) (v : Int) (i : Nat) : (s.wrS f v i).mem = s.mem := by cases s; rfl
@[simp] theorem inc_mem (s : State) (f : Fld) (i : Nat) : (s.inc f i).mem = s.mem := by cases s; rfl
@[simp] theorem clr_mem (s : State) (f : Fld) (i : Nat) : (s.clr f i).mem = s.mem := by cases s; rfl
@[simp] theorem count_mem (s : State) (f : Fld) (i n : Nat) : (s.count f i n).mem = s.mem := by cases s; rfl
@[simp] theorem outcome_mem (s : State) (g v : Fld) (i : Nat) : (s.outcome g v i).mem = s.mem := by cases s; rfl
@[simp] theorem wrTime_mem (s : State) (f0 f1 f2 : Fld) (t i : Nat) : (s.wrTime f0 f1 f2 t i).mem = s.mem := by cases s; rfl

@[simp] theorem wrFlag_pending (s : State) (f : Fld) (b : Bool) (i : Nat) : (s.wrFlag f b i).pending = s.pending := by cases s; rfl
@[simp] theorem wrS_pending (s : State) (f : Fld) (v : Int) (i : Nat) : (s.wrS f v i).pending = s.pending := by cases s; rfl
@[simp] theorem inc_pending (s : State) (f : Fld) (i : Nat) : (s.inc f i).pending = s.pending := by cases s; rfl
@[simp] theorem clr_pending (s : State) (f : Fld) (i : Nat) : (s.clr f i).pending = s.pending := by cases s; rfl
@[simp] theorem count_pending (s : State) (f : Fld) (i n : Nat) : (s.count f i n).pending = s.pending := by cases s; rfl
@[simp] theorem outcome_pending (s : State) (g v : Fld) (i : Nat) : (s.outcome g v i).pending = s.pending := by cases s; rfl
@[simp] theorem wrTime_pending (s : State) (f0 f1 f2 : Fld) (t i : Nat) : (s.wrTime f0 f1 f2 t i).pending = s.pending := by cases s; rfl

@[simp] theorem wrFlag_cur (s : State) (f : Fld) (b : Bool) (i : Nat) (h : 128 < f.base * 32 + f.lo) :
    lookup (s.wrFlag f b i).regs 128 = lookup s.regs 128 := wr_cur _ _ _ _ h
@[simp] theorem wrS_cur (s : State) (f : Fld) (v : Int) (i : Nat) (h : 128 < f.base * 32 + f.lo) :
    lookup (s.wrS f v i).regs 128 = lookup s.regs 128 := wr_cur _ _ _ _ h
@[simp] theorem inc_cur (s : State) (f : Fld) (i : Nat) (h : 128 < f.base * 32 + f.lo) :
    lookup (s.inc f i).regs 128 = lookup s.regs 128 := wr_cur _ _ _ _ h
@[simp] theorem clr_cur (s : State) (f : Fld) (i : Nat) (h : 128 < f.base * 32 + f.lo) :
    lookup (s.clr f i).regs 128 = lookup s.regs 128 := wr_cur _ _ _ _ h
@[simp] theorem count_cur (s : State) (f : Fld) (i n : Nat) (h : 128 < f.base * 32 + f.lo) :
    lookup (s.count f i n).regs 128 = lookup s.regs 128 := wr_cur _ _ _ _ h
@[simp] theorem outcome_cur (s : State) (g v : Fld) (i : Nat) (h : 128 < g.base * 32 + g.lo) (h' : 128 < v.base * 32 + v.lo) :
    lookup (s.outcome g v i).regs 128 = lookup s.regs 128 := (wr_cur _ _ _ _ h').trans (wr_cur _ _ _ _ h)
@[simp] theorem wrTime_cur (s : State) (f0 f1 f2 : Fld) (t i : Nat) (h0 : 128 < f0.base * 32 + f0.lo)
    (h1 : 128 < f1.base * 32 + f1.lo) (h2 : 128 < f2.base * 32 + f2.lo) :
    lookup (s.wrTime f0 f1 f2 t i).regs 128 = lookup s.regs 128 :=
  ((wr_cur _ _ _ _ h2).trans (wr_cur _ _ _ _ h1)).trans (wr_cur _ _ _ _ h0)

@[simp] theorem ite_mem (c : Prop) [Decidable c] (a b : State) : (if c then a else b).mem = if c then a.mem else b.mem := by
  split <;> rfl
@[simp] theorem ite_pending (c : Prop) [Decidable c] (a b : State) :
    (if c then a else b).pending = if c then a.pending else b.pending := by split <;> rfl
@[simp] theorem ite_cur (c : Prop) [Decidable c] (a b : State) :
    lookup (if c then a else b).regs 128 = if c then lookup a.regs 128 else lookup b.regs 128 := by split <;> rfl

@[simp] theorem when_mem (s : State) (b : Bool) (g : State → State) : (s.when b g).mem = if b then (g s).mem else s.mem := by
  cases b <;> rfl
@[simp] theorem when_pending (s : State) (b : Bool) (g : State → State) :
    (s.when b g).pending = if b then (g s).pending else s.pending := by cases b <;> rfl
@[simp] theorem when_cur (s : State) (b : Bool) (g : State → State) :
    lookup (s.when b g).regs 128 = if b then lookup (g s).regs 128 else lookup s.regs 128 := by cases b <;> rfl

@[simp] theorem upTo_mem (s : State) (g : Nat → State → State) (n : Nat) (h : ∀ i t, (g i t).mem = t.mem) :
    (s.upTo g n).mem = s.mem := by induction n <;> simp_all [State.upTo]
@[simp] theorem upTo_pending (s : State) (g : Nat → State → State) (n : Nat) (h : ∀ i t, (g i t).pending = t.pending) :
    (s.upTo g n).pending = s.pending := by induction n <;> simp_all [State.upTo]
@[simp] theorem upTo_cur (s : State) (g : Nat → State → State) (n : Nat)
    (h : ∀ i t, lookup (g i t).regs 128 = lookup t.regs 128) :
    lookup (s.upTo g n).regs 128 = lookup s.regs 128 := by induction n <;> simp_all [State.upTo]
@[simp] theorem each_mem {α : Type} (g : α → State → State) (l : List α) (s : State) (h : ∀ i t, (g i t).mem = t.mem) :
    (State.each g l s).mem = s.mem := by induction l generalizing s <;> simp_all [State.each]
@[simp] theorem each_pending {α : Type} (g : α → State → State) (l : List α) (s : State) (h : ∀ i t, (g i t).pending = t.pending) :
    (State.each g l s).pending = s.pending := by induction l generalizing s <;> simp_all [State.each]
@[simp] theorem each_cur {α : Type} (g : α → State → State) (l : List α) (s : State)
    (h : ∀ i t, lookup (g i t).regs 128 = lookup t.regs 128) :
    lookup (State.each g l s).regs 128 = lookup s.regs 128 := by induction l generalizing s <;> simp_all [State.each]

@[simp] theorem irq_keeps (v : Nat) (s : State) :
    (irq v s).mem = s.mem ∧ (irq v s).pending = s.pending ∧ lookup (irq v s).regs 128 = lookup s.regs 128 := by
  change Same s _
  unfold irq sendMsix
  repeat' split
  all_goals simp +decide [Same]

end Sys2Proof.Machine
end

