-- ==== Sys2Proof/Laws/KeepsOps.lean ====
section
/-!
SUPPORT. What the operations of `Machine/Ops.lean` leave alone: device memory, the queue of commands, the current mode.
-/
namespace Sys2Proof.Machine

@[simp] theorem sendMsix_keeps (v : Nat) (s : State) :
    (sendMsix v s).mem = s.mem ∧ (sendMsix v s).pending = s.pending ∧ lookup (sendMsix v s).regs 128 = lookup s.regs 128 := by
  simp +decide [sendMsix]

@[simp] theorem accessError_keeps (req : Requester) (ty : AccErr) (write : Bool) (addr : Nat) (s : State) :
    (accessError req ty write addr s).mem = s.mem ∧ (accessError req ty write addr s).pending = s.pending ∧ lookup (accessError req ty write addr s).regs 128 = lookup s.regs 128 := by
  simp +decide [accessError]

end Sys2Proof.Machine
end

