-- ==== Sys2Proof/Laws/KeepsSopTerms.lean ====
section
/-!
SUPPORT. What the operations of `Machine/SopTerms.lean` leave alone: device memory, the queue of commands, the current mode.
-/
namespace Sys2Proof.Machine

@[simp] theorem modChan_keeps (s : State) (o : Nat) (f : OutChannel → OutChannel) :
    (State.modChan s o f).mem = s.mem ∧ (State.modChan s o f).pending = s.pending ∧ lookup (State.modChan s o f).regs 128 = lookup s.regs 128 := by
  simp +decide [State.modChan]

end Sys2Proof.Machine
end

