-- ==== Sys2Proof/Laws/KeepsSnap.lean ====
section
/-!
SUPPORT. What the operations of `Machine/Snap.lean` leave alone: device memory, the queue of commands, the current mode.
-/
namespace Sys2Proof.Machine

@[simp] theorem recFreeze_keeps (s : State) :
    (recFreeze s).mem = s.mem ∧ (recFreeze s).pending = s.pending ∧ lookup (recFreeze s).regs 128 = lookup s.regs 128 := by
  simp +decide [recFreeze]

@[simp] theorem recPost_keeps (n : Nat) (trigger : Option Nat) (s : State) :
    (recPost n trigger s).mem = s.mem ∧ (recPost n trigger s).pending = s.pending ∧ lookup (recPost n trigger s).regs 128 = lookup s.regs 128 := by
  simp +decide [recPost]

@[simp] theorem recTrigger_keeps (s : State) :
    (recTrigger s).mem = s.mem ∧ (recTrigger s).pending = s.pending ∧ lookup (recTrigger s).regs 128 = lookup s.regs 128 := by
  simp +decide [recTrigger]

@[simp] theorem snapLatch_keeps (src code block : Nat) (merged : Bool) (s : State) :
    (snapLatch src code block merged s).mem = s.mem ∧ (snapLatch src code block merged s).pending = s.pending ∧ lookup (snapLatch src code block merged s).regs 128 = lookup s.regs 128 := by
  simp +decide [snapLatch]

@[simp] theorem snapMissed_keeps (src : Nat) (s : State) :
    (snapMissed src s).mem = s.mem ∧ (snapMissed src s).pending = s.pending ∧ lookup (snapMissed src s).regs 128 = lookup s.regs 128 := by
  simp +decide [snapMissed]

@[simp] theorem snapMerge_keeps (first src code block : Nat) (s : State) :
    (snapMerge first src code block s).mem = s.mem ∧ (snapMerge first src code block s).pending = s.pending ∧ lookup (snapMerge first src code block s).regs 128 = lookup s.regs 128 := by
  simp +decide [snapMerge]

@[simp] theorem crumb_keeps (src code block : Nat) (s : State) :
    (crumb src code block s).mem = s.mem ∧ (crumb src code block s).pending = s.pending ∧ lookup (crumb src code block s).regs 128 = lookup s.regs 128 := by
  change Same s _
  unfold crumb
  dsimp only
  repeat' split
  all_goals simp +decide [Same]

@[simp] theorem snapRead_keeps (i : Nat) (s : State) :
    (snapRead i s).mem = s.mem ∧ (snapRead i s).pending = s.pending ∧ lookup (snapRead i s).regs 128 = lookup s.regs 128 := by
  simp +decide [snapRead]

@[simp] theorem snapUnlock_keeps (s : State) :
    (snapUnlock s).mem = s.mem ∧ (snapUnlock s).pending = s.pending ∧ lookup (snapUnlock s).regs 128 = lookup s.regs 128 := by
  simp +decide [snapUnlock]

@[simp] theorem snapDisarm_keeps (s : State) :
    (snapDisarm s).mem = s.mem ∧ (snapDisarm s).pending = s.pending ∧ lookup (snapDisarm s).regs 128 = lookup s.regs 128 := by
  simp +decide [snapDisarm]

@[simp] theorem snapArm_keeps (t : Nat) (s : State) :
    (snapArm t s).mem = s.mem ∧ (snapArm t s).pending = s.pending ∧ lookup (snapArm t s).regs 128 = lookup s.regs 128 := by
  simp +decide [snapArm]

@[simp] theorem snapTimeMatch_keeps (s : State) :
    (snapTimeMatch s).mem = s.mem ∧ (snapTimeMatch s).pending = s.pending ∧ lookup (snapTimeMatch s).regs 128 = lookup s.regs 128 := by
  change Same s _
  unfold snapTimeMatch
  repeat' split
  all_goals simp +decide [Same]

end Sys2Proof.Machine
end

