-- ==== Sys2Proof/Laws/KeepsSopTests.lean ====
section
/-!
SUPPORT. What the operations of `Machine/SopTests.lean` leave alone: device memory, the queue of commands, the current mode.
-/
namespace Sys2Proof.Machine

@[simp] theorem noteGatesAt_keeps (tick o : Nat) (s : State) :
    (noteGatesAt tick o s).mem = s.mem ∧ (noteGatesAt tick o s).pending = s.pending ∧ lookup (noteGatesAt tick o s).regs 128 = lookup s.regs 128 := by
  simp +decide [noteGatesAt]

@[simp] theorem noteGates_keeps (o : Nat) (s : State) :
    (noteGates o s).mem = s.mem ∧ (noteGates o s).pending = s.pending ∧ lookup (noteGates o s).regs 128 = lookup s.regs 128 := by
  simp +decide [noteGates]

@[simp] theorem breakPulse_keeps (o : Nat) (s : State) :
    (breakPulse o s).mem = s.mem ∧ (breakPulse o s).pending = s.pending ∧ lookup (breakPulse o s).regs 128 = lookup s.regs 128 := by
  simp +decide [breakPulse]

@[simp] theorem breakPulses_keeps (s : State) :
    (breakPulses s).mem = s.mem ∧ (breakPulses s).pending = s.pending ∧ lookup (breakPulses s).regs 128 = lookup s.regs 128 := by
  simp +decide [breakPulses]

@[simp] theorem sopProofEnd_keeps (o : Nat) (s : State) :
    (sopProofEnd o s).mem = s.mem ∧ (sopProofEnd o s).pending = s.pending ∧ lookup (sopProofEnd o s).regs 128 = lookup s.regs 128 := by
  simp +decide [sopProofEnd]

@[simp] theorem barUnused_keeps (o : Nat) (s : State) :
    (barUnused o s).mem = s.mem ∧ (barUnused o s).pending = s.pending ∧ lookup (barUnused o s).regs 128 = lookup s.regs 128 := by
  simp +decide [barUnused]

@[simp] theorem outTestFinish_keeps (o kind result : Nat) (next : OutTestKind) (s : State) :
    (outTestFinish o kind result next s).mem = s.mem ∧ (outTestFinish o kind result next s).pending = s.pending ∧ lookup (outTestFinish o kind result next s).regs 128 = lookup s.regs 128 := by
  simp +decide [outTestFinish]

@[simp] theorem outTestCompleted_keeps (o : Nat) (s : State) :
    (outTestCompleted o s).mem = s.mem ∧ (outTestCompleted o s).pending = s.pending ∧ lookup (outTestCompleted o s).regs 128 = lookup s.regs 128 := by
  simp +decide [outTestCompleted]

@[simp] theorem deferSplitTest_keeps (o : Nat) (s : State) :
    (deferSplitTest o s).mem = s.mem ∧ (deferSplitTest o s).pending = s.pending ∧ lookup (deferSplitTest o s).regs 128 = lookup s.regs 128 := by
  simp +decide [deferSplitTest]

@[simp] theorem outTestAbandon_keeps (demand : Bool) (o : Nat) (s : State) :
    (outTestAbandon demand o s).mem = s.mem ∧ (outTestAbandon demand o s).pending = s.pending ∧ lookup (outTestAbandon demand o s).regs 128 = lookup s.regs 128 := by
  change Same s _
  unfold outTestAbandon
  repeat' split
  all_goals simp +decide [Same]

@[simp] theorem abandonAllTests_keeps (s : State) :
    (abandonAllTests s).mem = s.mem ∧ (abandonAllTests s).pending = s.pending ∧ lookup (abandonAllTests s).regs 128 = lookup s.regs 128 := by
  simp +decide [abandonAllTests]

@[simp] theorem lockChannel_keeps (o code : Nat) (s : State) :
    (lockChannel o code s).mem = s.mem ∧ (lockChannel o code s).pending = s.pending ∧ lookup (lockChannel o code s).regs 128 = lookup s.regs 128 := by
  simp +decide [lockChannel]

end Sys2Proof.Machine
end

