-- ==== Sys2Proof/Laws/KeepsCauses.lean ====
section
/-!
SUPPORT. What the operations of `Machine/Causes.lean` leave alone: device memory, the queue of commands, the current mode.
-/
namespace Sys2Proof.Machine

@[simp] theorem writeCauseRecord_keeps (v m i b k t1 t2 t3 : Fld) (c : Cause) (s : State) :
    (writeCauseRecord v m i b k t1 t2 t3 c s).mem = s.mem ∧ (writeCauseRecord v m i b k t1 t2 t3 c s).pending = s.pending := by
  simp [writeCauseRecord]

@[simp] theorem writeLast_keeps (c : Cause) (s : State) :
    (writeLast c s).mem = s.mem ∧ (writeLast c s).pending = s.pending
      ∧ lookup (writeLast c s).regs 128 = lookup s.regs 128 := by
  simp +decide [writeLast, writeCauseRecord]

@[simp] theorem writeHold_keeps (c : Cause) (s : State) :
    (writeHold c s).mem = s.mem ∧ (writeHold c s).pending = s.pending
      ∧ lookup (writeHold c s).regs 128 = lookup s.regs 128 := by
  simp +decide [writeHold, writeCauseRecord]

@[simp] theorem setCauseBit_keeps (code : Nat) (s : State) :
    (setCauseBit code s).mem = s.mem ∧ (setCauseBit code s).pending = s.pending ∧ lookup (setCauseBit code s).regs 128 = lookup s.regs 128 := by
  simp +decide [setCauseBit]

@[simp] theorem recordCause_keeps (c : Cause) (s : State) :
    (recordCause c s).mem = s.mem ∧ (recordCause c s).pending = s.pending ∧ lookup (recordCause c s).regs 128 = lookup s.regs 128 := by
  simp +decide [recordCause]

@[simp] theorem noteHold_keeps (c : Cause) (s : State) :
    (noteHold c s).mem = s.mem ∧ (noteHold c s).pending = s.pending ∧ lookup (noteHold c s).regs 128 = lookup s.regs 128 := by
  simp +decide [noteHold]

@[simp] theorem noteInHold_keeps (s : State) :
    (noteInHold s).mem = s.mem ∧ (noteInHold s).pending = s.pending ∧ lookup (noteInHold s).regs 128 = lookup s.regs 128 := by
  simp +decide [noteInHold]

@[simp] theorem holdCause_keeps (c : Cause) (s : State) :
    (holdCause c s).mem = s.mem ∧ (holdCause c s).pending = s.pending ∧ lookup (holdCause c s).regs 128 = lookup s.regs 128 := by
  change Same s _
  unfold holdCause
  dsimp only
  repeat' split
  all_goals simp +decide [Same]

@[simp] theorem raiseHold_keeps (c : Cause) (s : State) :
    (raiseHold c s).mem = s.mem ∧ (raiseHold c s).pending = s.pending ∧ lookup (raiseHold c s).regs 128 = lookup s.regs 128 := by
  simp +decide [raiseHold]

@[simp] theorem proofFailure_keeps (c : Cause) (s : State) :
    (proofFailure c s).mem = s.mem ∧ (proofFailure c s).pending = s.pending ∧ lookup (proofFailure c s).regs 128 = lookup s.regs 128 := by
  simp +decide [proofFailure]

@[simp] theorem crumbEvent_keeps (enable : Fld) (of : Reg) (s : State) :
    (crumbEvent enable of s).mem = s.mem ∧ (crumbEvent enable of s).pending = s.pending ∧ lookup (crumbEvent enable of s).regs 128 = lookup s.regs 128 := by
  simp +decide [crumbEvent]

end Sys2Proof.Machine
end

