-- ==== Sys2Proof/Laws/KeepsChannel.lean ====
section
/-!
SUPPORT. What the operations of `Machine/Channel.lean` leave alone: device memory, the queue of commands, the current mode.
-/
namespace Sys2Proof.Machine

@[simp] theorem modChannel_keeps (s : State) (ch : Nat) (f : Channel → Channel) :
    (State.modChannel s ch f).mem = s.mem ∧ (State.modChannel s ch f).pending = s.pending ∧ lookup (State.modChannel s ch f).regs 128 = lookup s.regs 128 := by
  simp +decide [State.modChannel]

theorem statGen_far (ch : Nat) : 128 < (statGen ch).base * 32 + (statGen ch).lo := by unfold statGen; split <;> decide
theorem statValid_far (ch : Nat) : 128 < (statValid ch).base * 32 + (statValid ch).lo := by unfold statValid; split <;> decide
theorem statPending_far (ch : Nat) : 128 < (statPending ch).base * 32 + (statPending ch).lo := by unfold statPending; split <;> decide
theorem statBusy_far (ch : Nat) : 128 < (statBusy ch).base * 32 + (statBusy ch).lo := by unfold statBusy; split <;> decide

@[simp] theorem respond_keeps (ch : Nat) (st : Status) (reason : Nat) (payload : List Nat) (s : State) :
    (respond ch st reason payload s).mem = s.mem ∧ (respond ch st reason payload s).pending = s.pending
      ∧ lookup (respond ch st reason payload s).regs 128 = lookup s.regs 128 := by
  change Same s _
  unfold respond
  repeat' split
  all_goals simp +decide [Same, State.modChannel, statGen_far, statValid_far, statPending_far]

@[simp] theorem postRequest_keeps (ch : Nat) (bytes : List Nat) (s : State) :
    (postRequest ch bytes s).mem = s.mem ∧ (postRequest ch bytes s).pending = s.pending
      ∧ lookup (postRequest ch bytes s).regs 128 = lookup s.regs 128 := by
  change Same s _
  unfold postRequest
  repeat' split
  all_goals simp +decide [Same, State.modChannel, statBusy_far, statValid_far, statPending_far]

end Sys2Proof.Machine
end

