-- ==== Sys2Proof/Laws/KeepsIommu.lean ====
section
/-!
SUPPORT. What the operations of `Machine/Iommu.lean` leave alone: device memory, the queue of commands, the current mode.
-/
namespace Sys2Proof.Machine

@[simp] theorem logMemError_keeps (mem kind req syms addr : Nat) (s : State) :
    (logMemError mem kind req syms addr s).mem = s.mem ∧ (logMemError mem kind req syms addr s).pending = s.pending ∧ lookup (logMemError mem kind req syms addr s).regs 128 = lookup s.regs 128 := by
  simp +decide [logMemError]

@[simp] theorem errLogRead_keeps (pop : Bool) (s : State) :
    ((errLogRead pop s).1).mem = s.mem ∧ ((errLogRead pop s).1).pending = s.pending ∧ lookup ((errLogRead pop s).1).regs 128 = lookup s.regs 128 := by
  change Same s _
  unfold errLogRead
  repeat' split
  all_goals simp +decide [Same]

@[simp] theorem uncorrectable_keeps (addr logReq index : Nat) (s : State) :
    (uncorrectable addr logReq index s).mem = s.mem ∧ (uncorrectable addr logReq index s).pending = s.pending ∧ lookup (uncorrectable addr logReq index s).regs 128 = lookup s.regs 128 := by
  simp +decide [uncorrectable]

@[simp] theorem correctedRead_keeps (addr logReq syms : Nat) (s : State) :
    (correctedRead addr logReq syms s).mem = s.mem ∧ (correctedRead addr logReq syms s).pending = s.pending ∧ lookup (correctedRead addr logReq syms s).regs 128 = lookup s.regs 128 := by
  simp +decide [correctedRead]

@[simp] theorem corrections_keeps (f : MemFound) (logReq a n : Nat) (s : State) :
    (corrections f logReq a n s).mem = s.mem ∧ (corrections f logReq a n s).pending = s.pending ∧ lookup (corrections f logReq a n s).regs 128 = lookup s.regs 128 := by
  simp +decide [corrections]

@[simp] theorem damages_keeps (f : MemFound) (logReq index a n : Nat) (s : State) :
    (damages f logReq index a n s).mem = s.mem ∧ (damages f logReq index a n s).pending = s.pending ∧ lookup (damages f logReq index a n s).regs 128 = lookup s.regs 128 := by
  simp +decide [damages]

@[simp] theorem storeWords_keeps (f : MemFound) (lr i n a : Nat) (bs : List Nat) (s : State) :
    (storeWords f lr i n a bs s).pending = s.pending ∧ lookup (storeWords f lr i n a bs s).regs 128 = lookup s.regs 128 := by
  induction n generalizing a bs s with
  | zero => simp [storeWords]
  | succ n ih =>
    change SameButMem s _
    unfold storeWords
    dsimp only
    repeat' split
    all_goals simp [SameButMem, ih]

@[simp] theorem storeBytes_keeps (f : MemFound) (logReq index a : Nat) (bs : List Nat) (s : State) :
    (storeBytes f logReq index a bs s).pending = s.pending ∧ lookup (storeBytes f logReq index a bs s).regs 128 = lookup s.regs 128 := by
  simp +decide [storeBytes]

@[simp] theorem countFault_keeps (t : Trans) (s : State) :
    (countFault t s).mem = s.mem ∧ (countFault t s).pending = s.pending ∧ lookup (countFault t s).regs 128 = lookup s.regs 128 := by
  change Same s _
  unfold countFault
  repeat' split
  all_goals simp +decide [Same]

@[simp] theorem translateMiss_keeps (dom : Nat) (write : Bool) (iova : Nat) (s : State) :
    ((translateMiss dom write iova s).1).mem = s.mem ∧ ((translateMiss dom write iova s).1).pending = s.pending ∧ lookup ((translateMiss dom write iova s).1).regs 128 = lookup s.regs 128 := by
  change Same s _
  unfold translateMiss
  dsimp only
  repeat' split
  all_goals simp +decide [Same]

@[simp] theorem translate_keeps (dom : Nat) (write : Bool) (iova : Nat) (s : State) :
    ((translate dom write iova s).1).mem = s.mem ∧ ((translate dom write iova s).1).pending = s.pending ∧ lookup ((translate dom write iova s).1).regs 128 = lookup s.regs 128 := by
  change Same s _
  unfold translate
  dsimp only
  repeat' split
  all_goals simp +decide [Same]

@[simp] theorem iommuInvalidate_keeps (scope dom iova : Nat) (s : State) :
    (iommuInvalidate scope dom iova s).mem = s.mem ∧ (iommuInvalidate scope dom iova s).pending = s.pending ∧ lookup (iommuInvalidate scope dom iova s).regs 128 = lookup s.regs 128 := by
  simp +decide [iommuInvalidate]

@[simp] theorem invComplete_keeps (s : State) :
    (invComplete s).mem = s.mem ∧ (invComplete s).pending = s.pending ∧ lookup (invComplete s).regs 128 = lookup s.regs 128 := by
  simp +decide [invComplete]

@[simp] theorem invGoesOn_keeps (s : State) :
    (invGoesOn s).mem = s.mem ∧ (invGoesOn s).pending = s.pending ∧ lookup (invGoesOn s).regs 128 = lookup s.regs 128 := by
  simp +decide [invGoesOn]

end Sys2Proof.Machine
end

