-- ==== Sys2Proof/Laws/KeepsChk.lean ====
section
/-!
SUPPORT. What the operations of `Machine/Chk.lean` leave alone: device memory, the queue of commands, the current mode.
-/
namespace Sys2Proof.Machine

@[simp] theorem modScan_keeps (s : State) (b : Nat) (f : Scan → Scan) :
    (State.modScan s b f).mem = s.mem ∧ (State.modScan s b f).pending = s.pending ∧ lookup (State.modScan s b f).regs 128 = lookup s.regs 128 := by
  simp +decide [State.modScan]

@[simp] theorem chkCommit_keeps (b status ack tag susp : Nat) (delayed : Bool) (s : State) :
    (chkCommit b status ack tag susp delayed s).mem = s.mem ∧ (chkCommit b status ack tag susp delayed s).pending = s.pending ∧ lookup (chkCommit b status ack tag susp delayed s).regs 128 = lookup s.regs 128 := by
  simp +decide [chkCommit]

@[simp] theorem enterBytes_keeps (b n : Nat) (s : State) :
    (enterBytes b n s).mem = s.mem ∧ (enterBytes b n s).pending = s.pending ∧ lookup (enterBytes b n s).regs 128 = lookup s.regs 128 := by
  simp +decide [enterBytes]

@[simp] theorem scanOn_keeps (b : Nat) (s : State) :
    (scanOn b s).mem = s.mem ∧ (scanOn b s).pending = s.pending ∧ lookup (scanOn b s).regs 128 = lookup s.regs 128 := by
  simp +decide [scanOn]

@[simp] theorem suspendA_keeps (s : State) :
    (suspendA s).mem = s.mem ∧ (suspendA s).pending = s.pending ∧ lookup (suspendA s).regs 128 = lookup s.regs 128 := by
  simp +decide [suspendA]

@[simp] theorem chkResume_keeps (b : Nat) (s : State) :
    (chkResume b s).mem = s.mem ∧ (chkResume b s).pending = s.pending ∧ lookup (chkResume b s).regs 128 = lookup s.regs 128 := by
  simp +decide [chkResume]

@[simp] theorem scanBegin_keeps (b : Nat) (kind : ScanKind) (addr len tag : Nat) (queue : List ScanRange) (s : State) :
    (scanBegin b kind addr len tag queue s).mem = s.mem ∧ (scanBegin b kind addr len tag queue s).pending = s.pending ∧ lookup (scanBegin b kind addr len tag queue s).regs 128 = lookup s.regs 128 := by
  simp +decide [scanBegin]

@[simp] theorem seqNext_keeps (b : Nat) (s : State) :
    (seqNext b s).mem = s.mem ∧ (seqNext b s).pending = s.pending ∧ lookup (seqNext b s).regs 128 = lookup s.regs 128 := by
  change Same s _
  unfold seqNext
  repeat' split
  all_goals simp +decide [Same]

@[simp] theorem chkEnd_keeps (b status ack susp n : Nat) (s : State) :
    (chkEnd b status ack susp n s).mem = s.mem ∧ (chkEnd b status ack susp n s).pending = s.pending ∧ lookup (chkEnd b status ack susp n s).regs 128 = lookup s.regs 128 := by
  simp +decide [chkEnd]

@[simp] theorem scanEnd_keeps (b susp : Nat) (f : MemFound) (s : State) :
    (scanEnd b susp f s).mem = s.mem ∧ (scanEnd b susp f s).pending = s.pending ∧ lookup (scanEnd b susp f s).regs 128 = lookup s.regs 128 := by
  change Same s _
  unfold scanEnd
  dsimp only
  repeat' split
  all_goals simp +decide [Same]

@[simp] theorem seqStart_keeps (b : Nat) (rs : List ScanRange) (s : State) :
    (seqStart b rs s).mem = s.mem ∧ (seqStart b rs s).pending = s.pending ∧ lookup (seqStart b rs s).regs 128 = lookup s.regs 128 := by
  simp +decide [seqStart]

@[simp] theorem seqStep_keeps (b : Nat) (f : MemFound) (s : State) :
    (seqStep b f s).mem = s.mem ∧ (seqStep b f s).pending = s.pending ∧ lookup (seqStep b f s).regs 128 = lookup s.regs 128 := by
  simp +decide [seqStep]

@[simp] theorem seqFinish_keeps (b : Nat) (f : MemFound) (n : Nat) (s : State) :
    (seqFinish b f n s).mem = s.mem ∧ (seqFinish b f n s).pending = s.pending
      ∧ lookup (seqFinish b f n s).regs 128 = lookup s.regs 128 := by
  induction n generalizing s with
  | zero => simp [seqFinish]
  | succ n ih => simp [seqFinish, ih]

@[simp] theorem seqStop_keeps (b status ack : Nat) (s : State) :
    (seqStop b status ack s).mem = s.mem ∧ (seqStop b status ack s).pending = s.pending ∧ lookup (seqStop b status ack s).regs 128 = lookup s.regs 128 := by
  simp +decide [seqStop]

@[simp] theorem bankGoesOn_keeps (b : Nat) (s : State) :
    (bankGoesOn b s).mem = s.mem ∧ (bankGoesOn b s).pending = s.pending ∧ lookup (bankGoesOn b s).regs 128 = lookup s.regs 128 := by
  simp +decide [bankGoesOn]

@[simp] theorem scansGoOn_keeps (s : State) :
    (scansGoOn s).mem = s.mem ∧ (scansGoOn s).pending = s.pending ∧ lookup (scansGoOn s).regs 128 = lookup s.regs 128 := by
  simp +decide [scansGoOn]

@[simp] theorem fabTake_keeps (i : Nat) (s : State) :
    (fabTake i s).mem = s.mem ∧ (fabTake i s).pending = s.pending ∧ lookup (fabTake i s).regs 128 = lookup s.regs 128 := by
  change Same s _
  unfold fabTake
  repeat' split
  all_goals simp +decide [Same]

@[simp] theorem fabWaits_keeps (s : State) :
    (fabWaits s).mem = s.mem ∧ (fabWaits s).pending = s.pending ∧ lookup (fabWaits s).regs 128 = lookup s.regs 128 := by
  simp +decide [fabWaits]

@[simp] theorem chkRefuse_keeps (b tag : Nat) (s : State) :
    (chkRefuse b tag s).mem = s.mem ∧ (chkRefuse b tag s).pending = s.pending ∧ lookup (chkRefuse b tag s).regs 128 = lookup s.regs 128 := by
  simp +decide [chkRefuse]

@[simp] theorem chkEmpty_keeps (b tag : Nat) (s : State) :
    (chkEmpty b tag s).mem = s.mem ∧ (chkEmpty b tag s).pending = s.pending ∧ lookup (chkEmpty b tag s).regs 128 = lookup s.regs 128 := by
  simp +decide [chkEmpty]

@[simp] theorem chkGo_keeps (b tag start : Nat) (s : State) :
    (chkGo b tag start s).mem = s.mem ∧ (chkGo b tag start s).pending = s.pending ∧ lookup (chkGo b tag start s).regs 128 = lookup s.regs 128 := by
  simp +decide [chkGo]

@[simp] theorem chkComplete_keeps (b susp : Nat) (f : MemFound) (s : State) :
    (chkComplete b susp f s).mem = s.mem ∧ (chkComplete b susp f s).pending = s.pending ∧ lookup (chkComplete b susp f s).regs 128 = lookup s.regs 128 := by
  simp +decide [chkComplete]

@[simp] theorem chkAbort_keeps (b n susp : Nat) (s : State) :
    (chkAbort b n susp s).mem = s.mem ∧ (chkAbort b n susp s).pending = s.pending ∧ lookup (chkAbort b n susp s).regs 128 = lookup s.regs 128 := by
  simp +decide [chkAbort]

@[simp] theorem itemFourScans_keeps (slot : Nat) (s : State) :
    (itemFourScans slot s).mem = s.mem ∧ (itemFourScans slot s).pending = s.pending ∧ lookup (itemFourScans slot s).regs 128 = lookup s.regs 128 := by
  simp +decide [itemFourScans]

@[simp] theorem itemFiveScans_keeps (slot : Nat) (s : State) :
    (itemFiveScans slot s).mem = s.mem ∧ (itemFiveScans slot s).pending = s.pending ∧ lookup (itemFiveScans slot s).regs 128 = lookup s.regs 128 := by
  simp +decide [itemFiveScans]

@[simp] theorem imageScan_keeps (s : State) :
    (imageScan s).mem = s.mem ∧ (imageScan s).pending = s.pending ∧ lookup (imageScan s).regs 128 = lookup s.regs 128 := by
  simp +decide [imageScan]

@[simp] theorem katWrong_keeps (s : State) :
    (katWrong s).mem = s.mem ∧ (katWrong s).pending = s.pending ∧ lookup (katWrong s).regs 128 = lookup s.regs 128 := by
  simp +decide [katWrong]

@[simp] theorem bankSEnd_keeps (f : MemFound) (s : State) :
    (bankSEnd f s).mem = s.mem ∧ (bankSEnd f s).pending = s.pending ∧ lookup (bankSEnd f s).regs 128 = lookup s.regs 128 := by
  simp +decide [bankSEnd]

@[simp] theorem bankSStop_keeps (s : State) :
    (bankSStop s).mem = s.mem ∧ (bankSStop s).pending = s.pending ∧ lookup (bankSStop s).regs 128 = lookup s.regs 128 := by
  simp +decide [bankSStop]

end Sys2Proof.Machine
end

