-- ==== Sys2Proof/Laws/KeepsFlash.lean ====
section
/-!
SUPPORT. What the operations of `Machine/Flash.lean` leave alone: device memory, the queue of commands, the current mode.
-/
namespace Sys2Proof.Machine

@[simp] theorem flashResult_keeps (st : FlashStatus) (s : State) :
    (flashResult st s).mem = s.mem ∧ (flashResult st s).pending = s.pending ∧ lookup (flashResult st s).regs 128 = lookup s.regs 128 := by
  simp +decide [flashResult]

@[simp] theorem flashStart_keeps (op : Nat) (unlock : Bool) (s : State) :
    (flashStart op unlock s).mem = s.mem ∧ (flashStart op unlock s).pending = s.pending ∧ lookup (flashStart op unlock s).regs 128 = lookup s.regs 128 := by
  change Same s _
  unfold flashStart
  dsimp only
  repeat' split
  all_goals simp +decide [Same]

@[simp] theorem flashAbort_keeps (s : State) :
    (flashAbort s).mem = s.mem ∧ (flashAbort s).pending = s.pending ∧ lookup (flashAbort s).regs 128 = lookup s.regs 128 := by
  simp +decide [flashAbort]

@[simp] theorem touchSector_keeps (erase : Bool) (i k : Nat) (s : State) :
    (touchSector erase i k s).mem = s.mem ∧ (touchSector erase i k s).pending = s.pending ∧ lookup (touchSector erase i k s).regs 128 = lookup s.regs 128 := by
  simp +decide [touchSector]

@[simp] theorem touchOffset_keeps (erase : Bool) (off : Nat) (s : State) :
    (touchOffset erase off s).mem = s.mem ∧ (touchOffset erase off s).pending = s.pending ∧ lookup (touchOffset erase off s).regs 128 = lookup s.regs 128 := by
  simp +decide [touchOffset]

@[simp] theorem flashClear_keeps (off n : Nat) (s : State) :
    (flashClear off n s).pending = s.pending ∧ lookup (flashClear off n s).regs 128 = lookup s.regs 128 := by
  simp +decide [flashClear]

@[simp] theorem eraseSectors_keeps (off n : Nat) (s : State) :
    (eraseSectors off n s).pending = s.pending ∧ lookup (eraseSectors off n s).regs 128 = lookup s.regs 128 := by
  induction n generalizing s with
  | zero => simp [eraseSectors]
  | succ n ih => simp [eraseSectors, ih]

@[simp] theorem programPages_keeps (src off u : Nat) (v : Bool) (n : Nat) (s : State) :
    (programPages src off u v n s).pending = s.pending ∧ lookup (programPages src off u v n s).regs 128 = lookup s.regs 128 := by
  induction n generalizing s with
  | zero => simp [programPages]
  | succ n ih => cases v <;> simp [programPages, ih]

@[simp] theorem checkSlot_keeps (i : Nat) (f : MemFound) (s : State) :
    (checkSlot i f s).mem = s.mem ∧ (checkSlot i f s).pending = s.pending ∧ lookup (checkSlot i f s).regs 128 = lookup s.regs 128 := by
  simp +decide [checkSlot]

@[simp] theorem flashEffect_keeps (f : FlashOp) (n : Nat) (e : FlashEnding) (s : State) :
    (flashEffect f n e s).pending = s.pending ∧ lookup (flashEffect f n e s).regs 128 = lookup s.regs 128 := by
  simp +decide [flashEffect]

@[simp] theorem flashEnd_keeps (st : FlashStatus) (ack : Nat) (s : State) :
    (flashEnd st ack s).mem = s.mem ∧ (flashEnd st ack s).pending = s.pending ∧ lookup (flashEnd st ack s).regs 128 = lookup s.regs 128 := by
  simp +decide [flashEnd]

@[simp] theorem flashComplete_keeps (units : Nat) (e : FlashEnding) (s : State) :
    (flashComplete units e s).pending = s.pending ∧ lookup (flashComplete units e s).regs 128 = lookup s.regs 128 := by
  simp +decide [flashComplete]

@[simp] theorem flashInterrupt_keeps (s : State) :
    (flashInterrupt s).pending = s.pending ∧ lookup (flashInterrupt s).regs 128 = lookup s.regs 128 := by
  simp +decide [flashInterrupt]

end Sys2Proof.Machine
end

