-- ==== Sys2Proof/Laws/KeepsRings.lean ====
section
/-!
SUPPORT. What the operations of `Machine/Rings.lean` leave alone: device memory, the queue of commands, the current mode.
-/
namespace Sys2Proof.Machine

@[simp] theorem modRing_keeps (s : State) (r : Nat) (f : Ring → Ring) :
    (State.modRing s r f).mem = s.mem ∧ (State.modRing s r f).pending = s.pending ∧ lookup (State.modRing s r f).regs 128 = lookup s.regs 128 := by
  simp +decide [State.modRing]

@[simp] theorem ringGo_keeps (r st : Nat) (s : State) :
    (ringGo r st s).mem = s.mem ∧ (ringGo r st s).pending = s.pending ∧ lookup (ringGo r st s).regs 128 = lookup s.regs 128 := by
  simp +decide [ringGo]

@[simp] theorem ringResult_keeps (r : Nat) (ok : Bool) (s : State) :
    (ringResult r ok s).mem = s.mem ∧ (ringResult r ok s).pending = s.pending ∧ lookup (ringResult r ok s).regs 128 = lookup s.regs 128 := by
  simp +decide [ringResult]

@[simp] theorem completionIrq_keeps (r : Nat) (d : Desc) (s : State) :
    (completionIrq r d s).mem = s.mem ∧ (completionIrq r d s).pending = s.pending ∧ lookup (completionIrq r d s).regs 128 = lookup s.regs 128 := by
  simp +decide [completionIrq]

@[simp] theorem countOutcome_keeps (r outcome reason : Nat) (s : State) :
    (countOutcome r outcome reason s).mem = s.mem ∧ (countOutcome r outcome reason s).pending = s.pending ∧ lookup (countOutcome r outcome reason s).regs 128 = lookup s.regs 128 := by
  simp +decide [countOutcome]

@[simp] theorem ringStopDue_keeps (r : Nat) (s : State) :
    (ringStopDue r s).mem = s.mem ∧ (ringStopDue r s).pending = s.pending ∧ lookup (ringStopDue r s).regs 128 = lookup s.regs 128 := by
  simp +decide [ringStopDue]

@[simp] theorem storeDone_keeps (r a : Nat) (bs : List Nat) (s : State) :
    (storeDone r a bs s).pending = s.pending ∧ lookup (storeDone r a bs s).regs 128 = lookup s.regs 128 := by
  simp +decide [storeDone]

@[simp] theorem ringComplete_keeps (r : Nat) (d : Desc) (outcome reason : Nat) (s : State) :
    (ringComplete r d outcome reason s).pending = s.pending ∧ lookup (ringComplete r d outcome reason s).regs 128 = lookup s.regs 128 := by
  simp +decide [ringComplete]

@[simp] theorem ringFinish_keeps (r : Nat) (d : Desc) (outcome reason : Nat) (s : State) :
    (ringFinish r d outcome reason s).pending = s.pending ∧ lookup (ringFinish r d outcome reason s).regs 128 = lookup s.regs 128 := by
  simp +decide [ringFinish]

@[simp] theorem ringDrainDead_keeps (r n : Nat) (s : State) :
    (ringDrainDead r n s).pending = s.pending ∧ lookup (ringDrainDead r n s).regs 128 = lookup s.regs 128 := by
  induction n generalizing s with
  | zero => simp [ringDrainDead]
  | succ n ih =>
    change SameButMem s _
    unfold ringDrainDead
    repeat' split
    all_goals simp [SameButMem, ih]

@[simp] theorem ringDrain_keeps (r : Nat) (s : State) :
    (ringDrain r s).pending = s.pending ∧ lookup (ringDrain r s).regs 128 = lookup s.regs 128 := by
  simp +decide [ringDrain]

@[simp] theorem ringFetch_keeps (r : Nat) (s : State) :
    (ringFetch r s).mem = s.mem ∧ (ringFetch r s).pending = s.pending ∧ lookup (ringFetch r s).regs 128 = lookup s.regs 128 := by
  simp +decide [ringFetch]

@[simp] theorem ringPost_keeps (r head : Nat) (s : State) :
    (ringPost r head s).pending = s.pending ∧ lookup (ringPost r head s).regs 128 = lookup s.regs 128 := by
  simp +decide [ringPost]

@[simp] theorem ringRepost_keeps (r : Nat) (s : State) :
    (ringRepost r s).pending = s.pending ∧ lookup (ringRepost r s).regs 128 = lookup s.regs 128 := by
  simp +decide [ringRepost]

@[simp] theorem ownerFault_keeps (r : Nat) (s : State) :
    (ownerFault r s).mem = s.mem ∧ (ownerFault r s).pending = s.pending ∧ lookup (ownerFault r s).regs 128 = lookup s.regs 128 := by
  simp +decide [ownerFault]

@[simp] theorem ringPause_keeps (r iova done : Nat) (write : Bool) (f : TransFault) (s : State) :
    (ringPause r iova done write f s).mem = s.mem ∧ (ringPause r iova done write f s).pending = s.pending ∧ lookup (ringPause r iova done write f s).regs 128 = lookup s.regs 128 := by
  simp +decide [ringPause]

@[simp] theorem descFinish_keeps (r : Nat) (d : Desc) (e : DescEnd) (s : State) :
    (descFinish r d e s).pending = s.pending ∧ lookup (descFinish r d e s).regs 128 = lookup s.regs 128 := by
  change SameButMem s _
  unfold descFinish
  repeat' split
  all_goals simp +decide [SameButMem]

@[simp] theorem sideAt_keeps (r space : Nat) (write : Bool) (addr : Nat) (here : Nat × Nat) (s : State) :
    ((sideAt r space write addr here s).1).mem = s.mem ∧ ((sideAt r space write addr here s).1).pending = s.pending ∧ lookup ((sideAt r space write addr here s).1).regs 128 = lookup s.regs 128 := by
  change Same s _
  unfold sideAt
  repeat' split
  all_goals simp +decide [Same]

@[simp] theorem ringCorrected_keeps (r : Nat) (found : List (Word × Fin 8)) (parts : List (Nat × Nat)) (s : State) :
    ((ringCorrected r found parts s).1).mem = s.mem ∧ ((ringCorrected r found parts s).1).pending = s.pending ∧ lookup ((ringCorrected r found parts s).1).regs 128 = lookup s.regs 128 := by
  simp +decide [ringCorrected]

@[simp] theorem meterBytes_keeps (r n : Nat) (s : State) :
    (meterBytes r n s).mem = s.mem ∧ (meterBytes r n s).pending = s.pending ∧ lookup (meterBytes r n s).regs 128 = lookup s.regs 128 := by
  simp +decide [meterBytes]

theorem sideAt_of {r space : Nat} {w : Bool} {addr : Nat} {here : Nat × Nat} {s t : State} {x : Trans}
    (h : sideAt r space w addr here s = (t, x)) : SameButMem s t := by
  have k := sideAt_keeps r space w addr here s
  rw [h] at k
  exact k.2

@[simp] theorem moveBeats_keeps (r : Nat) (d : Desc) (goal : Nat) (v : Service) (fuel pos : Nat) (a b : Nat × Nat) (s : State) :
    (moveBeats r d goal v fuel pos a b s).1.pending = s.pending
      ∧ lookup (moveBeats r d goal v fuel pos a b s).1.regs 128 = lookup s.regs 128 := by
  induction fuel generalizing pos a b s with
  | zero => simp [moveBeats]
  | succ n ih =>
    change SameButMem s _
    unfold moveBeats
    split
    · simp [SameButMem]
    · split
      · rename_i e; exact sideAt_of e
      · rename_i e
        split
        · rename_i e'; exact SameButMem.trans (sideAt_of e) (sideAt_of e')
        · rename_i e'
          refine SameButMem.trans (sideAt_of e) (SameButMem.trans (sideAt_of e') ?_)
          simp [SameButMem, ih]


theorem moveBeats_of {r : Nat} {d : Desc} {goal : Nat} {v : Service} {fuel pos : Nat} {a b : Nat × Nat} {s t : State} {x : Moved}
    (h : moveBeats r d goal v fuel pos a b s = (t, x)) : SameButMem s t := by
  have k := moveBeats_keeps r d goal v fuel pos a b s
  rw [h] at k
  exact k

theorem ringCorrected_of {r : Nat} {found : List (Word × Fin 8)} {parts : List (Nat × Nat)} {s t : State} {x : Bool}
    (h : ringCorrected r found parts s = (t, x)) : SameButMem s t := by
  have k := ringCorrected_keeps r found parts s
  rw [h] at k
  exact k.2

@[simp] theorem ringMove_keeps (r : Nat) (d : Desc) (v : Service) (goal : Nat) (s : State) :
    (ringMove r d v goal s).1.pending = s.pending ∧ lookup (ringMove r d v goal s).1.regs 128 = lookup s.regs 128 := by
  change SameButMem s _
  unfold ringMove
  split
  rename_i h1
  split
  rename_i h2
  refine SameButMem.trans (moveBeats_of h1) (SameButMem.trans (ringCorrected_of h2) ?_)
  dsimp only
  split
  all_goals simp [SameButMem]

theorem ringMove_of {r : Nat} {d : Desc} {v : Service} {goal : Nat} {s t : State}
    {x : Desc × Bool} (h : ringMove r d v goal s = (t, x)) : SameButMem s t := by
  have k := ringMove_keeps r d v goal s
  rw [h] at k
  exact k

@[simp] theorem ringServe_keeps (r : Nat) (d : Desc) (beyond : Bool) (v : Service) (s : State) :
    (ringServe r d beyond v s).pending = s.pending ∧ lookup (ringServe r d beyond v s).regs 128 = lookup s.regs 128 := by
  change SameButMem s _
  unfold ringServe
  dsimp only
  split
  · exact ringMove_of (by assumption)
  · exact SameButMem.trans (ringMove_of (by assumption)) (by simp [SameButMem])

@[simp] theorem ringPart_keeps (r n : Nat) (d : Desc) (beyond : Bool) (v : Service) (s : State) :
    (ringPart r n d beyond v s).pending = s.pending ∧ lookup (ringPart r n d beyond v s).regs 128 = lookup s.regs 128 := by
  change SameButMem s _
  unfold ringPart
  dsimp only
  split
  · exact ringMove_of (by assumption)
  · exact SameButMem.trans (ringMove_of (by assumption)) (by simp +decide [SameButMem])

@[simp] theorem ringBeats_keeps (q k n : Nat) (s : State) :
    (ringBeats q k n s).pending = s.pending ∧ lookup (ringBeats q k n s).regs 128 = lookup s.regs 128 := by
  induction k generalizing n s with
  | zero => simp [ringBeats]
  | succ k ih =>
    change SameButMem s _
    unfold ringBeats
    repeat' split
    all_goals simp [SameButMem, ih]

@[simp] theorem grantRival_keeps (r : Nat) (isOver : Bool) (beats q : Nat) (s : State) :
    (grantRival r isOver beats q s).pending = s.pending ∧ lookup (grantRival r isOver beats q s).regs 128 = lookup s.regs 128 := by
  simp +decide [grantRival]

@[simp] theorem grantRivals_keeps (r : Nat) (d : Desc) (isOver : Bool) (s : State) :
    (grantRivals r d isOver s).pending = s.pending ∧ lookup (grantRivals r d isOver s).regs 128 = lookup s.regs 128 := by
  simp +decide [grantRivals]

@[simp] theorem arbitrate_keeps (r : Nat) (d : Desc) (v : Service) (s : State) :
    (arbitrate r d v s).pending = s.pending ∧ lookup (arbitrate r d v s).regs 128 = lookup s.regs 128 := by
  simp +decide [arbitrate]

@[simp] theorem descriptorComplete_keeps (r : Nat) (v : Service) (s : State) :
    (descriptorComplete r v s).pending = s.pending ∧ lookup (descriptorComplete r v s).regs 128 = lookup s.regs 128 := by
  change SameButMem s _
  unfold descriptorComplete
  dsimp only
  repeat' split
  all_goals simp +decide [SameButMem]

@[simp] theorem translationFault_keeps (r offset : Nat) (write : Bool) (v : Service) (s : State) :
    (translationFault r offset write v s).pending = s.pending ∧ lookup (translationFault r offset write v s).regs 128 = lookup s.regs 128 := by
  change SameButMem s _
  unfold translationFault
  dsimp only
  repeat' split
  all_goals simp +decide [SameButMem]

@[simp] theorem classBDeadline_keeps (r : Nat) (s : State) :
    (classBDeadline r s).pending = s.pending ∧ lookup (classBDeadline r s).regs 128 = lookup s.regs 128 := by
  simp +decide [classBDeadline]

@[simp] theorem ringStart_keeps (r : Nat) (s : State) :
    (ringStart r s).pending = s.pending ∧ lookup (ringStart r s).regs 128 = lookup s.regs 128 := by
  simp +decide [ringStart]

@[simp] theorem ringStop_keeps (r : Nat) (s : State) :
    (ringStop r s).mem = s.mem ∧ (ringStop r s).pending = s.pending ∧ lookup (ringStop r s).regs 128 = lookup s.regs 128 := by
  simp +decide [ringStop]

@[simp] theorem ringUnpause_keeps (r : Nat) (s : State) :
    (ringUnpause r s).mem = s.mem ∧ (ringUnpause r s).pending = s.pending ∧ lookup (ringUnpause r s).regs 128 = lookup s.regs 128 := by
  simp +decide [ringUnpause]

@[simp] theorem ringResume_keeps (r : Nat) (s : State) :
    (ringResume r s).mem = s.mem ∧ (ringResume r s).pending = s.pending ∧ lookup (ringResume r s).regs 128 = lookup s.regs 128 := by
  change Same s _
  unfold ringResume
  dsimp only
  repeat' split
  all_goals (try (simp +decide [Same]; done))
  all_goals
    rename_i h
    have h := congrArg Prod.fst h
    dsimp only at h
    subst h
    simp +decide [Same]

@[simp] theorem markSeq_keeps (r seq : Nat) (s : State) :
    (markSeq r seq s).mem = s.mem ∧ (markSeq r seq s).pending = s.pending ∧ lookup (markSeq r seq s).regs 128 = lookup s.regs 128 := by
  simp +decide [markSeq]

@[simp] theorem markAlready_keeps (r seq : Nat) (s : State) :
    (markAlready r seq s).mem = s.mem ∧ (markAlready r seq s).pending = s.pending ∧ lookup (markAlready r seq s).regs 128 = lookup s.regs 128 := by
  simp +decide [markAlready]

@[simp] theorem ringAbort_keeps (r seq : Nat) (s : State) :
    (ringAbort r seq s).pending = s.pending ∧ lookup (ringAbort r seq s).regs 128 = lookup s.regs 128 := by
  change SameButMem s _
  unfold ringAbort
  dsimp only
  repeat' split
  all_goals simp +decide [SameButMem]

@[simp] theorem flushAll_keeps (r : Nat) (n : Nat) (s : State) :
    (flushAll r n s).pending = s.pending ∧ lookup (flushAll r n s).regs 128 = lookup s.regs 128 := by
  induction n generalizing s with
  | zero => simp [flushAll]
  | succ n ih =>
    change SameButMem s _
    unfold flushAll
    repeat' split
    all_goals simp [SameButMem, ih]

@[simp] theorem flushNow_keeps (r : Nat) (s : State) :
    (flushNow r s).pending = s.pending ∧ lookup (flushNow r s).regs 128 = lookup s.regs 128 := by
  simp +decide [flushNow]

@[simp] theorem ringFlush_keeps (r : Nat) (s : State) :
    (ringFlush r s).pending = s.pending ∧ lookup (ringFlush r s).regs 128 = lookup s.regs 128 := by
  simp +decide [ringFlush]

@[simp] theorem ringCatchUp_keeps (r : Nat) (s : State) :
    (ringCatchUp r s).pending = s.pending ∧ lookup (ringCatchUp r s).regs 128 = lookup s.regs 128 := by
  simp +decide [ringCatchUp]

@[simp] theorem ringsTick_keeps (s : State) :
    (ringsTick s).pending = s.pending ∧ lookup (ringsTick s).regs 128 = lookup s.regs 128 := by
  simp +decide [ringsTick]

@[simp] theorem ringToIdle_keeps (r : Nat) (s : State) :
    (ringToIdle r s).mem = s.mem ∧ (ringToIdle r s).pending = s.pending ∧ lookup (ringToIdle r s).regs 128 = lookup s.regs 128 := by
  simp +decide [ringToIdle]

@[simp] theorem linkDownRing_keeps (uses : Desc → Bool) (r : Nat) (s : State) :
    (linkDownRing uses r s).pending = s.pending ∧ lookup (linkDownRing uses r s).regs 128 = lookup s.regs 128 := by
  change SameButMem s _
  unfold linkDownRing
  repeat' split
  all_goals simp +decide [SameButMem]

@[simp] theorem ringDeliver_keeps (r : Nat) (bs : List Nat) (s : State) :
    (ringDeliver r bs s).pending = s.pending ∧ lookup (ringDeliver r bs s).regs 128 = lookup s.regs 128 := by
  simp +decide [ringDeliver]

end Sys2Proof.Machine
end

