-- ==== Sys2Proof/Laws/KeepsMtr.lean ====
section
/-!
SUPPORT. What the operations of `Machine/Mtr.lean` leave alone: device memory, the queue of commands, the current mode.
-/
namespace Sys2Proof.Machine

@[simp] theorem modStr_keeps (s : State) (k : Nat) (f : Str → Str) :
    (State.modStr s k f).mem = s.mem ∧ (State.modStr s k f).pending = s.pending ∧ lookup (State.modStr s k f).regs 128 = lookup s.regs 128 := by
  simp +decide [State.modStr]

@[simp] theorem modMeter_keeps (s : State) (f : Metering → Metering) :
    (State.modMeter s f).mem = s.mem ∧ (State.modMeter s f).pending = s.pending ∧ lookup (State.modMeter s f).regs 128 = lookup s.regs 128 := by
  simp +decide [State.modMeter]

@[simp] theorem setStrFlag_keeps (b k : Nat) (s : State) :
    (setStrFlag b k s).mem = s.mem ∧ (setStrFlag b k s).pending = s.pending ∧ lookup (setStrFlag b k s).regs 128 = lookup s.regs 128 := by
  simp +decide [setStrFlag]

@[simp] theorem meterTime_keeps (k : Nat) (s : State) :
    (meterTime k s).mem = s.mem ∧ (meterTime k s).pending = s.pending ∧ lookup (meterTime k s).regs 128 = lookup s.regs 128 := by
  simp +decide [meterTime]

@[simp] theorem setUnmetered_keeps (on : Bool) (k : Nat) (s : State) :
    (setUnmetered on k s).mem = s.mem ∧ (setUnmetered on k s).pending = s.pending ∧ lookup (setUnmetered on k s).regs 128 = lookup s.regs 128 := by
  simp +decide [setUnmetered]

@[simp] theorem setAllFlags_keeps (b : Nat) (s : State) :
    (setAllFlags b s).mem = s.mem ∧ (setAllFlags b s).pending = s.pending ∧ lookup (setAllFlags b s).regs 128 = lookup s.regs 128 := by
  simp +decide [setAllFlags]

@[simp] theorem meterSample_keeps (k : Nat) (vRaw iRaw : Int) (s : State) :
    (meterSample k vRaw iRaw s).mem = s.mem ∧ (meterSample k vRaw iRaw s).pending = s.pending ∧ lookup (meterSample k vRaw iRaw s).regs 128 = lookup s.regs 128 := by
  simp +decide [meterSample]

@[simp] theorem meterStall_keeps (k : Nat) (s : State) :
    (meterStall k s).mem = s.mem ∧ (meterStall k s).pending = s.pending ∧ lookup (meterStall k s).regs 128 = lookup s.regs 128 := by
  simp +decide [meterStall]

@[simp] theorem showLedger_keeps (s : State) :
    (showLedger s).mem = s.mem ∧ (showLedger s).pending = s.pending ∧ lookup (showLedger s).regs 128 = lookup s.regs 128 := by
  simp +decide [showLedger]

@[simp] theorem enterSector_keeps (s : State) :
    (enterSector s).pending = s.pending ∧ lookup (enterSector s).regs 128 = lookup s.regs 128 := by
  simp +decide [enterSector]

@[simp] theorem nextSpan_keeps (k : Nat) (s : State) :
    (nextSpan k s).mem = s.mem ∧ (nextSpan k s).pending = s.pending ∧ lookup (nextSpan k s).regs 128 = lookup s.regs 128 := by
  simp +decide [nextSpan]

@[simp] theorem closeString_keeps (k : Nat) (s : State) :
    (closeString k s).mem = s.mem ∧ (closeString k s).pending = s.pending ∧ lookup (closeString k s).regs 128 = lookup s.regs 128 := by
  simp +decide [closeString]

@[simp] theorem ledgerClose_keeps (s : State) :
    (ledgerClose s).mem = s.mem ∧ (ledgerClose s).pending = s.pending ∧ lookup (ledgerClose s).regs 128 = lookup s.regs 128 := by
  simp +decide [ledgerClose]

@[simp] theorem postRecord_keeps (k : Nat) (bs : List Nat) (s : State) :
    (postRecord k bs s).pending = s.pending ∧ lookup (postRecord k bs s).regs 128 = lookup s.regs 128 := by
  simp +decide [postRecord]

@[simp] theorem recordWritten_keeps (ok : Bool) (s : State) :
    (recordWritten ok s).pending = s.pending ∧ lookup (recordWritten ok s).regs 128 = lookup s.regs 128 := by
  change SameButMem s _
  unfold recordWritten
  repeat' split
  all_goals simp +decide [SameButMem]

@[simp] theorem loadString_keeps (k : Nat) (s : State) :
    (loadString k s).mem = s.mem ∧ (loadString k s).pending = s.pending ∧ lookup (loadString k s).regs 128 = lookup s.regs 128 := by
  change Same s _
  unfold loadString
  repeat' split
  all_goals simp +decide [Same]

@[simp] theorem meterStart_keeps (s : State) :
    (meterStart s).mem = s.mem ∧ (meterStart s).pending = s.pending ∧ lookup (meterStart s).regs 128 = lookup s.regs 128 := by
  simp +decide [meterStart]

@[simp] theorem loadStrCfg_keeps (k : Nat) (s : State) :
    (loadStrCfg k s).mem = s.mem ∧ (loadStrCfg k s).pending = s.pending ∧ lookup (loadStrCfg k s).regs 128 = lookup s.regs 128 := by
  simp +decide [loadStrCfg]

@[simp] theorem checkString_keeps (spareFail : Bool) (fails k : Nat) (s : State) :
    (checkString spareFail fails k s).mem = s.mem ∧ (checkString spareFail fails k s).pending = s.pending ∧ lookup (checkString spareFail fails k s).regs 128 = lookup s.regs 128 := by
  simp +decide [checkString]

@[simp] theorem judgeReport_keeps (bad : Bool) (run : Nat) (flag k : Nat) (s : State) :
    (judgeReport bad run flag k s).mem = s.mem ∧ (judgeReport bad run flag k s).pending = s.pending ∧ lookup (judgeReport bad run flag k s).regs 128 = lookup s.regs 128 := by
  simp +decide [judgeReport]

@[simp] theorem takeField_keeps (k f : Nat) (data : List Nat) (e : Nat) (s : State) :
    (takeField k f data e s).mem = s.mem ∧ (takeField k f data e s).pending = s.pending ∧ lookup (takeField k f data e s).regs 128 = lookup s.regs 128 := by
  change Same s _
  unfold takeField
  repeat' split
  all_goals simp +decide [Same]

@[simp] theorem primaryFrame_keeps (k : Nat) (s : State) :
    (primaryFrame k s).mem = s.mem ∧ (primaryFrame k s).pending = s.pending ∧ lookup (primaryFrame k s).regs 128 = lookup s.regs 128 := by
  change Same s _
  unfold primaryFrame
  dsimp only
  repeat' split
  all_goals simp +decide [Same]

@[simp] theorem packReport_keeps (k f : Nat) (data : List Nat) (s : State) :
    (packReport k f data s).mem = s.mem ∧ (packReport k f data s).pending = s.pending ∧ lookup (packReport k f data s).regs 128 = lookup s.regs 128 := by
  simp +decide [packReport]

@[simp] theorem packSilent_keeps (k : Nat) (s : State) :
    (packSilent k s).mem = s.mem ∧ (packSilent k s).pending = s.pending ∧ lookup (packSilent k s).regs 128 = lookup s.regs 128 := by
  simp +decide [packSilent]

@[simp] theorem packMalformedEnd_keeps (k : Nat) (s : State) :
    (packMalformedEnd k s).mem = s.mem ∧ (packMalformedEnd k s).pending = s.pending ∧ lookup (packMalformedEnd k s).regs 128 = lookup s.regs 128 := by
  simp +decide [packMalformedEnd]

@[simp] theorem unknownSource_keeps (c : Nat) (ext : Bool) (id : Nat) (s : State) :
    (unknownSource c ext id s).mem = s.mem ∧ (unknownSource c ext id s).pending = s.pending ∧ lookup (unknownSource c ext id s).regs 128 = lookup s.regs 128 := by
  simp +decide [unknownSource]

@[simp] theorem canConfine_keeps (c : Nat) (s : State) :
    (canConfine c s).mem = s.mem ∧ (canConfine c s).pending = s.pending ∧ lookup (canConfine c s).regs 128 = lookup s.regs 128 := by
  simp +decide [canConfine]

@[simp] theorem canRxError_keeps (c n : Nat) (s : State) :
    (canRxError c n s).mem = s.mem ∧ (canRxError c n s).pending = s.pending ∧ lookup (canRxError c n s).regs 128 = lookup s.regs 128 := by
  simp +decide [canRxError]

@[simp] theorem canRxGood_keeps (c : Nat) (s : State) :
    (canRxGood c s).mem = s.mem ∧ (canRxGood c s).pending = s.pending ∧ lookup (canRxGood c s).regs 128 = lookup s.regs 128 := by
  simp +decide [canRxGood]

@[simp] theorem packFrame_keeps (c : Nat) (ext : Bool) (kind : RxKind) (id : Nat) (data : List Nat) (s : State) :
    (packFrame c ext kind id data s).pending = s.pending ∧ lookup (packFrame c ext kind id data s).regs 128 = lookup s.regs 128 := by
  have h : ∀ (k : Nat) (t : State), SameButMem t (match t.mappedFrame ext id k with
      | some f => t.when (decide (t.rd MTR_PACK_STATUS.CTRL k = c)) (packReport k f data)
      | none => t) := by
    intro k t; split <;> simp [SameButMem]
  change SameButMem s _
  unfold packFrame
  split
  · exact ⟨rfl, rfl⟩
  split
  · simp +decide [SameButMem]
  · simp +decide [SameButMem]
  dsimp only
  split
  · simp [SameButMem]
  · refine ⟨?_, ?_⟩
    · rw [each_pending]
      · simp
      · exact fun k t => (h k t).1
    · rw [each_cur]
      · simp
      · exact fun k t => (h k t).2

@[simp] theorem meterMs_keeps (k : Nat) (s : State) :
    (meterMs k s).mem = s.mem ∧ (meterMs k s).pending = s.pending ∧ lookup (meterMs k s).regs 128 = lookup s.regs 128 := by
  simp +decide [meterMs]

@[simp] theorem meterCycle_keeps (s : State) :
    (meterCycle s).mem = s.mem ∧ (meterCycle s).pending = s.pending ∧ lookup (meterCycle s).regs 128 = lookup s.regs 128 := by
  simp +decide [meterCycle]

@[simp] theorem meterDormant_keeps (s : State) :
    (meterDormant s).mem = s.mem ∧ (meterDormant s).pending = s.pending ∧ lookup (meterDormant s).regs 128 = lookup s.regs 128 := by
  simp +decide [meterDormant]

end Sys2Proof.Machine
end

