-- ==== Sys2Proof/Laws/KeepsCan.lean ====
section
/-!
SUPPORT. What the operations of `Machine/Can.lean` leave alone: device memory, the queue of commands, the current mode.
-/
namespace Sys2Proof.Machine

@[simp] theorem modCan_keeps (s : State) (c : Nat) (f : Can → Can) :
    (State.modCan s c f).mem = s.mem ∧ (State.modCan s c f).pending = s.pending ∧ lookup (State.modCan s c f).regs 128 = lookup s.regs 128 := by
  simp +decide [State.modCan]

@[simp] theorem canDone_keeps (c tag outcome : Nat) (already : Bool) (reason delay : Nat) (s : State) :
    (canDone c tag outcome already reason delay s).mem = s.mem ∧ (canDone c tag outcome already reason delay s).pending = s.pending ∧ lookup (canDone c tag outcome already reason delay s).regs 128 = lookup s.regs 128 := by
  simp +decide [canDone]

@[simp] theorem canPop_keeps (c : Nat) (s : State) :
    ((canPop c s).1).mem = s.mem ∧ ((canPop c s).1).pending = s.pending ∧ lookup ((canPop c s).1).regs 128 = lookup s.regs 128 := by
  change Same s _
  unfold canPop
  repeat' split
  all_goals simp +decide [Same]

@[simp] theorem canRemove_keeps (c : Nat) (f : CanFrame) (s : State) :
    (canRemove c f s).mem = s.mem ∧ (canRemove c f s).pending = s.pending ∧ lookup (canRemove c f s).regs 128 = lookup s.regs 128 := by
  simp +decide [canRemove]

@[simp] theorem canPost_keeps (c tag q len : Nat) (s : State) :
    (canPost c tag q len s).mem = s.mem ∧ (canPost c tag q len s).pending = s.pending ∧ lookup (canPost c tag q len s).regs 128 = lookup s.regs 128 := by
  change Same s _
  unfold canPost
  dsimp only
  repeat' split
  all_goals simp +decide [Same]

@[simp] theorem canAbortAll_keeps (reason c : Nat) (s : State) :
    (canAbortAll reason c s).mem = s.mem ∧ (canAbortAll reason c s).pending = s.pending ∧ lookup (canAbortAll reason c s).regs 128 = lookup s.regs 128 := by
  simp +decide [canAbortAll]

@[simp] theorem busOff_keeps (c : Nat) (s : State) :
    (busOff c s).mem = s.mem ∧ (busOff c s).pending = s.pending ∧ lookup (busOff c s).regs 128 = lookup s.regs 128 := by
  simp +decide [busOff]

@[simp] theorem canTxError_keeps (c : Nat) (s : State) :
    (canTxError c s).mem = s.mem ∧ (canTxError c s).pending = s.pending ∧ lookup (canTxError c s).regs 128 = lookup s.regs 128 := by
  simp +decide [canTxError]

@[simp] theorem canTxGood_keeps (c : Nat) (s : State) :
    (canTxGood c s).mem = s.mem ∧ (canTxGood c s).pending = s.pending ∧ lookup (canTxGood c s).regs 128 = lookup s.regs 128 := by
  simp +decide [canTxGood]

@[simp] theorem canSent_keeps (c delay : Nat) (f : CanFrame) (s : State) :
    (canSent c delay f s).mem = s.mem ∧ (canSent c delay f s).pending = s.pending ∧ lookup (canSent c delay f s).regs 128 = lookup s.regs 128 := by
  simp +decide [canSent]

@[simp] theorem canComplete_keeps (c : Nat) (a : CanAttempt) (s : State) :
    (canComplete c a s).mem = s.mem ∧ (canComplete c a s).pending = s.pending ∧ lookup (canComplete c a s).regs 128 = lookup s.regs 128 := by
  change Same s _
  unfold canComplete
  repeat' split
  all_goals simp +decide [Same]

@[simp] theorem canAbort_keeps (c tag stage delay : Nat) (s : State) :
    (canAbort c tag stage delay s).mem = s.mem ∧ (canAbort c tag stage delay s).pending = s.pending ∧ lookup (canAbort c tag stage delay s).regs 128 = lookup s.regs 128 := by
  change Same s _
  unfold canAbort
  repeat' split
  all_goals simp +decide [Same]

@[simp] theorem bulkDeadline_keeps (c : Nat) (started : Bool) (s : State) :
    (bulkDeadline c started s).mem = s.mem ∧ (bulkDeadline c started s).pending = s.pending ∧ lookup (bulkDeadline c started s).regs 128 = lookup s.regs 128 := by
  change Same s _
  unfold bulkDeadline
  repeat' split
  all_goals simp +decide [Same]

@[simp] theorem busOffRecovery_keeps (c : Nat) (s : State) :
    (busOffRecovery c s).mem = s.mem ∧ (busOffRecovery c s).pending = s.pending ∧ lookup (busOffRecovery c s).regs 128 = lookup s.regs 128 := by
  simp +decide [busOffRecovery]

@[simp] theorem canOff_keeps (c : Nat) (s : State) :
    (canOff c s).mem = s.mem ∧ (canOff c s).pending = s.pending ∧ lookup (canOff c s).regs 128 = lookup s.regs 128 := by
  simp +decide [canOff]

@[simp] theorem canOn_keeps (c : Nat) (s : State) :
    (canOn c s).mem = s.mem ∧ (canOn c s).pending = s.pending ∧ lookup (canOn c s).regs 128 = lookup s.regs 128 := by
  simp +decide [canOn]

end Sys2Proof.Machine
end

