-- ==== Sys2Proof/Laws/KeepsCarrier.lean ====
section
/-!
SUPPORT. What the operations of `Machine/Carrier.lean` leave alone: device memory, the queue of commands, the current mode.
-/
namespace Sys2Proof.Machine

@[simp] theorem modBridge_keeps (s : State) (j : Nat) (f : BridgePwm → BridgePwm) :
    (State.modBridge s j f).mem = s.mem ∧ (State.modBridge s j f).pending = s.pending ∧ lookup (State.modBridge s j f).regs 128 = lookup s.regs 128 := by
  simp +decide [State.modBridge]

@[simp] theorem modLeg_keeps (s : State) (m : Nat) (f : Leg → Leg) :
    (State.modLeg s m f).mem = s.mem ∧ (State.modLeg s m f).pending = s.pending ∧ lookup (State.modLeg s m f).regs 128 = lookup s.regs 128 := by
  simp +decide [State.modLeg]

@[simp] theorem modGen_keeps (s : State) (g : Nat) (f : Gen → Gen) :
    (State.modGen s g f).mem = s.mem ∧ (State.modGen s g f).pending = s.pending ∧ lookup (State.modGen s g f).regs 128 = lookup s.regs 128 := by
  simp +decide [State.modGen]

@[simp] theorem legRun_keeps (j d m : Nat) (s : State) :
    (legRun j d m s).mem = s.mem ∧ (legRun j d m s).pending = s.pending ∧ lookup (legRun j d m s).regs 128 = lookup s.regs 128 := by
  simp +decide [legRun]

@[simp] theorem legEval_keeps (j m : Nat) (s : State) :
    (legEval j m s).mem = s.mem ∧ (legEval j m s).pending = s.pending ∧ lookup (legEval j m s).regs 128 = lookup s.regs 128 := by
  simp +decide [legEval]

@[simp] theorem legRestart_keeps (m : Nat) (s : State) :
    (legRestart m s).mem = s.mem ∧ (legRestart m s).pending = s.pending ∧ lookup (legRestart m s).regs 128 = lookup s.regs 128 := by
  simp +decide [legRestart]

@[simp] theorem genRun_keeps (g d : Nat) (s : State) :
    (genRun g d s).mem = s.mem ∧ (genRun g d s).pending = s.pending ∧ lookup (genRun g d s).regs 128 = lookup s.regs 128 := by
  simp +decide [genRun]

@[simp] theorem genOn_keeps (g : Nat) (s : State) :
    (genOn g s).mem = s.mem ∧ (genOn g s).pending = s.pending ∧ lookup (genOn g s).regs 128 = lookup s.regs 128 := by
  simp +decide [genOn]

@[simp] theorem gensOn_keeps (s : State) :
    (gensOn s).mem = s.mem ∧ (gensOn s).pending = s.pending ∧ lookup (gensOn s).regs 128 = lookup s.regs 128 := by
  simp +decide [gensOn]

@[simp] theorem bridgeEval_keeps (j : Nat) (s : State) :
    (bridgeEval j s).mem = s.mem ∧ (bridgeEval j s).pending = s.pending ∧ lookup (bridgeEval j s).regs 128 = lookup s.regs 128 := by
  simp +decide [bridgeEval]

end Sys2Proof.Machine
end

