-- ==== Sys2Proof/Laws/KeepsWake.lean ====
section
/-!
SUPPORT. What the operations of `Machine/Wake.lean` leave alone: device memory, the queue of commands, the current mode.
-/
namespace Sys2Proof.Machine

@[simp] theorem wakeEvent_keeps (src : Nat) (s : State) :
    (wakeEvent src s).mem = s.mem ∧ (wakeEvent src s).pending = s.pending ∧ lookup (wakeEvent src s).regs 128 = lookup s.regs 128 := by
  simp +decide [wakeEvent]

end Sys2Proof.Machine
end

