-- ==== Sys2Proof/Laws/KeepsHfeSys.lean ====
section
/-!
SUPPORT. What the operations of `Machine/HfeSys.lean` leave alone: device memory, the queue of commands, the current mode.
-/
namespace Sys2Proof.Machine

@[simp] theorem modSys_keeps (s : State) (q : Nat) (f : SysRec → SysRec) :
    (State.modSys s q f).mem = s.mem ∧ (State.modSys s q f).pending = s.pending ∧ lookup (State.modSys s q f).regs 128 = lookup s.regs 128 := by
  simp +decide [State.modSys]

@[simp] theorem showFault_keeps (q : Nat) (s : State) :
    (showFault q s).mem = s.mem ∧ (showFault q s).pending = s.pending ∧ lookup (showFault q s).regs 128 = lookup s.regs 128 := by
  simp +decide [showFault]

@[simp] theorem raiseSysFault_keeps (q c : Nat) (set : List Nat) (s : State) :
    (raiseSysFault q c set s).mem = s.mem ∧ (raiseSysFault q c set s).pending = s.pending ∧ lookup (raiseSysFault q c set s).regs 128 = lookup s.regs 128 := by
  simp +decide [raiseSysFault]

@[simp] theorem keepMarks_keeps (p : FaultMark → Bool) (q : Nat) (s : State) :
    (keepMarks p q s).mem = s.mem ∧ (keepMarks p q s).pending = s.pending ∧ lookup (keepMarks p q s).regs 128 = lookup s.regs 128 := by
  simp +decide [keepMarks]

@[simp] theorem clearSysFault_keeps (c q : Nat) (s : State) :
    (clearSysFault c q s).mem = s.mem ∧ (clearSysFault c q s).pending = s.pending ∧ lookup (clearSysFault c q s).regs 128 = lookup s.regs 128 := by
  simp +decide [clearSysFault]

@[simp] theorem clearMarkedSet_keeps (c : Nat) (set : List Nat) (s : State) :
    (clearMarkedSet c set s).mem = s.mem ∧ (clearMarkedSet c set s).pending = s.pending ∧ lookup (clearMarkedSet c set s).regs 128 = lookup s.regs 128 := by
  change Same s _
  unfold clearMarkedSet
  repeat' split
  all_goals simp +decide [Same]

@[simp] theorem clearMarkedSets_keeps (q c : Nat) (s : State) :
    (clearMarkedSets q c s).mem = s.mem ∧ (clearMarkedSets q c s).pending = s.pending ∧ lookup (clearMarkedSets q c s).regs 128 = lookup s.regs 128 := by
  simp +decide [clearMarkedSets]

@[simp] theorem testPassClears_keeps (q : Nat) (s : State) :
    (testPassClears q s).mem = s.mem ∧ (testPassClears q s).pending = s.pending ∧ lookup (testPassClears q s).regs 128 = lookup s.regs 128 := by
  simp +decide [testPassClears]

@[simp] theorem setHsup_keeps (level : Bool) (q : Nat) (s : State) :
    (setHsup level q s).mem = s.mem ∧ (setHsup level q s).pending = s.pending ∧ lookup (setHsup level q s).regs 128 = lookup s.regs 128 := by
  simp +decide [setHsup]

@[simp] theorem allHsupHigh_keeps (s : State) :
    (allHsupHigh s).mem = s.mem ∧ (allHsupHigh s).pending = s.pending ∧ lookup (allHsupHigh s).regs 128 = lookup s.regs 128 := by
  simp +decide [allHsupHigh]

@[simp] theorem hsupByLoaf_keeps (q : Nat) (s : State) :
    (hsupByLoaf q s).mem = s.mem ∧ (hsupByLoaf q s).pending = s.pending ∧ lookup (hsupByLoaf q s).regs 128 = lookup s.regs 128 := by
  simp +decide [hsupByLoaf]

@[simp] theorem latchByHead_keeps (h o : Nat) (s : State) :
    (latchByHead h o s).mem = s.mem ∧ (latchByHead h o s).pending = s.pending ∧ lookup (latchByHead h o s).regs 128 = lookup s.regs 128 := by
  simp +decide [latchByHead]

@[simp] theorem crossingCutsPulse_keeps (q : Nat) (s : State) :
    (crossingCutsPulse q s).mem = s.mem ∧ (crossingCutsPulse q s).pending = s.pending ∧ lookup (crossingCutsPulse q s).regs 128 = lookup s.regs 128 := by
  change Same s _
  unfold crossingCutsPulse
  repeat' split
  all_goals simp +decide [Same]

@[simp] theorem noteCrossed_keeps (q : Nat) (s : State) :
    (noteCrossed q s).mem = s.mem ∧ (noteCrossed q s).pending = s.pending ∧ lookup (noteCrossed q s).regs 128 = lookup s.regs 128 := by
  simp +decide [noteCrossed]

@[simp] theorem crossingBegins_keeps (q : Nat) (s : State) :
    (crossingBegins q s).mem = s.mem ∧ (crossingBegins q s).pending = s.pending ∧ lookup (crossingBegins q s).regs 128 = lookup s.regs 128 := by
  simp +decide [crossingBegins]

@[simp] theorem comparator_keeps (q : Nat) (code : Int) (low : Bool) (s : State) :
    (comparator q code low s).mem = s.mem ∧ (comparator q code low s).pending = s.pending ∧ lookup (comparator q code low s).regs 128 = lookup s.regs 128 := by
  simp +decide [comparator]

@[simp] theorem loopWatch_keeps (q : Nat) (code : Int) (low blank : Bool) (s : State) :
    (loopWatch q code low blank s).mem = s.mem ∧ (loopWatch q code low blank s).pending = s.pending ∧ lookup (loopWatch q code low blank s).regs 128 = lookup s.regs 128 := by
  simp +decide [loopWatch]

end Sys2Proof.Machine
end

