-- ==== Sys2Proof/Laws/KeepsHfeConv.lean ====
section
/-!
SUPPORT. What the operations of `Machine/HfeConv.lean` leave alone: device memory, the queue of commands, the current mode.
-/
namespace Sys2Proof.Machine

@[simp] theorem modHead_keeps (s : State) (h : Nat) (f : Head → Head) :
    (State.modHead s h f).mem = s.mem ∧ (State.modHead s h f).pending = s.pending ∧ lookup (State.modHead s h f).regs 128 = lookup s.regs 128 := by
  simp +decide [State.modHead]

@[simp] theorem feedFilter_keeps (q : Nat) (code : Int) (blank : Bool) (s : State) :
    (feedFilter q code blank s).mem = s.mem ∧ (feedFilter q code blank s).pending = s.pending ∧ lookup (feedFilter q code blank s).regs 128 = lookup s.regs 128 := by
  simp +decide [feedFilter]

@[simp] theorem recResume_keeps (s : State) :
    (recResume s).mem = s.mem ∧ (recResume s).pending = s.pending ∧ lookup (recResume s).regs 128 = lookup s.regs 128 := by
  change Same s _
  unfold recResume
  repeat' split
  all_goals simp +decide [Same]

@[simp] theorem recStart_keeps (s : State) :
    (recStart s).mem = s.mem ∧ (recStart s).pending = s.pending ∧ lookup (recStart s).regs 128 = lookup s.regs 128 := by
  simp +decide [recStart]

@[simp] theorem recSample_keeps (q : Nat) (code : Int) (blank : Bool) (s : State) :
    (recSample q code blank s).mem = s.mem ∧ (recSample q code blank s).pending = s.pending ∧ lookup (recSample q code blank s).regs 128 = lookup s.regs 128 := by
  simp +decide [recSample]

@[simp] theorem noteExcluded_keeps (q : Nat) (out : Bool) (s : State) :
    (noteExcluded q out s).mem = s.mem ∧ (noteExcluded q out s).pending = s.pending ∧ lookup (noteExcluded q out s).regs 128 = lookup s.regs 128 := by
  change Same s _
  unfold noteExcluded
  repeat' split
  all_goals simp +decide [Same]

@[simp] theorem makeSuspect_keeps (q : Nat) (s : State) :
    (makeSuspect q s).mem = s.mem ∧ (makeSuspect q s).pending = s.pending ∧ lookup (makeSuspect q s).regs 128 = lookup s.regs 128 := by
  simp +decide [makeSuspect]

@[simp] theorem cancellerCorrection_keeps (q tag : Nat) (corr : Int) (s : State) :
    (cancellerCorrection q tag corr s).mem = s.mem ∧ (cancellerCorrection q tag corr s).pending = s.pending ∧ lookup (cancellerCorrection q tag corr s).regs 128 = lookup s.regs 128 := by
  change Same s _
  unfold cancellerCorrection
  dsimp only
  repeat' split
  all_goals simp +decide [Same]

@[simp] theorem cancellerJudge_keeps (q : Nat) (s : State) :
    (cancellerJudge q s).mem = s.mem ∧ (cancellerJudge q s).pending = s.pending ∧ lookup (cancellerJudge q s).regs 128 = lookup s.regs 128 := by
  simp +decide [cancellerJudge]

@[simp] theorem cancellerCheck_keeps (q : Nat) (s : State) :
    (cancellerCheck q s).mem = s.mem ∧ (cancellerCheck q s).pending = s.pending ∧ lookup (cancellerCheck q s).regs 128 = lookup s.regs 128 := by
  simp +decide [cancellerCheck]

@[simp] theorem cancellerRequalify_keeps (q : Nat) (s : State) :
    (cancellerRequalify q s).mem = s.mem ∧ (cancellerRequalify q s).pending = s.pending ∧ lookup (cancellerRequalify q s).regs 128 = lookup s.regs 128 := by
  simp +decide [cancellerRequalify]

@[simp] theorem rrcSample_keeps (c : Nat) (code : Int) (s : State) :
    (rrcSample c code s).mem = s.mem ∧ (rrcSample c code s).pending = s.pending ∧ lookup (rrcSample c code s).regs 128 = lookup s.regs 128 := by
  simp +decide [rrcSample]

@[simp] theorem showSample_keeps (q : Nat) (code : Int) (low blank : Bool) (s : State) :
    (showSample q code low blank s).mem = s.mem ∧ (showSample q code low blank s).pending = s.pending ∧ lookup (showSample q code low blank s).regs 128 = lookup s.regs 128 := by
  simp +decide [showSample]

@[simp] theorem noteLowCross_keeps (q : Nat) (above low : Bool) (s : State) :
    (noteLowCross q above low s).mem = s.mem ∧ (noteLowCross q above low s).pending = s.pending ∧ lookup (noteLowCross q above low s).regs 128 = lookup s.regs 128 := by
  simp +decide [noteLowCross]

@[simp] theorem endOverlap_keeps (low : Bool) (s : State) :
    (endOverlap low s).mem = s.mem ∧ (endOverlap low s).pending = s.pending ∧ lookup (endOverlap low s).regs 128 = lookup s.regs 128 := by
  simp +decide [endOverlap]

@[simp] theorem fullRateSample_keeps (q : Nat) (code : Int) (blank : Bool) (s : State) :
    (fullRateSample q code blank s).mem = s.mem ∧ (fullRateSample q code blank s).pending = s.pending ∧ lookup (fullRateSample q code blank s).regs 128 = lookup s.regs 128 := by
  simp +decide [fullRateSample]

@[simp] theorem systemSample_keeps (q : Nat) (code : Int) (low : Bool) (s : State) :
    (systemSample q code low s).mem = s.mem ∧ (systemSample q code low s).pending = s.pending ∧ lookup (systemSample q code low s).regs 128 = lookup s.regs 128 := by
  simp +decide [systemSample]

@[simp] theorem systemMissed_keeps (q : Nat) (s : State) :
    (systemMissed q s).mem = s.mem ∧ (systemMissed q s).pending = s.pending ∧ lookup (systemMissed q s).regs 128 = lookup s.regs 128 := by
  simp +decide [systemMissed]

@[simp] theorem rrcMissed_keeps (c : Nat) (s : State) :
    (rrcMissed c s).mem = s.mem ∧ (rrcMissed c s).pending = s.pending ∧ lookup (rrcMissed c s).regs 128 = lookup s.regs 128 := by
  simp +decide [rrcMissed]

@[simp] theorem recCountPost_keeps (counts : Bool) (s : State) :
    (recCountPost counts s).mem = s.mem ∧ (recCountPost counts s).pending = s.pending ∧ lookup (recCountPost counts s).regs 128 = lookup s.regs 128 := by
  change Same s _
  unfold recCountPost
  repeat' split
  all_goals simp +decide [Same]

@[simp] theorem recBreak_keeps (s : State) :
    (recBreak s).mem = s.mem ∧ (recBreak s).pending = s.pending ∧ lookup (recBreak s).regs 128 = lookup s.regs 128 := by
  simp +decide [recBreak]

@[simp] theorem recGapB_keeps (since : Nat) (s : State) :
    (recGapB since s).mem = s.mem ∧ (recGapB since s).pending = s.pending ∧ lookup (recGapB since s).regs 128 = lookup s.regs 128 := by
  simp +decide [recGapB]

@[simp] theorem rateToLow_keeps (s : State) :
    (rateToLow s).mem = s.mem ∧ (rateToLow s).pending = s.pending ∧ lookup (rateToLow s).regs 128 = lookup s.regs 128 := by
  simp +decide [rateToLow]

@[simp] theorem rateToFull_keeps (s : State) :
    (rateToFull s).mem = s.mem ∧ (rateToFull s).pending = s.pending ∧ lookup (rateToFull s).regs 128 = lookup s.regs 128 := by
  simp +decide [rateToFull]

@[simp] theorem recEnable_keeps (s : State) :
    (recEnable s).mem = s.mem ∧ (recEnable s).pending = s.pending ∧ lookup (recEnable s).regs 128 = lookup s.regs 128 := by
  change Same s _
  unfold recEnable
  repeat' split
  all_goals simp +decide [Same]

@[simp] theorem recDisable_keeps (s : State) :
    (recDisable s).mem = s.mem ∧ (recDisable s).pending = s.pending ∧ lookup (recDisable s).regs 128 = lookup s.regs 128 := by
  simp +decide [recDisable]

@[simp] theorem recArm_keeps (s : State) :
    (recArm s).mem = s.mem ∧ (recArm s).pending = s.pending ∧ lookup (recArm s).regs 128 = lookup s.regs 128 := by
  simp +decide [recArm]

@[simp] theorem recNext_keeps (s : State) :
    (recNext s).mem = s.mem ∧ (recNext s).pending = s.pending ∧ lookup (recNext s).regs 128 = lookup s.regs 128 := by
  simp +decide [recNext]

@[simp] theorem recStore_keeps (s : State) :
    (recStore s).pending = s.pending ∧ lookup (recStore s).regs 128 = lookup s.regs 128 := by
  unfold recStore
  rw [memWrite_pending, memWrite_pending, memWrite_regs, memWrite_regs]
  exact ⟨rfl, rfl⟩

theorem recBlock_lost_keeps (s : State) :
    SameButMem s (let s := s.count HFE_REC_LOST.LOST 0 50
      let s := recCountPost s.recorder.trigger.isSome s
      recNext { s with recorder := { s.recorder with gapFrames := s.recorder.gapFrames + 50, gap := true } }) := by
  have k : ∀ (t : State), lookup (t.count HFE_REC_LOST.LOST 0 50).regs 128 = lookup t.regs 128 :=
    fun t => count_cur _ _ _ _ (by decide)
  simp [SameButMem, k]

theorem recBlock_stored_keeps (t : State) :
    SameButMem t (let s := t.wr HFE_REC_SEQ_LO.SEQ t.recorder.seq
      let s := { s with recorder := { s.recorder with
        seq := s.recorder.seq + 1, gapFrames := 0, gap := false, gapUnknown := false } }
      recNext (recCountPost true s)) := by
  have h : ∀ (t : State) (v : Nat), lookup (t.wr HFE_REC_SEQ_LO.SEQ v).regs 128 = lookup t.regs 128 :=
    fun t v => wr_cur _ _ _ _ (by decide)
  simp [SameButMem, h]

@[simp] theorem recBlock_keeps (lost : Bool) (s : State) :
    (recBlock lost s).pending = s.pending ∧ lookup (recBlock lost s).regs 128 = lookup s.regs 128 := by
  change SameButMem s _
  unfold recBlock
  split
  · exact ⟨rfl, rfl⟩
  split
  · exact recBlock_lost_keeps s
  · exact SameButMem.trans (recStore_keeps s) (recBlock_stored_keeps _)

@[simp] theorem recLatchSeq_keeps (s : State) :
    (recLatchSeq s).mem = s.mem ∧ (recLatchSeq s).pending = s.pending ∧ lookup (recLatchSeq s).regs 128 = lookup s.regs 128 := by
  simp +decide [recLatchSeq]

end Sys2Proof.Machine
end

