-- ==== Sys2Proof/Laws/KeepsHfeTest.lean ====
section
/-!
SUPPORT. What the operations of `Machine/HfeTest.lean` leave alone: device memory, the queue of commands, the current mode.
-/
namespace Sys2Proof.Machine

@[simp] theorem advanceOrder_keeps (s : State) :
    (advanceOrder s).mem = s.mem ∧ (advanceOrder s).pending = s.pending ∧ lookup (advanceOrder s).regs 128 = lookup s.regs 128 := by
  change Same s _
  unfold advanceOrder
  repeat' split
  all_goals simp +decide [Same]

@[simp] theorem deferTest_keeps (q : Nat) (s : State) :
    (deferTest q s).mem = s.mem ∧ (deferTest q s).pending = s.pending ∧ lookup (deferTest q s).regs 128 = lookup s.regs 128 := by
  simp +decide [deferTest]

@[simp] theorem storeReference_keeps (q : Nat) (s : State) :
    (storeReference q s).mem = s.mem ∧ (storeReference q s).pending = s.pending ∧ lookup (storeReference q s).regs 128 = lookup s.regs 128 := by
  simp +decide [storeReference]

@[simp] theorem startSlot_keeps (q : Nat) (s : State) :
    (startSlot q s).mem = s.mem ∧ (startSlot q s).pending = s.pending ∧ lookup (startSlot q s).regs 128 = lookup s.regs 128 := by
  simp +decide [startSlot]

@[simp] theorem testSlotStart_keeps (s : State) :
    (testSlotStart s).mem = s.mem ∧ (testSlotStart s).pending = s.pending ∧ lookup (testSlotStart s).regs 128 = lookup s.regs 128 := by
  change Same s _
  unfold testSlotStart
  dsimp only
  repeat' split
  all_goals simp +decide [Same]

@[simp] theorem confirmCandidate_keeps (q : Nat) (c : Candidate) (s : State) :
    (confirmCandidate q c s).mem = s.mem ∧ (confirmCandidate q c s).pending = s.pending ∧ lookup (confirmCandidate q c s).regs 128 = lookup s.regs 128 := by
  simp +decide [confirmCandidate]

@[simp] theorem oweRepeat_keeps (q : Nat) (c : Candidate) (run : Nat) (s : State) :
    (oweRepeat q c run s).mem = s.mem ∧ (oweRepeat q c run s).pending = s.pending ∧ lookup (oweRepeat q c run s).regs 128 = lookup s.regs 128 := by
  simp +decide [oweRepeat]

@[simp] theorem testCandidate_keeps (q : Nat) (c : Candidate) (s : State) :
    (testCandidate q c s).mem = s.mem ∧ (testCandidate q c s).pending = s.pending ∧ lookup (testCandidate q c s).regs 128 = lookup s.regs 128 := by
  change Same s _
  unfold testCandidate
  dsimp only
  repeat' split
  all_goals simp +decide [Same]

@[simp] theorem testPass_keeps (q : Nat) (s : State) :
    (testPass q s).mem = s.mem ∧ (testPass q s).pending = s.pending ∧ lookup (testPass q s).regs 128 = lookup s.regs 128 := by
  simp +decide [testPass]

@[simp] theorem testCompleted_keeps (q : Nat) (s : State) :
    (testCompleted q s).mem = s.mem ∧ (testCompleted q s).pending = s.pending ∧ lookup (testCompleted q s).regs 128 = lookup s.regs 128 := by
  simp +decide [testCompleted]

@[simp] theorem decideSlot_keeps (sl : Slot) (c : Option Candidate) (s : State) :
    (decideSlot sl c s).mem = s.mem ∧ (decideSlot sl c s).pending = s.pending ∧ lookup (decideSlot sl c s).regs 128 = lookup s.regs 128 := by
  change Same s _
  unfold decideSlot
  repeat' split
  all_goals simp +decide [Same]

@[simp] theorem finishSlot_keeps (sl : Slot) (s : State) :
    (finishSlot sl s).mem = s.mem ∧ (finishSlot sl s).pending = s.pending ∧ lookup (finishSlot sl s).regs 128 = lookup s.regs 128 := by
  simp +decide [finishSlot]

@[simp] theorem abandonSlot_keeps (sl : Slot) (s : State) :
    (abandonSlot sl s).mem = s.mem ∧ (abandonSlot sl s).pending = s.pending ∧ lookup (abandonSlot sl s).regs 128 = lookup s.regs 128 := by
  simp +decide [abandonSlot]

@[simp] theorem pulseOff_keeps (q : Nat) (s : State) :
    (pulseOff q s).mem = s.mem ∧ (pulseOff q s).pending = s.pending ∧ lookup (pulseOff q s).regs 128 = lookup s.regs 128 := by
  simp +decide [pulseOff]

@[simp] theorem testPulseEnd_keeps (s : State) :
    (testPulseEnd s).mem = s.mem ∧ (testPulseEnd s).pending = s.pending ∧ lookup (testPulseEnd s).regs 128 = lookup s.regs 128 := by
  change Same s _
  unfold testPulseEnd
  dsimp only
  repeat' split
  all_goals simp +decide [Same]

@[simp] theorem testRestartCheck_keeps (s : State) :
    (testRestartCheck s).mem = s.mem ∧ (testRestartCheck s).pending = s.pending ∧ lookup (testRestartCheck s).regs 128 = lookup s.regs 128 := by
  change Same s _
  unfold testRestartCheck
  repeat' split
  all_goals simp +decide [Same]

@[simp] theorem testSlotEnd_keeps (s : State) :
    (testSlotEnd s).mem = s.mem ∧ (testSlotEnd s).pending = s.pending ∧ lookup (testSlotEnd s).regs 128 = lookup s.regs 128 := by
  change Same s _
  unfold testSlotEnd
  repeat' split
  all_goals simp +decide [Same]

@[simp] theorem testTick_keeps (s : State) :
    (testTick s).mem = s.mem ∧ (testTick s).pending = s.pending ∧ lookup (testTick s).regs 128 = lookup s.regs 128 := by
  change Same s _
  unfold testTick
  repeat' split
  all_goals simp +decide [Same]

@[simp] theorem endSlotNow_keeps (s : State) :
    (endSlotNow s).mem = s.mem ∧ (endSlotNow s).pending = s.pending ∧ lookup (endSlotNow s).regs 128 = lookup s.regs 128 := by
  change Same s _
  unfold endSlotNow
  repeat' split
  all_goals simp +decide [Same]

@[simp] theorem testLate_keeps (q : Nat) (s : State) :
    (testLate q s).mem = s.mem ∧ (testLate q s).pending = s.pending ∧ lookup (testLate q s).regs 128 = lookup s.regs 128 := by
  simp +decide [testLate]

@[simp] theorem testItemBegin_keeps (s : State) :
    (testItemBegin s).mem = s.mem ∧ (testItemBegin s).pending = s.pending ∧ lookup (testItemBegin s).regs 128 = lookup s.regs 128 := by
  simp +decide [testItemBegin]

@[simp] theorem testProofBegin_keeps (s : State) :
    (testProofBegin s).mem = s.mem ∧ (testProofBegin s).pending = s.pending ∧ lookup (testProofBegin s).regs 128 = lookup s.regs 128 := by
  simp +decide [testProofBegin]

@[simp] theorem testItemEnd_keeps (s : State) :
    (testItemEnd s).mem = s.mem ∧ (testItemEnd s).pending = s.pending
      ∧ lookup (testItemEnd s).regs 128 = lookup s.regs 128 := by
  unfold testItemEnd
  refine ⟨?_, ?_, ?_⟩
  · rw [each_mem]
    intro q t; split <;> simp
  · rw [each_pending]
    intro q t; split <;> simp
  · rw [each_cur]
    intro q t; split <;> simp

@[simp] theorem testProofEnd_keeps (s : State) :
    (testProofEnd s).mem = s.mem ∧ (testProofEnd s).pending = s.pending ∧ lookup (testProofEnd s).regs 128 = lookup s.regs 128 := by
  simp +decide [testProofEnd]

end Sys2Proof.Machine
end

