-- ==== Sys2Proof/Laws/KeepsChafer.lean ====
section
/-!
SUPPORT. What the operations of `Machine/Chafer.lean` leave alone: device memory, the queue of commands, the current mode.
-/
namespace Sys2Proof.Machine

@[simp] theorem showSeq_keeps (r : ChRec) (posted : Bool) (s : State) :
    (showSeq r posted s).mem = s.mem ∧ (showSeq r posted s).pending = s.pending ∧ lookup (showSeq r posted s).regs 128 = lookup s.regs 128 := by
  simp +decide [showSeq]

@[simp] theorem postToRing_keeps (r : ChRec) (s : State) :
    (postToRing r s).pending = s.pending ∧ lookup (postToRing r s).regs 128 = lookup s.regs 128 := by
  simp +decide [postToRing]

@[simp] theorem completeRecord_keeps (h : Nat) (r : ChRec) (s : State) :
    ((completeRecord h r s).1).mem = s.mem ∧ ((completeRecord h r s).1).pending = s.pending ∧ lookup ((completeRecord h r s).1).regs 128 = lookup s.regs 128 := by
  simp +decide [completeRecord]

@[simp] theorem loseRecord_keeps (r : ChRec) (s : State) :
    (loseRecord r s).mem = s.mem ∧ (loseRecord r s).pending = s.pending ∧ lookup (loseRecord r s).regs 128 = lookup s.regs 128 := by
  simp +decide [loseRecord]

@[simp] theorem enterHeadState_keeps (h st cause : Nat) (s : State) :
    (enterHeadState h st cause s).mem = s.mem ∧ (enterHeadState h st cause s).pending = s.pending ∧ lookup (enterHeadState h st cause s).regs 128 = lookup s.regs 128 := by
  simp +decide [enterHeadState]

@[simp] theorem ringFull_keeps (h : Nat) (s : State) :
    (ringFull h s).mem = s.mem ∧ (ringFull h s).pending = s.pending ∧ lookup (ringFull h s).regs 128 = lookup s.regs 128 := by
  simp +decide [ringFull]

@[simp] theorem issueRecord_keeps (h : Nat) (r : ChRec) (s : State) :
    (issueRecord h r s).pending = s.pending ∧ lookup (issueRecord h r s).regs 128 = lookup s.regs 128 := by
  simp +decide [issueRecord]

@[simp] theorem recordPost_keeps (s : State) :
    (recordPost s).pending = s.pending ∧ lookup (recordPost s).regs 128 = lookup s.regs 128 := by
  change SameButMem s _
  unfold recordPost
  repeat' split
  all_goals simp +decide [SameButMem]

@[simp] theorem disturbHead_keeps (h cause : Nat) (s : State) :
    (disturbHead h cause s).pending = s.pending ∧ lookup (disturbHead h cause s).regs 128 = lookup s.regs 128 := by
  simp +decide [disturbHead]

@[simp] theorem failHead_keeps (h cause : Nat) (s : State) :
    (failHead h cause s).pending = s.pending ∧ lookup (failHead h cause s).regs 128 = lookup s.regs 128 := by
  simp +decide [failHead]

@[simp] theorem markRestart_keeps (h : Nat) (s : State) :
    (markRestart h s).mem = s.mem ∧ (markRestart h s).pending = s.pending ∧ lookup (markRestart h s).regs 128 = lookup s.regs 128 := by
  simp +decide [markRestart]

@[simp] theorem unfailHead_keeps (h : Nat) (s : State) :
    (unfailHead h s).pending = s.pending ∧ lookup (unfailHead h s).regs 128 = lookup s.regs 128 := by
  simp +decide [unfailHead]

@[simp] theorem headToOk_keeps (h : Nat) (s : State) :
    (headToOk h s).pending = s.pending ∧ lookup (headToOk h s).regs 128 = lookup s.regs 128 := by
  simp +decide [headToOk]

@[simp] theorem countKind_keeps (h kind : Nat) (s : State) :
    (countKind h kind s).mem = s.mem ∧ (countKind h kind s).pending = s.pending ∧ lookup (countKind h kind s).regs 128 = lookup s.regs 128 := by
  simp +decide [countKind]

@[simp] theorem showWheel_keeps (h : Nat) (r : ChRec) (s : State) :
    (showWheel h r s).mem = s.mem ∧ (showWheel h r s).pending = s.pending ∧ lookup (showWheel h r s).regs 128 = lookup s.regs 128 := by
  simp +decide [showWheel]

@[simp] theorem issuePassage_keeps (h : Nat) (r : ChRec) (s : State) :
    (issuePassage h r s).pending = s.pending ∧ lookup (issuePassage h r s).regs 128 = lookup s.regs 128 := by
  simp +decide [issuePassage]

@[simp] theorem showDrift_keeps (h : Nat) (s : State) :
    (showDrift h s).mem = s.mem ∧ (showDrift h s).pending = s.pending ∧ lookup (showDrift h s).regs 128 = lookup s.regs 128 := by
  simp +decide [showDrift]

@[simp] theorem commitHead_keeps (h : Nat) (failing : Bool) (s : State) :
    (commitHead h failing s).pending = s.pending ∧ lookup (commitHead h failing s).regs 128 = lookup s.regs 128 := by
  change SameButMem s _
  unfold commitHead
  dsimp only
  repeat' split
  all_goals simp +decide [SameButMem]

@[simp] theorem feedCancelled_keeps (h t : Nat) (s : State) :
    (feedCancelled h t s).mem = s.mem ∧ (feedCancelled h t s).pending = s.pending ∧ lookup (feedCancelled h t s).regs 128 = lookup s.regs 128 := by
  simp +decide [feedCancelled]

@[simp] theorem sliceWorks_keeps (h : Nat) (s : State) :
    (sliceWorks h s).mem = s.mem ∧ (sliceWorks h s).pending = s.pending ∧ lookup (sliceWorks h s).regs 128 = lookup s.regs 128 := by
  simp +decide [sliceWorks]

@[simp] theorem noteFaults_keeps (h : Nat) (s : State) :
    (noteFaults h s).mem = s.mem ∧ (noteFaults h s).pending = s.pending ∧ lookup (noteFaults h s).regs 128 = lookup s.regs 128 := by
  simp +decide [noteFaults]

@[simp] theorem workTick_keeps (h t ns : Nat) (s : State) :
    (workTick h t ns s).pending = s.pending ∧ lookup (workTick h t ns s).regs 128 = lookup s.regs 128 := by
  simp +decide [workTick]

@[simp] theorem chaferWork_keeps (h n : Nat) (s : State) :
    (chaferWork h n s).pending = s.pending ∧ lookup (chaferWork h n s).regs 128 = lookup s.regs 128 := by
  induction n generalizing s with
  | zero => simp [chaferWork]
  | succ n ih =>
    change SameButMem s _
    unfold chaferWork
    repeat' split
    all_goals simp [SameButMem, ih]

@[simp] theorem chaferTake_keeps (h : Nat) (s : State) :
    (chaferTake h s).mem = s.mem ∧ (chaferTake h s).pending = s.pending ∧ lookup (chaferTake h s).regs 128 = lookup s.regs 128 := by
  simp +decide [chaferTake]

@[simp] theorem chaferTick_keeps (h : Nat) (s : State) :
    (chaferTick h s).pending = s.pending ∧ lookup (chaferTick h s).regs 128 = lookup s.regs 128 := by
  simp +decide [chaferTick]

@[simp] theorem correctionArrives_keeps (q tag : Nat) (corr : Int) (s : State) :
    (correctionArrives q tag corr s).pending = s.pending ∧ lookup (correctionArrives q tag corr s).regs 128 = lookup s.regs 128 := by
  simp +decide [correctionArrives]

@[simp] theorem discrepancyTimeout_keeps (h : Nat) (s : State) :
    (discrepancyTimeout h s).pending = s.pending ∧ lookup (discrepancyTimeout h s).regs 128 = lookup s.regs 128 := by
  simp +decide [discrepancyTimeout]

@[simp] theorem standing_keeps (h : Nat) (s : State) :
    (standing h s).mem = s.mem ∧ (standing h s).pending = s.pending ∧ lookup (standing h s).regs 128 = lookup s.regs 128 := by
  simp +decide [standing]

@[simp] theorem headQuiet_keeps (h : Nat) (s : State) :
    (headQuiet h s).pending = s.pending ∧ lookup (headQuiet h s).regs 128 = lookup s.regs 128 := by
  simp +decide [headQuiet]

@[simp] theorem chaferStop_keeps (s : State) :
    (chaferStop s).mem = s.mem ∧ (chaferStop s).pending = s.pending ∧ lookup (chaferStop s).regs 128 = lookup s.regs 128 := by
  simp +decide [chaferStop]

@[simp] theorem startHead_keeps (h : Nat) (s : State) :
    (startHead h s).pending = s.pending ∧ lookup (startHead h s).regs 128 = lookup s.regs 128 := by
  simp +decide [startHead]

@[simp] theorem chaferStart_keeps (s : State) :
    (chaferStart s).pending = s.pending ∧ lookup (chaferStart s).regs 128 = lookup s.regs 128 := by
  simp +decide [chaferStart]

@[simp] theorem restartHead_keeps (h : Nat) (s : State) :
    (restartHead h s).mem = s.mem ∧ (restartHead h s).pending = s.pending ∧ lookup (restartHead h s).regs 128 = lookup s.regs 128 := by
  simp +decide [restartHead]

@[simp] theorem chaferRestart_keeps (s : State) :
    (chaferRestart s).mem = s.mem ∧ (chaferRestart s).pending = s.pending ∧ lookup (chaferRestart s).regs 128 = lookup s.regs 128 := by
  simp +decide [chaferRestart]

@[simp] theorem latchHeadMaps_keeps (s : State) :
    (latchHeadMaps s).mem = s.mem ∧ (latchHeadMaps s).pending = s.pending ∧ lookup (latchHeadMaps s).regs 128 = lookup s.regs 128 := by
  simp +decide [latchHeadMaps]

@[simp] theorem consumeRecords_keeps (s : State) :
    (consumeRecords s).pending = s.pending ∧ lookup (consumeRecords s).regs 128 = lookup s.regs 128 := by
  simp +decide [consumeRecords]

end Sys2Proof.Machine
end

