-- ==== Sys2Proof/Laws/KeepsNbl.lean ====
section
/-!
SUPPORT. What the operations of `Machine/Nbl.lean` leave alone: device memory, the queue of commands, the current mode.
-/
namespace Sys2Proof.Machine

@[simp] theorem modLink_keeps (s : State) (l : Nat) (f : Link → Link) :
    (State.modLink s l f).mem = s.mem ∧ (State.modLink s l f).pending = s.pending ∧ lookup (State.modLink s l f).regs 128 = lookup s.regs 128 := by
  simp +decide [State.modLink]

@[simp] theorem showConf_keeps (l : Nat) (s : State) :
    (showConf l s).mem = s.mem ∧ (showConf l s).pending = s.pending ∧ lookup (showConf l s).regs 128 = lookup s.regs 128 := by
  simp +decide [showConf]

@[simp] theorem linkEnter_keeps (l new : Nat) (s : State) :
    (linkEnter l new s).mem = s.mem ∧ (linkEnter l new s).pending = s.pending ∧ lookup (linkEnter l new s).regs 128 = lookup s.regs 128 := by
  simp +decide [linkEnter]

@[simp] theorem linkGo_keeps (l new left : Nat) (s : State) :
    (linkGo l new left s).mem = s.mem ∧ (linkGo l new left s).pending = s.pending ∧ lookup (linkGo l new left s).regs 128 = lookup s.regs 128 := by
  simp +decide [linkGo]

@[simp] theorem linkProofBegin_keeps (l : Nat) (s : State) :
    (linkProofBegin l s).mem = s.mem ∧ (linkProofBegin l s).pending = s.pending ∧ lookup (linkProofBegin l s).regs 128 = lookup s.regs 128 := by
  simp +decide [linkProofBegin]

@[simp] theorem linkEstablish_keeps (l : Nat) (s : State) :
    (linkEstablish l s).mem = s.mem ∧ (linkEstablish l s).pending = s.pending ∧ lookup (linkEstablish l s).regs 128 = lookup s.regs 128 := by
  simp +decide [linkEstablish]

@[simp] theorem linkToDown_keeps (l : Nat) (s : State) :
    (linkToDown l s).mem = s.mem ∧ (linkToDown l s).pending = s.pending ∧ lookup (linkToDown l s).regs 128 = lookup s.regs 128 := by
  simp +decide [linkToDown]

@[simp] theorem linkDeclareLost_keeps (l : Nat) (s : State) :
    (linkDeclareLost l s).mem = s.mem ∧ (linkDeclareLost l s).pending = s.pending ∧ lookup (linkDeclareLost l s).regs 128 = lookup s.regs 128 := by
  simp +decide [linkDeclareLost]

@[simp] theorem modSec_keeps (s : State) (x : Nat) (f : Section → Section) :
    (State.modSec s x f).mem = s.mem ∧ (State.modSec s x f).pending = s.pending ∧ lookup (State.modSec s x f).regs 128 = lookup s.regs 128 := by
  simp +decide [State.modSec]

@[simp] theorem frameSent_keeps (l : Nat) (s : State) :
    (frameSent l s).mem = s.mem ∧ (frameSent l s).pending = s.pending ∧ lookup (frameSent l s).regs 128 = lookup s.regs 128 := by
  simp +decide [frameSent]

@[simp] theorem frameTransmit_keeps (l : Nat) (s : State) :
    (frameTransmit l s).mem = s.mem ∧ (frameTransmit l s).pending = s.pending ∧ lookup (frameTransmit l s).regs 128 = lookup s.regs 128 := by
  simp +decide [frameTransmit]

@[simp] theorem countReject_keeps (l reason : Nat) (s : State) :
    (countReject l reason s).mem = s.mem ∧ (countReject l reason s).pending = s.pending ∧ lookup (countReject l reason s).regs 128 = lookup s.regs 128 := by
  simp +decide [countReject]

@[simp] theorem linkRun_keeps (l : Nat) (s : State) :
    (linkRun l s).mem = s.mem ∧ (linkRun l s).pending = s.pending ∧ lookup (linkRun l s).regs 128 = lookup s.regs 128 := by
  simp +decide [linkRun]

@[simp] theorem frameRejected_keeps (l reason : Nat) (bs : List Nat) (s : State) :
    (frameRejected l reason bs s).mem = s.mem ∧ (frameRejected l reason bs s).pending = s.pending ∧ lookup (frameRejected l reason bs s).regs 128 = lookup s.regs 128 := by
  simp +decide [frameRejected]

@[simp] theorem linkAccepted_keeps (l : Nat) (conf fold : Bool) (s : State) :
    (linkAccepted l conf fold s).mem = s.mem ∧ (linkAccepted l conf fold s).pending = s.pending ∧ lookup (linkAccepted l conf fold s).regs 128 = lookup s.regs 128 := by
  simp +decide [linkAccepted]

@[simp] theorem countSkipped_keeps (l cnt : Nat) (fold : Bool) (s : State) :
    (countSkipped l cnt fold s).mem = s.mem ∧ (countSkipped l cnt fold s).pending = s.pending ∧ lookup (countSkipped l cnt fold s).regs 128 = lookup s.regs 128 := by
  change Same s _
  unfold countSkipped
  repeat' split
  all_goals simp +decide [Same]

@[simp] theorem frameAccepted_keeps (l : Nat) (bs : List Nat) (t : Nat) (s : State) :
    (frameAccepted l bs t s).mem = s.mem ∧ (frameAccepted l bs t s).pending = s.pending ∧ lookup (frameAccepted l bs t s).regs 128 = lookup s.regs 128 := by
  simp +decide [frameAccepted]

@[simp] theorem frameReceived_keeps (l : Nat) (lead line : List Bool) (after : Nat) (s : State) :
    (frameReceived l lead line after s).mem = s.mem ∧ (frameReceived l lead line after s).pending = s.pending ∧ lookup (frameReceived l lead line after s).regs 128 = lookup s.regs 128 := by
  change Same s _
  unfold frameReceived
  dsimp only
  repeat' split
  all_goals simp +decide [Same]

@[simp] theorem frameMissing_keeps (l : Nat) (s : State) :
    (frameMissing l s).mem = s.mem ∧ (frameMissing l s).pending = s.pending ∧ lookup (frameMissing l s).regs 128 = lookup s.regs 128 := by
  simp +decide [frameMissing]

@[simp] theorem linkLoopback_keeps (flips : List LoopFlip) (idle l : Nat) (s : State) :
    (linkLoopback flips idle l s).mem = s.mem ∧ (linkLoopback flips idle l s).pending = s.pending ∧ lookup (linkLoopback flips idle l s).regs 128 = lookup s.regs 128 := by
  simp +decide [linkLoopback]

end Sys2Proof.Machine
end

