-- ==== Sys2Proof/Laws/KeepsCnt.lean ====
section
/-!
SUPPORT. What the operations of `Machine/Cnt.lean` leave alone: device memory, the queue of commands, the current mode.
-/
namespace Sys2Proof.Machine

@[simp] theorem showSection_keeps (x : Nat) (s : State) :
    (showSection x s).mem = s.mem ∧ (showSection x s).pending = s.pending ∧ lookup (showSection x s).regs 128 = lookup s.regs 128 := by
  simp +decide [showSection]

@[simp] theorem secGo_keeps (x st cause : Nat) (s : State) :
    (secGo x st cause s).mem = s.mem ∧ (secGo x st cause s).pending = s.pending ∧ lookup (secGo x st cause s).regs 128 = lookup s.regs 128 := by
  simp +decide [secGo]

@[simp] theorem endPrep_keeps (x : Nat) (s : State) :
    (endPrep x s).mem = s.mem ∧ (endPrep x s).pending = s.pending ∧ lookup (endPrep x s).regs 128 = lookup s.regs 128 := by
  simp +decide [endPrep]

@[simp] theorem disturbSection_keeps (x cause : Nat) (s : State) :
    (disturbSection x cause s).mem = s.mem ∧ (disturbSection x cause s).pending = s.pending ∧ lookup (disturbSection x cause s).regs 128 = lookup s.regs 128 := by
  simp +decide [disturbSection]

@[simp] theorem addCause_keeps (x cause : Nat) (s : State) :
    (addCause x cause s).mem = s.mem ∧ (addCause x cause s).pending = s.pending ∧ lookup (addCause x cause s).regs 128 = lookup s.regs 128 := by
  simp +decide [addCause]

@[simp] theorem completeReset_keeps (x cause : Nat) (s : State) :
    (completeReset x cause s).mem = s.mem ∧ (completeReset x cause s).pending = s.pending ∧ lookup (completeReset x cause s).regs 128 = lookup s.regs 128 := by
  simp +decide [completeReset]

@[simp] theorem applyCount_keeps (x : Nat) (d : Int) (s : State) :
    (applyCount x d s).mem = s.mem ∧ (applyCount x d s).pending = s.pending ∧ lookup (applyCount x d s).regs 128 = lookup s.regs 128 := by
  simp +decide [applyCount]

@[simp] theorem applyWheelAt_keeps (p dir x : Nat) (s : State) :
    (applyWheelAt p dir x s).mem = s.mem ∧ (applyWheelAt p dir x s).pending = s.pending ∧ lookup (applyWheelAt p dir x s).regs 128 = lookup s.regs 128 := by
  change Same s _
  unfold applyWheelAt
  repeat' split
  all_goals simp +decide [Same]

@[simp] theorem applyWheel_keeps (p dir : Nat) (s : State) :
    (applyWheel p dir s).mem = s.mem ∧ (applyWheel p dir s).pending = s.pending ∧ lookup (applyWheel p dir s).regs 128 = lookup s.regs 128 := by
  simp +decide [applyWheel]

@[simp] theorem writeCopy_keeps (r : ChRec) (s : State) :
    (writeCopy r s).pending = s.pending ∧ lookup (writeCopy r s).regs 128 = lookup s.regs 128 := by
  simp +decide [writeCopy]

@[simp] theorem applyRecord_keeps (r : ChRec) (s : State) :
    (applyRecord r s).pending = s.pending ∧ lookup (applyRecord r s).regs 128 = lookup s.regs 128 := by
  simp +decide [applyRecord]

@[simp] theorem modPoint_keeps (s : State) (p : Nat) (f : Point → Point) :
    (State.modPoint s p f).mem = s.mem ∧ (State.modPoint s p f).pending = s.pending ∧ lookup (State.modPoint s p f).regs 128 = lookup s.regs 128 := by
  simp +decide [State.modPoint]

@[simp] theorem sectionRestore_keeps (x : Nat) (s : State) :
    (sectionRestore x s).mem = s.mem ∧ (sectionRestore x s).pending = s.pending ∧ lookup (sectionRestore x s).regs 128 = lookup s.regs 128 := by
  simp +decide [sectionRestore]

@[simp] theorem applyWheels_keeps (p dir n : Nat) (s : State) :
    (applyWheels p dir n s).mem = s.mem ∧ (applyWheels p dir n s).pending = s.pending
      ∧ lookup (applyWheels p dir n s).regs 128 = lookup s.regs 128 := by
  induction n generalizing s with
  | zero => simp [applyWheels]
  | succ n ih => simp [applyWheels, ih]

theorem eachSectionOf_keeps (p : Nat) (g : Nat → State → State) (h : ∀ x t, Same t (g x t)) (s : State) :
    Same s (eachSectionOf p g s) := by
  have k : ∀ x t, Same t (if t.secUsed x && t.somePoint x (fun q => decide (q = p)) then g x t else t) := by
    intro x t; split
    · exact h x t
    · exact ⟨rfl, rfl, rfl⟩
  exact ⟨upTo_mem _ _ _ (fun x t => (k x t).1), upTo_pending _ _ _ (fun x t => (k x t).2.1),
    upTo_cur _ _ _ (fun x t => (k x t).2.2)⟩

@[simp] theorem pointDeltas_keeps (p : Nat) (bs : List Nat) (s : State) :
    (pointDeltas p bs s).mem = s.mem ∧ (pointDeltas p bs s).pending = s.pending
      ∧ lookup (pointDeltas p bs s).regs 128 = lookup s.regs 128 := by
  change Same s _
  unfold pointDeltas
  dsimp only
  split
  · exact eachSectionOf_keeps _ _ (fun x t => by simp [Same]) _
  · simp +decide [Same]

@[simp] theorem adoptReport_keeps (p : Nat) (bs : List Nat) (s : State) :
    (adoptReport p bs s).mem = s.mem ∧ (adoptReport p bs s).pending = s.pending ∧ lookup (adoptReport p bs s).regs 128 = lookup s.regs 128 := by
  simp +decide [adoptReport]

@[simp] theorem remoteBoundary_keeps (p : Nat) (s : State) :
    (remoteBoundary p s).mem = s.mem ∧ (remoteBoundary p s).pending = s.pending ∧ lookup (remoteBoundary p s).regs 128 = lookup s.regs 128 := by
  change Same s _
  unfold remoteBoundary
  dsimp only
  repeat' split
  all_goals simp +decide [Same]

@[simp] theorem localBoundary_keeps (p : Nat) (s : State) :
    (localBoundary p s).mem = s.mem ∧ (localBoundary p s).pending = s.pending ∧ lookup (localBoundary p s).regs 128 = lookup s.regs 128 := by
  simp +decide [localBoundary]

@[simp] theorem sectionLinkLost_keeps (l x : Nat) (s : State) :
    (sectionLinkLost l x s).mem = s.mem ∧ (sectionLinkLost l x s).pending = s.pending ∧ lookup (sectionLinkLost l x s).regs 128 = lookup s.regs 128 := by
  simp +decide [sectionLinkLost]

@[simp] theorem linkBoundary_keeps (l : Nat) (s : State) :
    (linkBoundary l s).mem = s.mem ∧ (linkBoundary l s).pending = s.pending ∧ lookup (linkBoundary l s).regs 128 = lookup s.regs 128 := by
  simp +decide [linkBoundary]

@[simp] theorem recoveryLinkLost_keeps (x : Nat) (s : State) :
    (recoveryLinkLost x s).mem = s.mem ∧ (recoveryLinkLost x s).pending = s.pending ∧ lookup (recoveryLinkLost x s).regs 128 = lookup s.regs 128 := by
  simp +decide [recoveryLinkLost]

@[simp] theorem loopFailLost_keeps (x : Nat) (s : State) :
    (loopFailLost x s).mem = s.mem ∧ (loopFailLost x s).pending = s.pending ∧ lookup (loopFailLost x s).regs 128 = lookup s.regs 128 := by
  simp +decide [loopFailLost]

@[simp] theorem takeHandshake_keeps (l k : Nat) (s : State) :
    (takeHandshake l k s).mem = s.mem ∧ (takeHandshake l k s).pending = s.pending ∧ lookup (takeHandshake l k s).regs 128 = lookup s.regs 128 := by
  change Same s _
  unfold takeHandshake
  repeat' split
  all_goals simp +decide [Same]

@[simp] theorem takeHandshakes_keeps (l : Nat) (s : State) :
    (takeHandshakes l s).mem = s.mem ∧ (takeHandshakes l s).pending = s.pending ∧ lookup (takeHandshakes l s).regs 128 = lookup s.regs 128 := by
  simp +decide [takeHandshakes]

@[simp] theorem finishReset_keeps (x : Nat) (s : State) :
    (finishReset x s).mem = s.mem ∧ (finishReset x s).pending = s.pending ∧ lookup (finishReset x s).regs 128 = lookup s.regs 128 := by
  simp +decide [finishReset]

@[simp] theorem resetProgress_keeps (x : Nat) (s : State) :
    (resetProgress x s).mem = s.mem ∧ (resetProgress x s).pending = s.pending ∧ lookup (resetProgress x s).regs 128 = lookup s.regs 128 := by
  simp +decide [resetProgress]

@[simp] theorem occupancy_keeps (x : Nat) (s : State) :
    (occupancy x s).mem = s.mem ∧ (occupancy x s).pending = s.pending ∧ lookup (occupancy x s).regs 128 = lookup s.regs 128 := by
  change Same s _
  unfold occupancy
  repeat' split
  all_goals simp +decide [Same]

@[simp] theorem sectionRuns_keeps (x : Nat) (s : State) :
    (sectionRuns x s).mem = s.mem ∧ (sectionRuns x s).pending = s.pending ∧ lookup (sectionRuns x s).regs 128 = lookup s.regs 128 := by
  simp +decide [sectionRuns]

@[simp] theorem evaluateSection_keeps (x : Nat) (s : State) :
    (evaluateSection x s).mem = s.mem ∧ (evaluateSection x s).pending = s.pending ∧ lookup (evaluateSection x s).regs 128 = lookup s.regs 128 := by
  change Same s _
  unfold evaluateSection
  dsimp only
  repeat' split
  all_goals simp +decide [Same]

@[simp] theorem acceptReset_keeps (x op : Nat) (s : State) :
    (acceptReset x op s).mem = s.mem ∧ (acceptReset x op s).pending = s.pending ∧ lookup (acceptReset x op s).regs 128 = lookup s.regs 128 := by
  simp +decide [acceptReset]

@[simp] theorem resetStart_keeps (x op : Nat) (s : State) :
    ((resetStart x op s).1).mem = s.mem ∧ ((resetStart x op s).1).pending = s.pending ∧ lookup ((resetStart x op s).1).regs 128 = lookup s.regs 128 := by
  change Same s _
  unfold resetStart
  repeat' split
  all_goals simp +decide [Same]

@[simp] theorem resetConfirm_keeps (x token : Nat) (s : State) :
    ((resetConfirm x token s).1).mem = s.mem ∧ ((resetConfirm x token s).1).pending = s.pending ∧ lookup ((resetConfirm x token s).1).regs 128 = lookup s.regs 128 := by
  change Same s _
  unfold resetConfirm
  repeat' split
  all_goals simp +decide [Same]

@[simp] theorem resetAbort_keeps (x : Nat) (s : State) :
    ((resetAbort x s).1).mem = s.mem ∧ ((resetAbort x s).1).pending = s.pending ∧ lookup ((resetAbort x s).1).regs 128 = lookup s.regs 128 := by
  change Same s _
  unfold resetAbort
  repeat' split
  all_goals simp +decide [Same]

@[simp] theorem resetEvaluate_keeps (q : ResetReq) (s : State) :
    ((resetEvaluate q s).1).mem = s.mem ∧ ((resetEvaluate q s).1).pending = s.pending ∧ lookup ((resetEvaluate q s).1).regs 128 = lookup s.regs 128 := by
  change Same s _
  unfold resetEvaluate
  dsimp only
  repeat' split
  all_goals simp +decide [Same]

@[simp] theorem resetOutcome_keeps (q : ResetReq) (st : Status) (s : State) :
    (resetOutcome q st s).mem = s.mem ∧ (resetOutcome q st s).pending = s.pending ∧ lookup (resetOutcome q st s).regs 128 = lookup s.regs 128 := by
  change Same s _
  unfold resetOutcome
  repeat' split
  all_goals simp +decide [Same]

@[simp] theorem resetBoundary_keeps (s : State) :
    (resetBoundary s).mem = s.mem ∧ (resetBoundary s).pending = s.pending ∧ lookup (resetBoundary s).regs 128 = lookup s.regs 128 := by
  change Same s _
  unfold resetBoundary
  dsimp only
  repeat' split
  all_goals simp +decide [Same]

@[simp] theorem resetRefuse_keeps (s : State) :
    (resetRefuse s).mem = s.mem ∧ (resetRefuse s).pending = s.pending ∧ lookup (resetRefuse s).regs 128 = lookup s.regs 128 := by
  change Same s _
  unfold resetRefuse
  repeat' split
  all_goals simp +decide [Same]

@[simp] theorem resetWrite_keeps (q : ResetReq) (s : State) :
    (resetWrite q s).mem = s.mem ∧ (resetWrite q s).pending = s.pending ∧ lookup (resetWrite q s).regs 128 = lookup s.regs 128 := by
  change Same s _
  unfold resetWrite
  repeat' split
  all_goals simp +decide [Same]

@[simp] theorem resetCommand_keeps (ch op x token : Nat) (s : State) :
    (resetCommand ch op x token s).mem = s.mem ∧ (resetCommand ch op x token s).pending = s.pending ∧ lookup (resetCommand ch op x token s).regs 128 = lookup s.regs 128 := by
  change Same s _
  unfold resetCommand
  repeat' split
  all_goals simp +decide [Same]

@[simp] theorem cntForce_keeps (x : Nat) (s : State) :
    (cntForce x s).mem = s.mem ∧ (cntForce x s).pending = s.pending ∧ lookup (cntForce x s).regs 128 = lookup s.regs 128 := by
  simp +decide [cntForce]

@[simp] theorem sectionBegin_keeps (x : Nat) (s : State) :
    (sectionBegin x s).mem = s.mem ∧ (sectionBegin x s).pending = s.pending ∧ lookup (sectionBegin x s).regs 128 = lookup s.regs 128 := by
  simp +decide [sectionBegin]

@[simp] theorem published_keeps (s : State) :
    (published s).mem = s.mem ∧ (published s).pending = s.pending ∧ lookup (published s).regs 128 = lookup s.regs 128 := by
  simp +decide [published]

@[simp] theorem publishedStill_keeps (s : State) :
    (publishedStill s).mem = s.mem ∧ (publishedStill s).pending = s.pending ∧ lookup (publishedStill s).regs 128 = lookup s.regs 128 := by
  simp +decide [publishedStill]

@[simp] theorem countingWork_keeps (s : State) :
    (countingWork s).pending = s.pending ∧ lookup (countingWork s).regs 128 = lookup s.regs 128 := by
  simp +decide [countingWork]

@[simp] theorem holdTimers_keeps (x : Nat) (s : State) :
    (holdTimers x s).mem = s.mem ∧ (holdTimers x s).pending = s.pending ∧ lookup (holdTimers x s).regs 128 = lookup s.regs 128 := by
  simp +decide [holdTimers]

@[simp] theorem holdEndsReset_keeps (x : Nat) (s : State) :
    (holdEndsReset x s).mem = s.mem ∧ (holdEndsReset x s).pending = s.pending ∧ lookup (holdEndsReset x s).regs 128 = lookup s.regs 128 := by
  simp +decide [holdEndsReset]

@[simp] theorem countingBoundary_keeps (s : State) :
    (countingBoundary s).pending = s.pending ∧ lookup (countingBoundary s).regs 128 = lookup s.regs 128 := by
  change SameButMem s _
  unfold countingBoundary
  repeat' split
  all_goals simp +decide [SameButMem]

@[simp] theorem saveSections_keeps (kind : SaveKind) (s : State) :
    (saveSections kind s).mem = s.mem ∧ (saveSections kind s).pending = s.pending ∧ lookup (saveSections kind s).regs 128 = lookup s.regs 128 := by
  simp +decide [saveSections]

@[simp] theorem restartSection_keeps (counts : Bool) (x : Nat) (s : State) :
    (restartSection counts x s).mem = s.mem ∧ (restartSection counts x s).pending = s.pending ∧ lookup (restartSection counts x s).regs 128 = lookup s.regs 128 := by
  simp +decide [restartSection]

@[simp] theorem restoreSection_keeps (p : Nat × SavedSection) (s : State) :
    (restoreSection p s).mem = s.mem ∧ (restoreSection p s).pending = s.pending ∧ lookup (restoreSection p s).regs 128 = lookup s.regs 128 := by
  simp +decide [restoreSection]

@[simp] theorem restorePoint_keeps (p : Nat × Nat × Nat) (s : State) :
    (restorePoint p s).mem = s.mem ∧ (restorePoint p s).pending = s.pending ∧ lookup (restorePoint p s).regs 128 = lookup s.regs 128 := by
  simp +decide [restorePoint]

@[simp] theorem resumeSection_keeps (kind : SaveKind) (x : Nat) (s : State) :
    (resumeSection kind x s).mem = s.mem ∧ (resumeSection kind x s).pending = s.pending ∧ lookup (resumeSection kind x s).regs 128 = lookup s.regs 128 := by
  simp +decide [resumeSection]

@[simp] theorem pointAfterGate_keeps (k : Nat) (s : State) :
    (pointAfterGate k s).mem = s.mem ∧ (pointAfterGate k s).pending = s.pending ∧ lookup (pointAfterGate k s).regs 128 = lookup s.regs 128 := by
  simp +decide [pointAfterGate]

@[simp] theorem resumeSections_keeps (s : State) :
    (resumeSections s).mem = s.mem ∧ (resumeSections s).pending = s.pending ∧ lookup (resumeSections s).regs 128 = lookup s.regs 128 := by
  simp +decide [resumeSections]

@[simp] theorem wakeResume_keeps (s : State) :
    (wakeResume s).mem = s.mem ∧ (wakeResume s).pending = s.pending ∧ lookup (wakeResume s).regs 128 = lookup s.regs 128 := by
  simp +decide [wakeResume]

@[simp] theorem sweepDone_keeps (x : Nat) (s : State) :
    (sweepDone x s).mem = s.mem ∧ (sweepDone x s).pending = s.pending ∧ lookup (sweepDone x s).regs 128 = lookup s.regs 128 := by
  simp +decide [sweepDone]

@[simp] theorem confirmedDone_keeps (x : Nat) (s : State) :
    (confirmedDone x s).mem = s.mem ∧ (confirmedDone x s).pending = s.pending ∧ lookup (confirmedDone x s).regs 128 = lookup s.regs 128 := by
  simp +decide [confirmedDone]

@[simp] theorem sectionEvent_keeps (p : State → Bool) (cause x : Nat) (s : State) :
    (sectionEvent p cause x s).mem = s.mem ∧ (sectionEvent p cause x s).pending = s.pending ∧ lookup (sectionEvent p cause x s).regs 128 = lookup s.regs 128 := by
  simp +decide [sectionEvent]

@[simp] theorem tPrepExpiry_keeps (x : Nat) (s : State) :
    (tPrepExpiry x s).mem = s.mem ∧ (tPrepExpiry x s).pending = s.pending ∧ lookup (tPrepExpiry x s).regs 128 = lookup s.regs 128 := by
  simp +decide [tPrepExpiry]

@[simp] theorem tConfMaxExpiry_keeps (x : Nat) (s : State) :
    (tConfMaxExpiry x s).mem = s.mem ∧ (tConfMaxExpiry x s).pending = s.pending ∧ lookup (tConfMaxExpiry x s).regs 128 = lookup s.regs 128 := by
  simp +decide [tConfMaxExpiry]

@[simp] theorem undercount_keeps (x : Nat) (s : State) :
    (undercount x s).mem = s.mem ∧ (undercount x s).pending = s.pending ∧ lookup (undercount x s).regs 128 = lookup s.regs 128 := by
  simp +decide [undercount]

@[simp] theorem linkHoldExpiry_keeps (x : Nat) (s : State) :
    (linkHoldExpiry x s).mem = s.mem ∧ (linkHoldExpiry x s).pending = s.pending ∧ lookup (linkHoldExpiry x s).regs 128 = lookup s.regs 128 := by
  simp +decide [linkHoldExpiry]

@[simp] theorem peerDisagree_keeps (x : Nat) (s : State) :
    (peerDisagree x s).mem = s.mem ∧ (peerDisagree x s).pending = s.pending ∧ lookup (peerDisagree x s).regs 128 = lookup s.regs 128 := by
  simp +decide [peerDisagree]

end Sys2Proof.Machine
end

