-- ==== Sys2Proof/Laws/KeepsPwm.lean ====
section
/-!
SUPPORT. What the operations of `Machine/Pwm.lean` leave alone: device memory, the queue of commands, the current mode.
-/
namespace Sys2Proof.Machine

@[simp] theorem buildAllowed_keeps (g : Nat) (s : State) :
    (buildAllowed g s).mem = s.mem ∧ (buildAllowed g s).pending = s.pending ∧ lookup (buildAllowed g s).regs 128 = lookup s.regs 128 := by
  simp +decide [buildAllowed]

@[simp] theorem barLeg_keeps (m : Nat) (s : State) :
    (barLeg m s).mem = s.mem ∧ (barLeg m s).pending = s.pending ∧ lookup (barLeg m s).regs 128 = lookup s.regs 128 := by
  simp +decide [barLeg]

@[simp] theorem ditherHop_keeps (g : Nat) (s : State) :
    (ditherHop g s).mem = s.mem ∧ (ditherHop g s).pending = s.pending ∧ lookup (ditherHop g s).regs 128 = lookup s.regs 128 := by
  simp +decide [ditherHop]

@[simp] theorem bridgeOn_keeps (j : Nat) (s : State) :
    (bridgeOn j s).mem = s.mem ∧ (bridgeOn j s).pending = s.pending ∧ lookup (bridgeOn j s).regs 128 = lookup s.regs 128 := by
  simp +decide [bridgeOn]

@[simp] theorem bridgeOff_keeps (j : Nat) (s : State) :
    (bridgeOff j s).mem = s.mem ∧ (bridgeOff j s).pending = s.pending ∧ lookup (bridgeOff j s).regs 128 = lookup s.regs 128 := by
  simp +decide [bridgeOff]

@[simp] theorem bridgeEnable_keeps (j : Nat) (on : Bool) (s : State) :
    (bridgeEnable j on s).mem = s.mem ∧ (bridgeEnable j on s).pending = s.pending ∧ lookup (bridgeEnable j on s).regs 128 = lookup s.regs 128 := by
  simp +decide [bridgeEnable]

@[simp] theorem enableWrite_keeps (j : Nat) (w : EnableWrite) (s : State) :
    (enableWrite j w s).mem = s.mem ∧ (enableWrite j w s).pending = s.pending ∧ lookup (enableWrite j w s).regs 128 = lookup s.regs 128 := by
  change Same s _
  unfold enableWrite
  repeat' split
  all_goals simp +decide [Same]

@[simp] theorem bridgesOff_keeps (s : State) :
    (bridgesOff s).mem = s.mem ∧ (bridgesOff s).pending = s.pending ∧ lookup (bridgesOff s).regs 128 = lookup s.regs 128 := by
  simp +decide [bridgesOff]

@[simp] theorem tripBridge_keeps (j cause m : Nat) (s : State) :
    (tripBridge j cause m s).mem = s.mem ∧ (tripBridge j cause m s).pending = s.pending ∧ lookup (tripBridge j cause m s).regs 128 = lookup s.regs 128 := by
  simp +decide [tripBridge]

@[simp] theorem clearTrip_keeps (j : Nat) (s : State) :
    (clearTrip j s).mem = s.mem ∧ (clearTrip j s).pending = s.pending ∧ lookup (clearTrip j s).regs 128 = lookup s.regs 128 := by
  change Same s _
  unfold clearTrip
  dsimp only
  repeat' split
  all_goals simp +decide [Same]

@[simp] theorem clrTrip_keeps (j : Nat) (s : State) :
    (clrTrip j s).mem = s.mem ∧ (clrTrip j s).pending = s.pending ∧ lookup (clrTrip j s).regs 128 = lookup s.regs 128 := by
  simp +decide [clrTrip]

@[simp] theorem dsat_keeps (m : Nat) (asserted : Bool) (s : State) :
    (dsat m asserted s).mem = s.mem ∧ (dsat m asserted s).pending = s.pending ∧ lookup (dsat m asserted s).regs 128 = lookup s.regs 128 := by
  simp +decide [dsat]

@[simp] theorem forceLeg_keeps (m : Nat) (level : Bool) (s : State) :
    (forceLeg m level s).mem = s.mem ∧ (forceLeg m level s).pending = s.pending ∧ lookup (forceLeg m level s).regs 128 = lookup s.regs 128 := by
  simp +decide [forceLeg]

@[simp] theorem crossingAction_keeps (c : Nat) (above : Bool) (s : State) :
    (crossingAction c above s).mem = s.mem ∧ (crossingAction c above s).pending = s.pending ∧ lookup (crossingAction c above s).regs 128 = lookup s.regs 128 := by
  change Same s _
  unfold crossingAction
  repeat' split
  all_goals simp +decide [Same]

@[simp] theorem windowFound_keeps (c : Nat) (level : Option Bool) (s : State) :
    (windowFound c level s).mem = s.mem ∧ (windowFound c level s).pending = s.pending ∧ lookup (windowFound c level s).regs 128 = lookup s.regs 128 := by
  change Same s _
  unfold windowFound
  repeat' split
  all_goals simp +decide [Same]

@[simp] theorem windowCrossing_keeps (c : Nat) (x : Int) (s : State) :
    (windowCrossing c x s).mem = s.mem ∧ (windowCrossing c x s).pending = s.pending ∧ lookup (windowCrossing c x s).regs 128 = lookup s.regs 128 := by
  change Same s _
  unfold windowCrossing
  repeat' split
  all_goals simp +decide [Same]

@[simp] theorem transferDuty_keeps (m : Nat) (s : State) :
    (transferDuty m s).mem = s.mem ∧ (transferDuty m s).pending = s.pending ∧ lookup (transferDuty m s).regs 128 = lookup s.regs 128 := by
  simp +decide [transferDuty]

@[simp] theorem loadPoint_keeps (j : Nat) (s : State) :
    (loadPoint j s).mem = s.mem ∧ (loadPoint j s).pending = s.pending ∧ lookup (loadPoint j s).regs 128 = lookup s.regs 128 := by
  change Same s _
  unfold loadPoint
  repeat' split
  all_goals simp +decide [Same]

@[simp] theorem countForced_keeps (j m : Nat) (s : State) :
    (countForced j m s).mem = s.mem ∧ (countForced j m s).pending = s.pending ∧ lookup (countForced j m s).regs 128 = lookup s.regs 128 := by
  simp +decide [countForced]

@[simp] theorem endForce_keeps (m : Nat) (s : State) :
    (endForce m s).mem = s.mem ∧ (endForce m s).pending = s.pending ∧ lookup (endForce m s).regs 128 = lookup s.regs 128 := by
  simp +decide [endForce]

@[simp] theorem startPeriod_keeps (m : Nat) (s : State) :
    (startPeriod m s).mem = s.mem ∧ (startPeriod m s).pending = s.pending ∧ lookup (startPeriod m s).regs 128 = lookup s.regs 128 := by
  simp +decide [startPeriod]

@[simp] theorem updatePoint_keeps (j : Nat) (peak : Bool) (s : State) :
    (updatePoint j peak s).mem = s.mem ∧ (updatePoint j peak s).pending = s.pending ∧ lookup (updatePoint j peak s).regs 128 = lookup s.regs 128 := by
  simp +decide [updatePoint]

@[simp] theorem loadDuties_keeps (j : Nat) (late : Bool) (s : State) :
    (loadDuties j late s).mem = s.mem ∧ (loadDuties j late s).pending = s.pending ∧ lookup (loadDuties j late s).regs 128 = lookup s.regs 128 := by
  simp +decide [loadDuties]

@[simp] theorem stepDuty_keeps (m d : Nat) (s : State) :
    (stepDuty m d s).mem = s.mem ∧ (stepDuty m d s).pending = s.pending ∧ lookup (stepDuty m d s).regs 128 = lookup s.regs 128 := by
  simp +decide [stepDuty]

@[simp] theorem stepPhase_keeps (j ph d : Nat) (s : State) :
    (stepPhase j ph d s).mem = s.mem ∧ (stepPhase j ph d s).pending = s.pending ∧ lookup (stepPhase j ph d s).regs 128 = lookup s.regs 128 := by
  change Same s _
  unfold stepPhase
  repeat' split
  all_goals simp +decide [Same]

@[simp] theorem stepUpdate_keeps (j : Nat) (duties : Option (Nat × Nat × Nat)) (s : State) :
    (stepUpdate j duties s).mem = s.mem ∧ (stepUpdate j duties s).pending = s.pending ∧ lookup (stepUpdate j duties s).regs 128 = lookup s.regs 128 := by
  change Same s _
  unfold stepUpdate
  repeat' split
  all_goals simp +decide [Same]

@[simp] theorem holdThresholds_keeps (c : Nat) (s : State) :
    (holdThresholds c s).mem = s.mem ∧ (holdThresholds c s).pending = s.pending ∧ lookup (holdThresholds c s).regs 128 = lookup s.regs 128 := by
  simp +decide [holdThresholds]

@[simp] theorem streamTo_keeps (c : Nat) (code : Int) (r : Route) (s : State) :
    (streamTo c code r s).mem = s.mem ∧ (streamTo c code r s).pending = s.pending ∧ lookup (streamTo c code r s).regs 128 = lookup s.regs 128 := by
  change Same s _
  unfold streamTo
  repeat' split
  all_goals simp +decide [Same]

@[simp] theorem pmaDeliver_keeps (c : Nat) (raw : Int) (s : State) :
    (pmaDeliver c raw s).mem = s.mem ∧ (pmaDeliver c raw s).pending = s.pending ∧ lookup (pmaDeliver c raw s).regs 128 = lookup s.regs 128 := by
  simp +decide [pmaDeliver]

@[simp] theorem pmaConversion_keeps (u : Nat) (overrun : Bool) (codes : List Int) (s : State) :
    (pmaConversion u overrun codes s).mem = s.mem ∧ (pmaConversion u overrun codes s).pending = s.pending ∧ lookup (pmaConversion u overrun codes s).regs 128 = lookup s.regs 128 := by
  simp +decide [pmaConversion]

end Sys2Proof.Machine
end

