-- ==== Sys2Proof/Laws/KeepsGfe.lean ====
section
/-!
SUPPORT. What the operations of `Machine/Gfe.lean` leave alone: device memory, the queue of commands, the current mode.
-/
namespace Sys2Proof.Machine

@[simp] theorem modGfe_keeps (s : State) (f : Leaven → Leaven) :
    (State.modGfe s f).mem = s.mem ∧ (State.modGfe s f).pending = s.pending ∧ lookup (State.modGfe s f).regs 128 = lookup s.regs 128 := by
  simp +decide [State.modGfe]

@[simp] theorem gfeGo_keeps (st cause : Nat) (s : State) :
    (gfeGo st cause s).mem = s.mem ∧ (gfeGo st cause s).pending = s.pending ∧ lookup (gfeGo st cause s).regs 128 = lookup s.regs 128 := by
  simp +decide [gfeGo]

@[simp] theorem permitLow_keeps (s : State) :
    (permitLow s).mem = s.mem ∧ (permitLow s).pending = s.pending ∧ lookup (permitLow s).regs 128 = lookup s.regs 128 := by
  simp +decide [permitLow]

@[simp] theorem gfeBridgeOff_keeps (j : Nat) (s : State) :
    (gfeBridgeOff j s).mem = s.mem ∧ (gfeBridgeOff j s).pending = s.pending ∧ lookup (gfeBridgeOff j s).regs 128 = lookup s.regs 128 := by
  simp +decide [gfeBridgeOff]

@[simp] theorem leavenTrip_keeps (cause : Nat) (s : State) :
    (leavenTrip cause s).mem = s.mem ∧ (leavenTrip cause s).pending = s.pending ∧ lookup (leavenTrip cause s).regs 128 = lookup s.regs 128 := by
  simp +decide [leavenTrip]

@[simp] theorem gfeRaise_keeps (cause : Nat) (s : State) :
    (gfeRaise cause s).mem = s.mem ∧ (gfeRaise cause s).pending = s.pending ∧ lookup (gfeRaise cause s).regs 128 = lookup s.regs 128 := by
  simp +decide [gfeRaise]

@[simp] theorem removeBridge_keeps (j reason : Nat) (s : State) :
    (removeBridge j reason s).mem = s.mem ∧ (removeBridge j reason s).pending = s.pending ∧ lookup (removeBridge j reason s).regs 128 = lookup s.regs 128 := by
  simp +decide [removeBridge]

@[simp] theorem measureRuns_keeps (s : State) :
    (measureRuns s).mem = s.mem ∧ (measureRuns s).pending = s.pending ∧ lookup (measureRuns s).regs 128 = lookup s.regs 128 := by
  simp +decide [measureRuns]

@[simp] theorem measureBridge_keeps (j : Nat) (s : State) :
    (measureBridge j s).mem = s.mem ∧ (measureBridge j s).pending = s.pending ∧ lookup (measureBridge j s).regs 128 = lookup s.regs 128 := by
  simp +decide [measureBridge]

@[simp] theorem sampleWindows_keeps (s : State) :
    (sampleWindows s).mem = s.mem ∧ (sampleWindows s).pending = s.pending ∧ lookup (sampleWindows s).regs 128 = lookup s.regs 128 := by
  simp +decide [sampleWindows]

@[simp] theorem measure_keeps (refs : List (Int × Int)) (s : State) :
    (measure refs s).mem = s.mem ∧ (measure refs s).pending = s.pending ∧ lookup (measure refs s).regs 128 = lookup s.regs 128 := by
  simp +decide [measure]

@[simp] theorem supLost_keeps (s : State) :
    (supLost s).mem = s.mem ∧ (supLost s).pending = s.pending ∧ lookup (supLost s).regs 128 = lookup s.regs 128 := by
  simp +decide [supLost]

@[simp] theorem superviseStep_keeps (s : State) :
    (superviseStep s).mem = s.mem ∧ (superviseStep s).pending = s.pending ∧ lookup (superviseStep s).regs 128 = lookup s.regs 128 := by
  simp +decide [superviseStep]

@[simp] theorem gfeKick_keeps (s : State) :
    (gfeKick s).mem = s.mem ∧ (gfeKick s).pending = s.pending ∧ lookup (gfeKick s).regs 128 = lookup s.regs 128 := by
  simp +decide [gfeKick]

@[simp] theorem rampSet_keeps (s : State) :
    (rampSet s).mem = s.mem ∧ (rampSet s).pending = s.pending ∧ lookup (rampSet s).regs 128 = lookup s.regs 128 := by
  simp +decide [rampSet]

@[simp] theorem expireReservations_keeps (s : State) :
    (expireReservations s).mem = s.mem ∧ (expireReservations s).pending = s.pending ∧ lookup (expireReservations s).regs 128 = lookup s.regs 128 := by
  simp +decide [expireReservations]

@[simp] theorem rampFf_keeps (s : State) :
    (rampFf s).mem = s.mem ∧ (rampFf s).pending = s.pending ∧ lookup (rampFf s).regs 128 = lookup s.regs 128 := by
  simp +decide [rampFf]

@[simp] theorem syncStep_keeps (s : State) :
    (syncStep s).mem = s.mem ∧ (syncStep s).pending = s.pending ∧ lookup (syncStep s).regs 128 = lookup s.regs 128 := by
  simp +decide [syncStep]

@[simp] theorem beginStart_keeps (s : State) :
    (beginStart s).mem = s.mem ∧ (beginStart s).pending = s.pending ∧ lookup (beginStart s).regs 128 = lookup s.regs 128 := by
  simp +decide [beginStart]

@[simp] theorem autoStart_keeps (s : State) :
    (autoStart s).mem = s.mem ∧ (autoStart s).pending = s.pending ∧ lookup (autoStart s).regs 128 = lookup s.regs 128 := by
  simp +decide [autoStart]

@[simp] theorem startRamp_keeps (s : State) :
    (startRamp s).mem = s.mem ∧ (startRamp s).pending = s.pending ∧ lookup (startRamp s).regs 128 = lookup s.regs 128 := by
  simp +decide [startRamp]

@[simp] theorem startJoin_keeps (s : State) :
    (startJoin s).mem = s.mem ∧ (startJoin s).pending = s.pending ∧ lookup (startJoin s).regs 128 = lookup s.regs 128 := by
  simp +decide [startJoin]

@[simp] theorem judgeRecheck_keeps (isOver : Bool) (s : State) :
    (judgeRecheck isOver s).mem = s.mem ∧ (judgeRecheck isOver s).pending = s.pending ∧ lookup (judgeRecheck isOver s).regs 128 = lookup s.regs 128 := by
  simp +decide [judgeRecheck]

@[simp] theorem takeBus_keeps (s : State) :
    (takeBus s).mem = s.mem ∧ (takeBus s).pending = s.pending ∧ lookup (takeBus s).regs 128 = lookup s.regs 128 := by
  simp +decide [takeBus]

@[simp] theorem endJoin_keeps (s : State) :
    (endJoin s).mem = s.mem ∧ (endJoin s).pending = s.pending ∧ lookup (endJoin s).regs 128 = lookup s.regs 128 := by
  simp +decide [endJoin]

@[simp] theorem endBlackstart_keeps (s : State) :
    (endBlackstart s).mem = s.mem ∧ (endBlackstart s).pending = s.pending ∧ lookup (endBlackstart s).regs 128 = lookup s.regs 128 := by
  simp +decide [endBlackstart]

@[simp] theorem endRamp_keeps (s : State) :
    (endRamp s).mem = s.mem ∧ (endRamp s).pending = s.pending ∧ lookup (endRamp s).regs 128 = lookup s.regs 128 := by
  simp +decide [endRamp]

@[simp] theorem blackstartStep_keeps (s : State) :
    (blackstartStep s).mem = s.mem ∧ (blackstartStep s).pending = s.pending ∧ lookup (blackstartStep s).regs 128 = lookup s.regs 128 := by
  change Same s _
  unfold blackstartStep
  dsimp only
  repeat' split
  all_goals simp +decide [Same]

@[simp] theorem enterRide_keeps (s : State) :
    (enterRide s).mem = s.mem ∧ (enterRide s).pending = s.pending ∧ lookup (enterRide s).regs 128 = lookup s.regs 128 := by
  simp +decide [enterRide]

@[simp] theorem endRide_keeps (s : State) :
    (endRide s).mem = s.mem ∧ (endRide s).pending = s.pending ∧ lookup (endRide s).regs 128 = lookup s.regs 128 := by
  simp +decide [endRide]

@[simp] theorem startSync_keeps (s : State) :
    (startSync s).mem = s.mem ∧ (startSync s).pending = s.pending ∧ lookup (startSync s).regs 128 = lookup s.regs 128 := by
  simp +decide [startSync]

@[simp] theorem endSync_keeps (cause : Nat) (s : State) :
    (endSync cause s).mem = s.mem ∧ (endSync cause s).pending = s.pending ∧ lookup (endSync cause s).regs 128 = lookup s.regs 128 := by
  simp +decide [endSync]

@[simp] theorem formingStep_keeps (s : State) :
    (formingStep s).mem = s.mem ∧ (formingStep s).pending = s.pending ∧ lookup (formingStep s).regs 128 = lookup s.regs 128 := by
  simp +decide [formingStep]

@[simp] theorem rideStep_keeps (s : State) :
    (rideStep s).mem = s.mem ∧ (rideStep s).pending = s.pending ∧ lookup (rideStep s).regs 128 = lookup s.regs 128 := by
  simp +decide [rideStep]

@[simp] theorem permitStep_keeps (s : State) :
    (permitStep s).mem = s.mem ∧ (permitStep s).pending = s.pending ∧ lookup (permitStep s).regs 128 = lookup s.regs 128 := by
  simp +decide [permitStep]

@[simp] theorem syncingStep_keeps (s : State) :
    (syncingStep s).mem = s.mem ∧ (syncingStep s).pending = s.pending ∧ lookup (syncingStep s).regs 128 = lookup s.regs 128 := by
  simp +decide [syncingStep]

@[simp] theorem stateStep_keeps (s : State) :
    (stateStep s).mem = s.mem ∧ (stateStep s).pending = s.pending ∧ lookup (stateStep s).regs 128 = lookup s.regs 128 := by
  change Same s _
  unfold stateStep
  repeat' split
  all_goals simp +decide [Same]

@[simp] theorem gfeResult_keeps (op status reason ack : Nat) (s : State) :
    (gfeResult op status reason ack s).mem = s.mem ∧ (gfeResult op status reason ack s).pending = s.pending ∧ lookup (gfeResult op status reason ack s).regs 128 = lookup s.regs 128 := by
  simp +decide [gfeResult]

@[simp] theorem gfeSubmit_keeps (op : Nat) (s : State) :
    (gfeSubmit op s).mem = s.mem ∧ (gfeSubmit op s).pending = s.pending ∧ lookup (gfeSubmit op s).regs 128 = lookup s.regs 128 := by
  change Same s _
  unfold gfeSubmit
  repeat' split
  all_goals simp +decide [Same]

@[simp] theorem gfeDo_keeps (op : Nat) (s : State) :
    (gfeDo op s).mem = s.mem ∧ (gfeDo op s).pending = s.pending ∧ lookup (gfeDo op s).regs 128 = lookup s.regs 128 := by
  change Same s _
  unfold gfeDo
  repeat' split
  all_goals simp +decide [Same]

@[simp] theorem gfeAbort_keeps (s : State) :
    (gfeAbort s).mem = s.mem ∧ (gfeAbort s).pending = s.pending ∧ lookup (gfeAbort s).regs 128 = lookup s.regs 128 := by
  simp +decide [gfeAbort]

@[simp] theorem commandStep_keeps (s : State) :
    (commandStep s).mem = s.mem ∧ (commandStep s).pending = s.pending ∧ lookup (commandStep s).regs 128 = lookup s.regs 128 := by
  change Same s _
  unfold commandStep
  dsimp only
  repeat' split
  all_goals simp +decide [Same]

@[simp] theorem ffCopy_keeps (entered conf timeNs : Nat) (s : State) :
    (ffCopy entered conf timeNs s).mem = s.mem ∧ (ffCopy entered conf timeNs s).pending = s.pending ∧ lookup (ffCopy entered conf timeNs s).regs 128 = lookup s.regs 128 := by
  simp +decide [ffCopy]

@[simp] theorem takeCopy_keeps (entered conf timeNs : Nat) (s : State) :
    (takeCopy entered conf timeNs s).mem = s.mem ∧ (takeCopy entered conf timeNs s).pending = s.pending ∧ lookup (takeCopy entered conf timeNs s).regs 128 = lookup s.regs 128 := by
  change Same s _
  unfold takeCopy
  repeat' split
  all_goals simp +decide [Same]

@[simp] theorem readCopy_keeps (bs : List Nat) (s : State) :
    (readCopy bs s).mem = s.mem ∧ (readCopy bs s).pending = s.pending ∧ lookup (readCopy bs s).regs 128 = lookup s.regs 128 := by
  simp +decide [readCopy]

@[simp] theorem takeCopies_keeps (s : State) :
    (takeCopies s).mem = s.mem ∧ (takeCopies s).pending = s.pending ∧ lookup (takeCopies s).regs 128 = lookup s.regs 128 := by
  simp +decide [takeCopies]

@[simp] theorem ffExpiry_keeps (s : State) :
    (ffExpiry s).mem = s.mem ∧ (ffExpiry s).pending = s.pending ∧ lookup (ffExpiry s).regs 128 = lookup s.regs 128 := by
  change Same s _
  unfold ffExpiry
  repeat' split
  all_goals simp +decide [Same]

@[simp] theorem removeStep_keeps (j : Nat) (s : State) :
    (removeStep j s).mem = s.mem ∧ (removeStep j s).pending = s.pending ∧ lookup (removeStep j s).regs 128 = lookup s.regs 128 := by
  simp +decide [removeStep]

@[simp] theorem decideTrip_keeps (s : State) :
    (decideTrip s).mem = s.mem ∧ (decideTrip s).pending = s.pending ∧ lookup (decideTrip s).regs 128 = lookup s.regs 128 := by
  change Same s _
  unfold decideTrip
  repeat' split
  all_goals simp +decide [Same]

@[simp] theorem machineStep_keeps (old s : State) :
    (machineStep old s).mem = s.mem ∧ (machineStep old s).pending = s.pending
      ∧ lookup (machineStep old s).regs 128 = lookup s.regs 128 := by
  change Same s _
  unfold machineStep
  dsimp only
  split
  all_goals simp +decide [Same]

@[simp] theorem controlStep_keeps (refs : List (Int × Int)) (s : State) :
    (controlStep refs s).mem = s.mem ∧ (controlStep refs s).pending = s.pending
      ∧ lookup (controlStep refs s).regs 128 = lookup s.regs 128 := by
  change Same s _
  unfold controlStep
  dsimp only
  split
  · simp [Same]
  · simp +decide [Same]

@[simp] theorem backoffEnd_keeps (s : State) :
    (backoffEnd s).mem = s.mem ∧ (backoffEnd s).pending = s.pending ∧ lookup (backoffEnd s).regs 128 = lookup s.regs 128 := by
  simp +decide [backoffEnd]

@[simp] theorem rampEnd_keeps (s : State) :
    (rampEnd s).mem = s.mem ∧ (rampEnd s).pending = s.pending ∧ lookup (rampEnd s).regs 128 = lookup s.regs 128 := by
  simp +decide [rampEnd]

@[simp] theorem bsOverload_keeps (s : State) :
    (bsOverload s).mem = s.mem ∧ (bsOverload s).pending = s.pending ∧ lookup (bsOverload s).regs 128 = lookup s.regs 128 := by
  simp +decide [bsOverload]

@[simp] theorem joinEnd_keeps (s : State) :
    (joinEnd s).mem = s.mem ∧ (joinEnd s).pending = s.pending ∧ lookup (joinEnd s).regs 128 = lookup s.regs 128 := by
  simp +decide [joinEnd]

@[simp] theorem frtEnd_keeps (s : State) :
    (frtEnd s).mem = s.mem ∧ (frtEnd s).pending = s.pending ∧ lookup (frtEnd s).regs 128 = lookup s.regs 128 := by
  simp +decide [frtEnd]

@[simp] theorem frtTime_keeps (s : State) :
    (frtTime s).mem = s.mem ∧ (frtTime s).pending = s.pending ∧ lookup (frtTime s).regs 128 = lookup s.regs 128 := by
  simp +decide [frtTime]

@[simp] theorem freqTrip_keeps (s : State) :
    (freqTrip s).mem = s.mem ∧ (freqTrip s).pending = s.pending ∧ lookup (freqTrip s).regs 128 = lookup s.regs 128 := by
  simp +decide [freqTrip]

@[simp] theorem overvolt_keeps (s : State) :
    (overvolt s).mem = s.mem ∧ (overvolt s).pending = s.pending ∧ lookup (overvolt s).regs 128 = lookup s.regs 128 := by
  simp +decide [overvolt]

@[simp] theorem dcTimeout_keeps (j : Nat) (high : Bool) (s : State) :
    (dcTimeout j high s).mem = s.mem ∧ (dcTimeout j high s).pending = s.pending ∧ lookup (dcTimeout j high s).regs 128 = lookup s.regs 128 := by
  simp +decide [dcTimeout]

@[simp] theorem autoSync_keeps (s : State) :
    (autoSync s).mem = s.mem ∧ (autoSync s).pending = s.pending ∧ lookup (autoSync s).regs 128 = lookup s.regs 128 := by
  simp +decide [autoSync]

@[simp] theorem syncGridLost_keeps (s : State) :
    (syncGridLost s).mem = s.mem ∧ (syncGridLost s).pending = s.pending ∧ lookup (syncGridLost s).regs 128 = lookup s.regs 128 := by
  simp +decide [syncGridLost]

@[simp] theorem syncTimeout_keeps (s : State) :
    (syncTimeout s).mem = s.mem ∧ (syncTimeout s).pending = s.pending ∧ lookup (syncTimeout s).regs 128 = lookup s.regs 128 := by
  simp +decide [syncTimeout]

@[simp] theorem closePermit_keeps (s : State) :
    (closePermit s).mem = s.mem ∧ (closePermit s).pending = s.pending ∧ lookup (closePermit s).regs 128 = lookup s.regs 128 := by
  simp +decide [closePermit]

@[simp] theorem gfeModeLeft_keeps (s : State) :
    (gfeModeLeft s).mem = s.mem ∧ (gfeModeLeft s).pending = s.pending ∧ lookup (gfeModeLeft s).regs 128 = lookup s.regs 128 := by
  simp +decide [gfeModeLeft]

@[simp] theorem writeSet0_keeps (v : Nat) (s : State) :
    (writeSet0 v s).mem = s.mem ∧ (writeSet0 v s).pending = s.pending ∧ lookup (writeSet0 v s).regs 128 = lookup s.regs 128 := by
  simp +decide [writeSet0]

@[simp] theorem writeSet1_keeps (v : Nat) (s : State) :
    (writeSet1 v s).mem = s.mem ∧ (writeSet1 v s).pending = s.pending ∧ lookup (writeSet1 v s).regs 128 = lookup s.regs 128 := by
  simp +decide [writeSet1]

@[simp] theorem measLatch_keeps (s : State) :
    (measLatch s).mem = s.mem ∧ (measLatch s).pending = s.pending ∧ lookup (measLatch s).regs 128 = lookup s.regs 128 := by
  simp +decide [measLatch]

end Sys2Proof.Machine
end

