-- ==== Sys2Proof/Laws/KeepsGuard.lean ====
section
/-!
SUPPORT. What the operations of `Machine/Guard.lean` leave alone: device memory, the queue of commands, the current mode.
-/
namespace Sys2Proof.Machine

@[simp] theorem modEth_keeps (s : State) (f : Eth → Eth) :
    (State.modEth s f).mem = s.mem ∧ (State.modEth s f).pending = s.pending ∧ lookup (State.modEth s f).regs 128 = lookup s.regs 128 := by
  simp +decide [State.modEth]

@[simp] theorem guardGo_keeps (st : Nat) (s : State) :
    (guardGo st s).mem = s.mem ∧ (guardGo st s).pending = s.pending ∧ lookup (guardGo st s).regs 128 = lookup s.regs 128 := by
  simp +decide [guardGo]

@[simp] theorem guardCause_keeps (cause : Nat) (s : State) :
    (guardCause cause s).mem = s.mem ∧ (guardCause cause s).pending = s.pending ∧ lookup (guardCause cause s).regs 128 = lookup s.regs 128 := by
  simp +decide [guardCause]

@[simp] theorem guardDiscard_keeps (s : State) :
    (guardDiscard s).mem = s.mem ∧ (guardDiscard s).pending = s.pending ∧ lookup (guardDiscard s).regs 128 = lookup s.regs 128 := by
  simp +decide [guardDiscard]

@[simp] theorem guardModeEntry_keeps (s : State) :
    (guardModeEntry s).mem = s.mem ∧ (guardModeEntry s).pending = s.pending ∧ lookup (guardModeEntry s).regs 128 = lookup s.regs 128 := by
  simp +decide [guardModeEntry]

@[simp] theorem guardLock_keeps (s : State) :
    (guardLock s).mem = s.mem ∧ (guardLock s).pending = s.pending ∧ lookup (guardLock s).regs 128 = lookup s.regs 128 := by
  simp +decide [guardLock]

@[simp] theorem timeStep_keeps (ns : Nat) (s : State) :
    (timeStep ns s).mem = s.mem ∧ (timeStep ns s).pending = s.pending ∧ lookup (timeStep ns s).regs 128 = lookup s.regs 128 := by
  simp +decide [timeStep]

@[simp] theorem guardDisarm_keeps (s : State) :
    (guardDisarm s).mem = s.mem ∧ (guardDisarm s).pending = s.pending ∧ lookup (guardDisarm s).regs 128 = lookup s.regs 128 := by
  simp +decide [guardDisarm]

@[simp] theorem publishOffset_keeps (off : Int) (delay : Int) (refused : Bool) (s : State) :
    (publishOffset off delay refused s).mem = s.mem ∧ (publishOffset off delay refused s).pending = s.pending ∧ lookup (publishOffset off delay refused s).regs 128 = lookup s.regs 128 := by
  simp +decide [publishOffset]

@[simp] theorem guardRefuse_keeps (s : State) :
    (guardRefuse s).mem = s.mem ∧ (guardRefuse s).pending = s.pending ∧ lookup (guardRefuse s).regs 128 = lookup s.regs 128 := by
  simp +decide [guardRefuse]

@[simp] theorem guardAccept_keeps (off : Int) (s : State) :
    (guardAccept off s).mem = s.mem ∧ (guardAccept off s).pending = s.pending ∧ lookup (guardAccept off s).regs 128 = lookup s.regs 128 := by
  simp +decide [guardAccept]

@[simp] theorem guardJudge_keeps (off delay : Int) (s : State) :
    (guardJudge off delay s).mem = s.mem ∧ (guardJudge off delay s).pending = s.pending ∧ lookup (guardJudge off delay s).regs 128 = lookup s.regs 128 := by
  change Same s _
  unfold guardJudge
  dsimp only
  repeat' split
  all_goals simp +decide [Same]

@[simp] theorem guardArm_keeps (s : State) :
    (guardArm s).mem = s.mem ∧ (guardArm s).pending = s.pending ∧ lookup (guardArm s).regs 128 = lookup s.regs 128 := by
  simp +decide [guardArm]

@[simp] theorem armExpiry_keeps (s : State) :
    (armExpiry s).mem = s.mem ∧ (armExpiry s).pending = s.pending ∧ lookup (armExpiry s).regs 128 = lookup s.regs 128 := by
  simp +decide [armExpiry]

@[simp] theorem masterLost_keeps (s : State) :
    (masterLost s).mem = s.mem ∧ (masterLost s).pending = s.pending ∧ lookup (masterLost s).regs 128 = lookup s.regs 128 := by
  simp +decide [masterLost]

@[simp] theorem guardTick_keeps (s : State) :
    (guardTick s).mem = s.mem ∧ (guardTick s).pending = s.pending ∧ lookup (guardTick s).regs 128 = lookup s.regs 128 := by
  simp +decide [guardTick]

@[simp] theorem guardCold_keeps (s : State) :
    (guardCold s).mem = s.mem ∧ (guardCold s).pending = s.pending ∧ lookup (guardCold s).regs 128 = lookup s.regs 128 := by
  simp +decide [guardCold]

@[simp] theorem guardWarm_keeps (applied : Int) (s : State) :
    (guardWarm applied s).mem = s.mem ∧ (guardWarm applied s).pending = s.pending ∧ lookup (guardWarm applied s).regs 128 = lookup s.regs 128 := by
  simp +decide [guardWarm]

end Sys2Proof.Machine
end

