-- ==== Sys2Proof/Laws/KeepsLks.lean ====
section
/-!
SUPPORT. What the operations of `Machine/Lks.lean` leave alone: device memory, the queue of commands, the current mode.
-/
namespace Sys2Proof.Machine

@[simp] theorem pairGo_keeps (code : Nat) (s : State) :
    (pairGo code s).mem = s.mem ∧ (pairGo code s).pending = s.pending ∧ lookup (pairGo code s).regs 128 = lookup s.regs 128 := by
  simp +decide [pairGo]

@[simp] theorem coresOut_keeps (out0 out1 : Bool) (s : State) :
    (coresOut out0 out1 s).mem = s.mem ∧ (coresOut out0 out1 s).pending = s.pending ∧ lookup (coresOut out0 out1 s).regs 128 = lookup s.regs 128 := by
  simp +decide [coresOut]

@[simp] theorem clearHalts_keeps (s : State) :
    (clearHalts s).mem = s.mem ∧ (clearHalts s).pending = s.pending ∧ lookup (clearHalts s).regs 128 = lookup s.regs 128 := by
  simp +decide [clearHalts]

@[simp] theorem pairSplitNow_keeps (cause : Nat) (out0 out1 : Bool) (s : State) :
    (pairSplitNow cause out0 out1 s).mem = s.mem ∧ (pairSplitNow cause out0 out1 s).pending = s.pending ∧ lookup (pairSplitNow cause out0 out1 s).regs 128 = lookup s.regs 128 := by
  simp +decide [pairSplitNow]

@[simp] theorem pairJoin_keeps (s : State) :
    (pairJoin s).mem = s.mem ∧ (pairJoin s).pending = s.pending ∧ lookup (pairJoin s).regs 128 = lookup s.regs 128 := by
  simp +decide [pairJoin]

@[simp] theorem pairToReset_keeps (s : State) :
    (pairToReset s).mem = s.mem ∧ (pairToReset s).pending = s.pending ∧ lookup (pairToReset s).regs 128 = lookup s.regs 128 := by
  simp +decide [pairToReset]

@[simp] theorem pairOutcome_keeps (r : PairReq) (st : Status) (reason : Nat) (s : State) :
    (pairOutcome r st reason s).mem = s.mem ∧ (pairOutcome r st reason s).pending = s.pending ∧ lookup (pairOutcome r st reason s).regs 128 = lookup s.regs 128 := by
  change Same s _
  unfold pairOutcome
  repeat' split
  all_goals simp +decide [Same]

@[simp] theorem rejoinFail_keeps (c : Cause) (s : State) :
    (rejoinFail c s).mem = s.mem ∧ (rejoinFail c s).pending = s.pending ∧ lookup (rejoinFail c s).regs 128 = lookup s.regs 128 := by
  change Same s _
  unfold rejoinFail
  dsimp only
  repeat' split
  all_goals simp +decide [Same]

@[simp] theorem recordFault_keeps (f : LksFault) (s : State) :
    (recordFault f s).mem = s.mem ∧ (recordFault f s).pending = s.pending ∧ lookup (recordFault f s).regs 128 = lookup s.regs 128 := by
  simp +decide [recordFault]

@[simp] theorem preemptSplit_keeps (s : State) :
    (preemptSplit s).mem = s.mem ∧ (preemptSplit s).pending = s.pending ∧ lookup (preemptSplit s).regs 128 = lookup s.regs 128 := by
  change Same s _
  unfold preemptSplit
  repeat' split
  all_goals simp +decide [Same]

@[simp] theorem pairFault_keeps (f : LksFault) (s : State) :
    (pairFault f s).mem = s.mem ∧ (pairFault f s).pending = s.pending ∧ lookup (pairFault f s).regs 128 = lookup s.regs 128 := by
  simp +decide [pairFault]

@[simp] theorem heartbeatLoss_keeps (y : Bool) (s : State) :
    (heartbeatLoss y s).mem = s.mem ∧ (heartbeatLoss y s).pending = s.pending ∧ lookup (heartbeatLoss y s).regs 128 = lookup s.regs 128 := by
  change Same s _
  unfold heartbeatLoss
  repeat' split
  all_goals simp +decide [Same]

@[simp] theorem debugHalt_keeps (core1 : Bool) (s : State) :
    (debugHalt core1 s).mem = s.mem ∧ (debugHalt core1 s).pending = s.pending ∧ lookup (debugHalt core1 s).regs 128 = lookup s.regs 128 := by
  simp +decide [debugHalt]

@[simp] theorem debugResume_keeps (core1 : Bool) (s : State) :
    (debugResume core1 s).mem = s.mem ∧ (debugResume core1 s).pending = s.pending ∧ lookup (debugResume core1 s).regs 128 = lookup s.regs 128 := by
  simp +decide [debugResume]

@[simp] theorem weevilRun_keeps (context : Nat) (fail : Option (Nat × Nat)) (s : State) :
    (weevilRun context fail s).mem = s.mem ∧ (weevilRun context fail s).pending = s.pending ∧ lookup (weevilRun context fail s).regs 128 = lookup s.regs 128 := by
  change Same s _
  unfold weevilRun
  repeat' split
  all_goals simp +decide [Same]

@[simp] theorem splitHandover_keeps (old : Mode) (r : PairReq) (s : State) :
    (splitHandover old r s).mem = s.mem ∧ (splitHandover old r s).pending = s.pending ∧ lookup (splitHandover old r s).regs 128 = lookup s.regs 128 := by
  simp +decide [splitHandover]

@[simp] theorem splitFinish_keeps (s : State) :
    (splitFinish s).mem = s.mem ∧ (splitFinish s).pending = s.pending ∧ lookup (splitFinish s).regs 128 = lookup s.regs 128 := by
  change Same s _
  unfold splitFinish
  repeat' split
  all_goals simp +decide [Same]

@[simp] theorem rejoinStart_keeps (r : PairReq) (s : State) :
    (rejoinStart r s).mem = s.mem ∧ (rejoinStart r s).pending = s.pending ∧ lookup (rejoinStart r s).regs 128 = lookup s.regs 128 := by
  simp +decide [rejoinStart]

@[simp] theorem rejoinEvaluate_keeps (r : PairReq) (s : State) :
    (rejoinEvaluate r s).mem = s.mem ∧ (rejoinEvaluate r s).pending = s.pending ∧ lookup (rejoinEvaluate r s).regs 128 = lookup s.regs 128 := by
  simp +decide [rejoinEvaluate]

end Sys2Proof.Machine
end

