-- ==== Sys2Proof/Laws/KeepsClk.lean ====
section
/-!
SUPPORT. What the operations of `Machine/Clk.lean` leave alone: device memory, the queue of commands, the current mode.
-/
namespace Sys2Proof.Machine

@[simp] theorem modClk_keeps (s : State) (f : Clocks → Clocks) :
    (State.modClk s f).mem = s.mem ∧ (State.modClk s f).pending = s.pending ∧ lookup (State.modClk s f).regs 128 = lookup s.regs 128 := by
  simp +decide [State.modClk]

@[simp] theorem setMon_keeps (f : Fld) (s : State) (h : 128 < f.base * 32 + f.lo) :
    (setMon f s).mem = s.mem ∧ (setMon f s).pending = s.pending
      ∧ lookup (setMon f s).regs 128 = lookup s.regs 128 := by
  simp [setMon, h]

@[simp] theorem proofLosesA_keeps (s : State) :
    (proofLosesA s).mem = s.mem ∧ (proofLosesA s).pending = s.pending ∧ lookup (proofLosesA s).regs 128 = lookup s.regs 128 := by
  simp +decide [proofLosesA]

@[simp] theorem armHeartbeat_keeps (on : Bool) (s : State) :
    (armHeartbeat on s).mem = s.mem ∧ (armHeartbeat on s).pending = s.pending ∧ lookup (armHeartbeat on s).regs 128 = lookup s.regs 128 := by
  simp +decide [armHeartbeat]

@[simp] theorem gateACounts_keeps (s : State) :
    (gateACounts s).mem = s.mem ∧ (gateACounts s).pending = s.pending
      ∧ lookup (gateACounts s).regs 128 = lookup s.regs 128 := by
  simp +decide [gateACounts]

@[simp] theorem gateA_keeps (s : State) :
    (gateA s).mem = s.mem ∧ (gateA s).pending = s.pending ∧ lookup (gateA s).regs 128 = lookup s.regs 128 := by
  simp +decide [gateA]

@[simp] theorem clkALoss_keeps (s : State) :
    (clkALoss s).mem = s.mem ∧ (clkALoss s).pending = s.pending ∧ lookup (clkALoss s).regs 128 = lookup s.regs 128 := by
  simp +decide [clkALoss]

@[simp] theorem endGating_keeps (us : Nat) (s : State) :
    (endGating us s).mem = s.mem ∧ (endGating us s).pending = s.pending ∧ lookup (endGating us s).regs 128 = lookup s.regs 128 := by
  simp +decide [endGating]

@[simp] theorem qualifyA_keeps (us : Nat) (s : State) :
    (qualifyA us s).mem = s.mem ∧ (qualifyA us s).pending = s.pending ∧ lookup (qualifyA us s).regs 128 = lookup s.regs 128 := by
  simp +decide [qualifyA]

@[simp] theorem gateB_keeps (s : State) :
    (gateB s).mem = s.mem ∧ (gateB s).pending = s.pending ∧ lookup (gateB s).regs 128 = lookup s.regs 128 := by
  simp +decide [gateB]

@[simp] theorem strobeOutcome_keeps (status tag : Nat) (s : State) :
    (strobeOutcome status tag s).mem = s.mem ∧ (strobeOutcome status tag s).pending = s.pending ∧ lookup (strobeOutcome status tag s).regs 128 = lookup s.regs 128 := by
  simp +decide [strobeOutcome]

@[simp] theorem openB_keeps (s : State) :
    (openB s).mem = s.mem ∧ (openB s).pending = s.pending ∧ lookup (openB s).regs 128 = lookup s.regs 128 := by
  simp +decide [openB]

@[simp] theorem qualifyB_keeps (s : State) :
    (qualifyB s).mem = s.mem ∧ (qualifyB s).pending = s.pending ∧ lookup (qualifyB s).regs 128 = lookup s.regs 128 := by
  simp +decide [qualifyB]

@[simp] theorem strobe_keeps (tag : Nat) (s : State) :
    (strobe tag s).mem = s.mem ∧ (strobe tag s).pending = s.pending ∧ lookup (strobe tag s).regs 128 = lookup s.regs 128 := by
  simp +decide [strobe]

@[simp] theorem strobeDrainEnd_keeps (drained : Bool) (s : State) :
    (strobeDrainEnd drained s).mem = s.mem ∧ (strobeDrainEnd drained s).pending = s.pending ∧ lookup (strobeDrainEnd drained s).regs 128 = lookup s.regs 128 := by
  simp +decide [strobeDrainEnd]

@[simp] theorem writeShadow_keeps (v : Nat) (s : State) :
    (writeShadow v s).mem = s.mem ∧ (writeShadow v s).pending = s.pending ∧ lookup (writeShadow v s).regs 128 = lookup s.regs 128 := by
  simp +decide [writeShadow]

@[simp] theorem gateMdll_keeps (b : Bool) (s : State) :
    (gateMdll b s).mem = s.mem ∧ (gateMdll b s).pending = s.pending ∧ lookup (gateMdll b s).regs 128 = lookup s.regs 128 := by
  simp +decide [gateMdll]

@[simp] theorem periodGuard_keeps (b : Bool) (s : State) :
    (periodGuard b s).mem = s.mem ∧ (periodGuard b s).pending = s.pending ∧ lookup (periodGuard b s).regs 128 = lookup s.regs 128 := by
  change Same s _
  unfold periodGuard
  repeat' split
  all_goals simp +decide [Same]

@[simp] theorem refLoss_keeps (s : State) :
    (refLoss s).mem = s.mem ∧ (refLoss s).pending = s.pending ∧ lookup (refLoss s).regs 128 = lookup s.regs 128 := by
  simp +decide [refLoss]

@[simp] theorem refQualified_keeps (s : State) :
    (refQualified s).mem = s.mem ∧ (refQualified s).pending = s.pending ∧ lookup (refQualified s).regs 128 = lookup s.regs 128 := by
  simp +decide [refQualified]

@[simp] theorem refBack_keeps (s : State) :
    (refBack s).mem = s.mem ∧ (refBack s).pending = s.pending ∧ lookup (refBack s).regs 128 = lookup s.regs 128 := by
  simp +decide [refBack]

@[simp] theorem tsUnlock_keeps (s : State) :
    (tsUnlock s).mem = s.mem ∧ (tsUnlock s).pending = s.pending ∧ lookup (tsUnlock s).regs 128 = lookup s.regs 128 := by
  simp +decide [tsUnlock]

@[simp] theorem tsQualified_keeps (s : State) :
    (tsQualified s).mem = s.mem ∧ (tsQualified s).pending = s.pending ∧ lookup (tsQualified s).regs 128 = lookup s.regs 128 := by
  simp +decide [tsQualified]

@[simp] theorem fxStop_keeps (s : State) :
    (fxStop s).mem = s.mem ∧ (fxStop s).pending = s.pending ∧ lookup (fxStop s).regs 128 = lookup s.regs 128 := by
  simp +decide [fxStop]

@[simp] theorem crystalRuns_keeps (s : State) :
    (crystalRuns s).mem = s.mem ∧ (crystalRuns s).pending = s.pending ∧ lookup (crystalRuns s).regs 128 = lookup s.regs 128 := by
  simp +decide [crystalRuns]

@[simp] theorem crystalReturn_keeps (s : State) :
    (crystalReturn s).mem = s.mem ∧ (crystalReturn s).pending = s.pending ∧ lookup (crystalReturn s).regs 128 = lookup s.regs 128 := by
  simp +decide [crystalReturn]

@[simp] theorem rcStop_keeps (s : State) :
    (rcStop s).mem = s.mem ∧ (rcStop s).pending = s.pending ∧ lookup (rcStop s).regs 128 = lookup s.regs 128 := by
  simp +decide [rcStop]

@[simp] theorem tsFreqWrite_keeps (v : Int) (s : State) :
    (tsFreqWrite v s).mem = s.mem ∧ (tsFreqWrite v s).pending = s.pending ∧ lookup (tsFreqWrite v s).regs 128 = lookup s.regs 128 := by
  simp +decide [tsFreqWrite]

@[simp] theorem tsTicks_keeps (n : Nat) (s : State) :
    (tsTicks n s).mem = s.mem ∧ (tsTicks n s).pending = s.pending ∧ lookup (tsTicks n s).regs 128 = lookup s.regs 128 := by
  simp +decide [tsTicks]

@[simp] theorem timeTicks_keeps (n : Nat) (s : State) :
    (timeTicks n s).mem = s.mem ∧ (timeTicks n s).pending = s.pending ∧ lookup (timeTicks n s).regs 128 = lookup s.regs 128 := by
  simp +decide [timeTicks]

@[simp] theorem stepTicks_keeps (n : Nat) (s : State) :
    (stepTicks n s).mem = s.mem ∧ (stepTicks n s).pending = s.pending ∧ lookup (stepTicks n s).regs 128 = lookup s.regs 128 := by
  simp +decide [stepTicks]

@[simp] theorem pickSource_keeps (s : State) :
    (pickSource s).mem = s.mem ∧ (pickSource s).pending = s.pending ∧ lookup (pickSource s).regs 128 = lookup s.regs 128 := by
  simp +decide [pickSource]

@[simp] theorem clkTicks_keeps (n : Nat) (s : State) :
    (clkTicks n s).mem = s.mem ∧ (clkTicks n s).pending = s.pending ∧ lookup (clkTicks n s).regs 128 = lookup s.regs 128 := by
  simp +decide [clkTicks]

@[simp] theorem rcMeasured_keeps (rcDev : Int) (s : State) :
    (rcMeasured rcDev s).mem = s.mem ∧ (rcMeasured rcDev s).pending = s.pending ∧ lookup (rcMeasured rcDev s).regs 128 = lookup s.regs 128 := by
  simp +decide [rcMeasured]

@[simp] theorem rcCycle_keeps (rcDev : Int) (s : State) :
    (rcCycle rcDev s).mem = s.mem ∧ (rcCycle rcDev s).pending = s.pending ∧ lookup (rcCycle rcDev s).regs 128 = lookup s.regs 128 := by
  simp +decide [rcCycle]

@[simp] theorem fxCycle_keeps (fxDev : Int) (s : State) :
    (fxCycle fxDev s).mem = s.mem ∧ (fxCycle fxDev s).pending = s.pending ∧ lookup (fxCycle fxDev s).regs 128 = lookup s.regs 128 := by
  simp +decide [fxCycle]

@[simp] theorem crystalTaken_keeps (measured : Bool) (fxDev : Int) (s : State) :
    (crystalTaken measured fxDev s).mem = s.mem ∧ (crystalTaken measured fxDev s).pending = s.pending ∧ lookup (crystalTaken measured fxDev s).regs 128 = lookup s.regs 128 := by
  simp +decide [crystalTaken]

@[simp] theorem clkCycle_keeps (rcDev fxDev : Int) (s : State) :
    (clkCycle rcDev fxDev s).mem = s.mem ∧ (clkCycle rcDev fxDev s).pending = s.pending ∧ lookup (clkCycle rcDev fxDev s).regs 128 = lookup s.regs 128 := by
  simp +decide [clkCycle]

end Sys2Proof.Machine
end

