-- ==== Sys2Proof/Laws/KeepsEth.lean ====
section
/-!
SUPPORT. What the operations of `Machine/Eth.lean` leave alone: device memory, the queue of commands, the current mode.
-/
namespace Sys2Proof.Machine

@[simp] theorem modPort_keeps (s : State) (p : Nat) (f : EthPort → EthPort) :
    (State.modPort s p f).mem = s.mem ∧ (State.modPort s p f).pending = s.pending ∧ lookup (State.modPort s p f).regs 128 = lookup s.regs 128 := by
  simp +decide [State.modPort]

@[simp] theorem engineSync_keeps (p : Nat) (m : List Nat) (t2 : Nat) (s : State) :
    (engineSync p m t2 s).mem = s.mem ∧ (engineSync p m t2 s).pending = s.pending ∧ lookup (engineSync p m t2 s).regs 128 = lookup s.regs 128 := by
  simp +decide [engineSync]

@[simp] theorem engineFollowUp_keeps (m : List Nat) (s : State) :
    (engineFollowUp m s).mem = s.mem ∧ (engineFollowUp m s).pending = s.pending ∧ lookup (engineFollowUp m s).regs 128 = lookup s.regs 128 := by
  simp +decide [engineFollowUp]

@[simp] theorem engineDelayResp_keeps (m : List Nat) (s : State) :
    (engineDelayResp m s).mem = s.mem ∧ (engineDelayResp m s).pending = s.pending ∧ lookup (engineDelayResp m s).regs 128 = lookup s.regs 128 := by
  change Same s _
  unfold engineDelayResp
  repeat' split
  all_goals simp +decide [Same]

@[simp] theorem peerResponse_keeps (p : Nat) (m : List Nat) (t4 : Nat) (s : State) :
    (peerResponse p m t4 s).mem = s.mem ∧ (peerResponse p m t4 s).pending = s.pending ∧ lookup (peerResponse p m t4 s).regs 128 = lookup s.regs 128 := by
  simp +decide [peerResponse]

@[simp] theorem peerFollowUp_keeps (p : Nat) (m : List Nat) (s : State) :
    (peerFollowUp p m s).mem = s.mem ∧ (peerFollowUp p m s).pending = s.pending ∧ lookup (peerFollowUp p m s).regs 128 = lookup s.regs 128 := by
  simp +decide [peerFollowUp]

@[simp] theorem enginePtp_keeps (p : Nat) (m : List Nat) (stamp : Nat) (s : State) :
    ((enginePtp p m stamp s).1).mem = s.mem ∧ ((enginePtp p m stamp s).1).pending = s.pending ∧ lookup ((enginePtp p m stamp s).1).regs 128 = lookup s.regs 128 := by
  change Same s _
  unfold enginePtp
  dsimp only
  repeat' split
  all_goals simp +decide [Same]

@[simp] theorem syncMeasurement_keeps (s : State) :
    (syncMeasurement s).mem = s.mem ∧ (syncMeasurement s).pending = s.pending ∧ lookup (syncMeasurement s).regs 128 = lookup s.regs 128 := by
  change Same s _
  unfold syncMeasurement
  dsimp only
  repeat' split
  all_goals simp +decide [Same]

@[simp] theorem pdelaySend_keeps (p : Nat) (w : PdelayWait) (s : State) :
    (pdelaySend p w s).mem = s.mem ∧ (pdelaySend p w s).pending = s.pending ∧ lookup (pdelaySend p w s).regs 128 = lookup s.regs 128 := by
  simp +decide [pdelaySend]

@[simp] theorem pdelaySendAll_keeps (p : Nat) (ws : List PdelayWait) (s : State) :
    (pdelaySendAll p ws s).mem = s.mem ∧ (pdelaySendAll p ws s).pending = s.pending
      ∧ lookup (pdelaySendAll p ws s).regs 128 = lookup s.regs 128 := by
  induction ws generalizing s with
  | nil => simp [pdelaySendAll]
  | cons w ws ih => simp [pdelaySendAll, ih]

@[simp] theorem pdelayServe_keeps (p : Nat) (s : State) :
    (pdelayServe p s).mem = s.mem ∧ (pdelayServe p s).pending = s.pending ∧ lookup (pdelayServe p s).regs 128 = lookup s.regs 128 := by
  simp +decide [pdelayServe]

@[simp] theorem pdelayTick_keeps (s : State) :
    (pdelayTick s).mem = s.mem ∧ (pdelayTick s).pending = s.pending ∧ lookup (pdelayTick s).regs 128 = lookup s.regs 128 := by
  simp +decide [pdelayTick]

@[simp] theorem pdelayAnswer_keeps (p : Nat) (m : List Nat) (stamp : Nat) (s : State) :
    (pdelayAnswer p m stamp s).mem = s.mem ∧ (pdelayAnswer p m stamp s).pending = s.pending ∧ lookup (pdelayAnswer p m stamp s).regs 128 = lookup s.regs 128 := by
  simp +decide [pdelayAnswer]

@[simp] theorem receivePtp_keeps (p : Nat) (m : List Nat) (stamp : Nat) (s : State) :
    ((receivePtp p m stamp s).1).mem = s.mem ∧ ((receivePtp p m stamp s).1).pending = s.pending ∧ lookup ((receivePtp p m stamp s).1).regs 128 = lookup s.regs 128 := by
  change Same s _
  unfold receivePtp
  dsimp only
  repeat' split
  all_goals simp +decide [Same]

@[simp] theorem frameReceivedEth_keeps (p pin : Nat) (f : List Nat) (s : State) :
    (frameReceivedEth p pin f s).pending = s.pending ∧ lookup (frameReceivedEth p pin f s).regs 128 = lookup s.regs 128 := by
  change SameButMem s _
  unfold frameReceivedEth
  dsimp only
  repeat' split
  all_goals simp +decide [SameButMem]

@[simp] theorem txTimestamp_keeps (p ty seq tag pin : Nat) (s : State) :
    (txTimestamp p ty seq tag pin s).mem = s.mem ∧ (txTimestamp p ty seq tag pin s).pending = s.pending ∧ lookup (txTimestamp p ty seq tag pin s).regs 128 = lookup s.regs 128 := by
  simp +decide [txTimestamp]

@[simp] theorem txtsPop_keeps (p : Nat) (s : State) :
    (txtsPop p s).mem = s.mem ∧ (txtsPop p s).pending = s.pending ∧ lookup (txtsPop p s).regs 128 = lookup s.regs 128 := by
  change Same s _
  unfold txtsPop
  repeat' split
  all_goals simp +decide [Same]

@[simp] theorem srvWrite_keeps (k v : Nat) (s : State) :
    (srvWrite k v s).mem = s.mem ∧ (srvWrite k v s).pending = s.pending ∧ lookup (srvWrite k v s).regs 128 = lookup s.regs 128 := by
  simp +decide [srvWrite]

@[simp] theorem latchOffset_keeps (s : State) :
    (latchOffset s).mem = s.mem ∧ (latchOffset s).pending = s.pending ∧ lookup (latchOffset s).regs 128 = lookup s.regs 128 := by
  simp +decide [latchOffset]

@[simp] theorem egressRefuse_keeps (r p : Nat) (d : Desc) (s : State) :
    (egressRefuse r p d s).pending = s.pending ∧ lookup (egressRefuse r p d s).regs 128 = lookup s.regs 128 := by
  simp +decide [egressRefuse]

@[simp] theorem egressMark_keeps (p : Nat) (d : Desc) (f : List Nat) (s : State) :
    (egressMark p d f s).mem = s.mem ∧ (egressMark p d f s).pending = s.pending ∧ lookup (egressMark p d f s).regs 128 = lookup s.regs 128 := by
  change Same s _
  unfold egressMark
  repeat' split
  all_goals simp +decide [Same]

@[simp] theorem egressSend_keeps (r p delay : Nat) (d : Desc) (s : State) :
    (egressSend r p delay d s).pending = s.pending ∧ lookup (egressSend r p delay d s).regs 128 = lookup s.regs 128 := by
  change SameButMem s _
  unfold egressSend
  dsimp only
  repeat' split
  all_goals simp +decide [SameButMem]

@[simp] theorem egressComplete_keeps (r delay : Nat) (s : State) :
    (egressComplete r delay s).pending = s.pending ∧ lookup (egressComplete r delay s).regs 128 = lookup s.regs 128 := by
  change SameButMem s _
  unfold egressComplete
  dsimp only
  repeat' split
  all_goals simp +decide [SameButMem]

@[simp] theorem egressDeadline_keeps (r : Nat) (s : State) :
    (egressDeadline r s).pending = s.pending ∧ lookup (egressDeadline r s).regs 128 = lookup s.regs 128 := by
  change SameButMem s _
  unfold egressDeadline
  dsimp only
  repeat' split
  all_goals simp +decide [SameButMem]

@[simp] theorem ethLinkDown_keeps (p : Nat) (s : State) :
    (ethLinkDown p s).pending = s.pending ∧ lookup (ethLinkDown p s).regs 128 = lookup s.regs 128 := by
  simp +decide [ethLinkDown]

end Sys2Proof.Machine
end

