-- ==== Sys2Proof/Laws/KeepsLoaf.lean ====
section
/-!
SUPPORT. What the operations of `Machine/Loaf.lean` leave alone: device memory, the queue of commands, the current mode.
-/
namespace Sys2Proof.Machine

/-- The fields of a list of loaf rows stand above the cell of the current mode. -/
def rowsFar (l : List LoafRow) : Bool := l.all (fun r => decide (128 < r.fld.base * 32 + r.fld.lo))

theorem loafTable1_far : rowsFar loafTable1 = true := by decide
theorem loafTable23_far : rowsFar loafTable23 = true := by decide
theorem loafTable48_far : rowsFar loafTable48 = true := by decide
theorem loafLeaven_far : rowsFar loafLeaven = true := by decide
theorem loafPwm_far : rowsFar loafPwm = true := by decide
theorem loafMeter_far : rowsFar loafMeter = true := by decide
theorem loafHost_far : rowsFar loafHost = true := by decide

theorem loafRows_far : ∀ r ∈ loafRows, 128 < r.fld.base * 32 + r.fld.lo := by
  have h : rowsFar loafRows = true := by
    have k : ∀ a b : List LoafRow, rowsFar (a ++ b) = (rowsFar a && rowsFar b) := fun _ _ => List.all_append
    simp [loafRows, k, loafTable1_far, loafTable23_far, loafTable48_far, loafLeaven_far, loafPwm_far, loafMeter_far,
      loafHost_far]
  intro r hr
  exact of_decide_eq_true (List.all_eq_true.mp h r hr)

/-- A filter that lets a key through leaves its cell. -/
theorem lookup_filter (t : Tab Nat) (p : Nat × Nat → Bool) (j : Nat) (h : ∀ v, p (j, v) = true) :
    lookup (t.filter p) j = lookup t j := by
  induction t with
  | nil => rfl
  | cons c t ih =>
    obtain ⟨k, v⟩ := c
    by_cases e : k = j
    · subst e; simp [List.filter, h, lookup]
    · by_cases q : p (k, v) = true <;> simp [List.filter, q, lookup, e, ih]

theorem owns_cur (f : Fld) (h : 128 < f.base * 32 + f.lo) : f.owns 128 = false := by
  simp only [Fld.owns, List.any_eq_false]
  intro i _
  simp only [Fld.key, Fld.addr, beq_iff_eq]
  omega

@[simp] theorem clearLoaf_keeps (s : State) :
    (clearLoaf s).mem = s.mem ∧ (clearLoaf s).pending = s.pending
      ∧ lookup (clearLoaf s).regs 128 = lookup s.regs 128 := by
  refine ⟨rfl, rfl, lookup_filter _ _ _ (fun _ => ?_)⟩
  simp only [Bool.not_eq_true', List.any_eq_false]
  intro r hr
  simp [owns_cur _ (loafRows_far r hr)]

@[simp] theorem putEntry_keeps (e : LoafEntry) (s : State) :
    (putEntry e s).mem = s.mem ∧ (putEntry e s).pending = s.pending
      ∧ lookup (putEntry e s).regs 128 = lookup s.regs 128 := by
  change Same s _
  unfold putEntry
  split
  · rename_i r h
    split
    · exact ⟨wrS_mem _ _ _ _, wrS_pending _ _ _ _, wrS_cur _ _ _ _ (loafRows_far r (List.mem_of_getElem? h))⟩
    · exact ⟨rfl, rfl, rfl⟩
  · exact ⟨rfl, rfl, rfl⟩

@[simp] theorem clearSlices_keeps (s : State) :
    (clearSlices s).mem = s.mem ∧ (clearSlices s).pending = s.pending ∧ lookup (clearSlices s).regs 128 = lookup s.regs 128 := by
  simp +decide [clearSlices]

@[simp] theorem putProgram_keeps (p : SliceProgram) (s : State) :
    (putProgram p s).mem = s.mem ∧ (putProgram p s).pending = s.pending ∧ lookup (putProgram p s).regs 128 = lookup s.regs 128 := by
  simp +decide [putProgram]

@[simp] theorem putCurve_keeps (es : List LoafEntry) (s : State) :
    (putCurve es s).mem = s.mem ∧ (putCurve es s).pending = s.pending ∧ lookup (putCurve es s).regs 128 = lookup s.regs 128 := by
  simp +decide [putCurve]

@[simp] theorem candidate_keeps (es : List LoafEntry) (ps : List SliceProgram) (rs : List Route) (claim : Nat) (s : State) :
    (candidate es ps rs claim s).mem = s.mem ∧ (candidate es ps rs claim s).pending = s.pending ∧ lookup (candidate es ps rs claim s).regs 128 = lookup s.regs 128 := by
  simp +decide [candidate]

@[simp] theorem latchCrust_keeps (s : State) :
    (latchCrust s).mem = s.mem ∧ (latchCrust s).pending = s.pending ∧ lookup (latchCrust s).regs 128 = lookup s.regs 128 := by
  simp +decide [latchCrust]

@[simp] theorem showDue_keeps (s : State) :
    (showDue s).mem = s.mem ∧ (showDue s).pending = s.pending ∧ lookup (showDue s).regs 128 = lookup s.regs 128 := by
  simp +decide [showDue]

@[simp] theorem loadLoaf_keeps (i : Nat) (s : State) :
    (loadLoaf i s).mem = s.mem ∧ (loadLoaf i s).pending = s.pending ∧ lookup (loadLoaf i s).regs 128 = lookup s.regs 128 := by
  simp +decide [loadLoaf]

end Sys2Proof.Machine
end

