-- ==== Sys2Proof/Laws/KeepsModes.lean ====
section
/-!
SUPPORT. What the operations of `Machine/Modes.lean` leave alone: device memory, the queue of commands, the current mode.
-/
namespace Sys2Proof.Machine

@[simp] theorem modModes_keeps (s : State) (f : ModeCtl → ModeCtl) :
    (State.modModes s f).mem = s.mem ∧ (State.modModes s f).pending = s.pending ∧ lookup (State.modModes s f).regs 128 = lookup s.regs 128 := by
  simp +decide [State.modModes]

@[simp] theorem endpointLinkDown_keeps (s : State) :
    (endpointLinkDown s).pending = s.pending ∧ lookup (endpointLinkDown s).regs 128 = lookup s.regs 128 := by
  simp +decide [endpointLinkDown]

@[simp] theorem endpointReset_keeps (down : Bool) (s : State) :
    (endpointReset down s).pending = s.pending ∧ lookup (endpointReset down s).regs 128 = lookup s.regs 128 := by
  simp +decide [endpointReset]

@[simp] theorem modeAnswer_keeps (q : ModeReq) (st : Status) (reason : Nat) (s : State) :
    (modeAnswer q st reason s).mem = s.mem ∧ (modeAnswer q st reason s).pending = s.pending ∧ lookup (modeAnswer q st reason s).regs 128 = lookup s.regs 128 := by
  change Same s _
  unfold modeAnswer
  repeat' split
  all_goals simp +decide [Same]

@[simp] theorem modeResult_keeps (q : ModeReq) (st : Status) (reason : Nat) (s : State) :
    (modeResult q st reason s).mem = s.mem ∧ (modeResult q st reason s).pending = s.pending ∧ lookup (modeResult q st reason s).regs 128 = lookup s.regs 128 := by
  simp +decide [modeResult]

@[simp] theorem modeOutcome_keeps (q : ModeReq) (st : Status) (reason : Nat) (s : State) :
    (modeOutcome q st reason s).mem = s.mem ∧ (modeOutcome q st reason s).pending = s.pending ∧ lookup (modeOutcome q st reason s).regs 128 = lookup s.regs 128 := by
  simp +decide [modeOutcome]

@[simp] theorem proofRequest_keeps (q : ModeReq) (s : State) :
    (proofRequest q s).mem = s.mem ∧ (proofRequest q s).pending = s.pending ∧ lookup (proofRequest q s).regs 128 = lookup s.regs 128 := by
  simp +decide [proofRequest]

@[simp] theorem modeSubmit_keeps (q : ModeReq) (s : State) :
    (modeSubmit q s).mem = s.mem ∧ (modeSubmit q s).pending = s.pending ∧ lookup (modeSubmit q s).regs 128 = lookup s.regs 128 := by
  simp +decide [modeSubmit]

@[simp] theorem modeGo_keeps (m : Mode) (s : State) :
    (modeGo m s).mem = s.mem ∧ (modeGo m s).pending = s.pending := by
  simp +decide [modeGo]

@[simp] theorem saveOnce_keeps (kind : SaveKind) (s : State) :
    (saveOnce kind s).mem = s.mem ∧ (saveOnce kind s).pending = s.pending ∧ lookup (saveOnce kind s).regs 128 = lookup s.regs 128 := by
  simp +decide [saveOnce]

@[simp] theorem leaveMode_keeps (next : Mode) (s : State) :
    (leaveMode next s).mem = s.mem ∧ (leaveMode next s).pending = s.pending ∧ lookup (leaveMode next s).regs 128 = lookup s.regs 128 := by
  simp +decide [leaveMode]

@[simp] theorem awaitMdllA_keeps (s : State) :
    (awaitMdllA s).mem = s.mem ∧ (awaitMdllA s).pending = s.pending ∧ lookup (awaitMdllA s).regs 128 = lookup s.regs 128 := by
  simp +decide [awaitMdllA]

@[simp] theorem leaveProof_keeps (s : State) :
    (leaveProof s).pending = s.pending ∧ lookup (leaveProof s).regs 128 = lookup s.regs 128 := by
  simp +decide [leaveProof]

@[simp] theorem leaveDormant_keeps (s : State) :
    (leaveDormant s).mem = s.mem ∧ (leaveDormant s).pending = s.pending ∧ lookup (leaveDormant s).regs 128 = lookup s.regs 128 := by
  simp +decide [leaveDormant]

@[simp] theorem leaveStopped_keeps (s : State) :
    (leaveStopped s).pending = s.pending ∧ lookup (leaveStopped s).regs 128 = lookup s.regs 128 := by
  simp +decide [leaveStopped]

@[simp] theorem enterHold_keeps (s : State) :
    (enterHold s).pending = s.pending := by
  simp +decide [enterHold]

@[simp] theorem recoveryBegin_keeps (need : Nat) (s : State) :
    (recoveryBegin need s).pending = s.pending := by
  simp +decide [recoveryBegin]

@[simp] theorem enterRecovery_keeps (s : State) :
    (enterRecovery s).pending = s.pending := by
  simp +decide [enterRecovery]

@[simp] theorem enterCommission_keeps (s : State) :
    (enterCommission s).mem = s.mem ∧ (enterCommission s).pending = s.pending := by
  simp +decide [enterCommission]

@[simp] theorem enterService_keeps (s : State) :
    (enterService s).mem = s.mem ∧ (enterService s).pending = s.pending := by
  simp +decide [enterService]

@[simp] theorem stopForProof_keeps (s : State) :
    (stopForProof s).pending = s.pending ∧ lookup (stopForProof s).regs 128 = lookup s.regs 128 := by
  simp +decide [stopForProof]

@[simp] theorem enterProof_keeps (s : State) :
    (enterProof s).pending = s.pending := by
  simp +decide [enterProof]

@[simp] theorem enterDormant_keeps (s : State) :
    (enterDormant s).mem = s.mem ∧ (enterDormant s).pending = s.pending := by
  simp +decide [enterDormant]

@[simp] theorem modeEnter_keeps (m : Mode) (s : State) :
    (modeEnter m s).pending = s.pending := by
  change SameQueue s _
  unfold modeEnter
  repeat' split
  all_goals simp +decide [SameQueue]

@[simp] theorem modeEvaluate_keeps (q : ModeReq) (s : State) :
    (modeEvaluate q s).pending = s.pending := by
  change SameQueue s _
  unfold modeEvaluate
  dsimp only
  repeat' split
  all_goals simp +decide [SameQueue]

@[simp] theorem modeRequestBoundary_keeps (s : State) :
    (modeRequestBoundary s).pending = s.pending := by
  change SameQueue s _
  unfold modeRequestBoundary
  repeat' split
  all_goals simp +decide [SameQueue]

@[simp] theorem splitAccept_keeps (r : PairReq) (s : State) :
    (splitAccept r s).pending = s.pending := by
  simp +decide [splitAccept]

@[simp] theorem splitEvaluate_keeps (r : PairReq) (s : State) :
    (splitEvaluate r s).pending = s.pending := by
  simp +decide [splitEvaluate]

@[simp] theorem pairRequestBoundary_keeps (s : State) :
    (pairRequestBoundary s).pending = s.pending := by
  change SameQueue s _
  unfold pairRequestBoundary
  repeat' split
  all_goals simp +decide [SameQueue]

@[simp] theorem pairSubmit_keeps (r : PairReq) (s : State) :
    (pairSubmit r s).mem = s.mem ∧ (pairSubmit r s).pending = s.pending ∧ lookup (pairSubmit r s).regs 128 = lookup s.regs 128 := by
  change Same s _
  unfold pairSubmit
  repeat' split
  all_goals simp +decide [Same]

@[simp] theorem rejoinTarget_keeps (target : Nat) (s : State) :
    (rejoinTarget target s).pending = s.pending := by
  simp +decide [rejoinTarget]

@[simp] theorem rejoinFinish_keeps (r : PairReq) (s : State) :
    (rejoinFinish r s).pending = s.pending := by
  simp +decide [rejoinFinish]

@[simp] theorem rejoinBoundary_keeps (s : State) :
    (rejoinBoundary s).pending = s.pending := by
  change SameQueue s _
  unfold rejoinBoundary
  repeat' split
  all_goals simp +decide [SameQueue]

@[simp] theorem preemptRequests_keeps (s : State) :
    (preemptRequests s).mem = s.mem ∧ (preemptRequests s).pending = s.pending ∧ lookup (preemptRequests s).regs 128 = lookup s.regs 128 := by
  change Same s _
  unfold preemptRequests
  dsimp only
  repeat' split
  all_goals simp +decide [Same]

@[simp] theorem crustDiffers_keeps (changed : Bool) (s : State) :
    (crustDiffers changed s).mem = s.mem ∧ (crustDiffers changed s).pending = s.pending ∧ lookup (crustDiffers changed s).regs 128 = lookup s.regs 128 := by
  change Same s _
  unfold crustDiffers
  repeat' split
  all_goals simp +decide [Same]

@[simp] theorem crustBoundary_keeps (s : State) :
    (crustBoundary s).mem = s.mem ∧ (crustBoundary s).pending = s.pending ∧ lookup (crustBoundary s).regs 128 = lookup s.regs 128 := by
  simp +decide [crustBoundary]

@[simp] theorem overrunBoundary_keeps (s : State) :
    (overrunBoundary s).mem = s.mem ∧ (overrunBoundary s).pending = s.pending ∧ lookup (overrunBoundary s).regs 128 = lookup s.regs 128 := by
  simp +decide [overrunBoundary]

@[simp] theorem proofEnd_keeps (s : State) :
    (proofEnd s).pending = s.pending := by
  simp +decide [proofEnd]

@[simp] theorem recoveryExpiry_keeps (s : State) :
    (recoveryExpiry s).mem = s.mem ∧ (recoveryExpiry s).pending = s.pending ∧ lookup (recoveryExpiry s).regs 128 = lookup s.regs 128 := by
  simp +decide [recoveryExpiry]

@[simp] theorem recoveryBoundary_keeps (s : State) :
    (recoveryBoundary s).mem = s.mem ∧ (recoveryBoundary s).pending = s.pending := by
  simp +decide [recoveryBoundary]

@[simp] theorem ownTransitions_keeps (s : State) :
    (ownTransitions s).pending = s.pending := by
  simp +decide [ownTransitions]

@[simp] theorem modeWork_keeps (s : State) :
    (modeWork s).pending = s.pending := by
  change SameQueue s _
  unfold modeWork
  repeat' split
  all_goals simp +decide [SameQueue]

@[simp] theorem holdCauseBoundary_keeps (s : State) :
    (holdCauseBoundary s).mem = s.mem ∧ (holdCauseBoundary s).pending = s.pending ∧ lookup (holdCauseBoundary s).regs 128 = lookup s.regs 128 := by
  simp +decide [holdCauseBoundary]

@[simp] theorem modeBoundary_keeps (s : State) :
    (modeBoundary s).pending = s.pending := by
  simp +decide [modeBoundary]

@[simp] theorem wakeRecovery_keeps (s : State) :
    (wakeRecovery s).pending = s.pending := by
  simp +decide [wakeRecovery]

@[simp] theorem tProofExpiry_keeps (s : State) :
    (tProofExpiry s).mem = s.mem ∧ (tProofExpiry s).pending = s.pending ∧ lookup (tProofExpiry s).regs 128 = lookup s.regs 128 := by
  change Same s _
  unfold tProofExpiry
  repeat' split
  all_goals simp +decide [Same]

@[simp] theorem proofHour_keeps (s : State) :
    (proofHour s).mem = s.mem ∧ (proofHour s).pending = s.pending ∧ lookup (proofHour s).regs 128 = lookup s.regs 128 := by
  simp +decide [proofHour]

@[simp] theorem autoProof_keeps (hourOver : Bool) (s : State) :
    (autoProof hourOver s).pending = s.pending := by
  simp +decide [autoProof]

end Sys2Proof.Machine
end

