-- ==== Sys2Proof/Laws/KeepsSop.lean ====
section
/-!
SUPPORT. What the operations of `Machine/Sop.lean` leave alone: device memory, the queue of commands, the current mode.
-/
namespace Sys2Proof.Machine

@[simp] theorem applyRelease_keeps (rel : Nat) (o : Nat) (s : State) :
    (applyRelease rel o s).mem = s.mem ∧ (applyRelease rel o s).pending = s.pending ∧ lookup (applyRelease rel o s).regs 128 = lookup s.regs 128 := by
  simp +decide [applyRelease]

@[simp] theorem demandAbandon_keeps (o : Nat) (s : State) :
    (demandAbandon o s).mem = s.mem ∧ (demandAbandon o s).pending = s.pending ∧ lookup (demandAbandon o s).regs 128 = lookup s.regs 128 := by
  simp +decide [demandAbandon]

@[simp] theorem recordCommitTime_keeps (us : Nat) (s : State) :
    (recordCommitTime us s).mem = s.mem ∧ (recordCommitTime us s).pending = s.pending ∧ lookup (recordCommitTime us s).regs 128 = lookup s.regs 128 := by
  simp +decide [recordCommitTime]

@[simp] theorem acceptCommit_keeps (gen us : Nat) (s : State) :
    (acceptCommit gen us s).mem = s.mem ∧ (acceptCommit gen us s).pending = s.pending ∧ lookup (acceptCommit gen us s).regs 128 = lookup s.regs 128 := by
  simp +decide [acceptCommit]

@[simp] theorem sopCommit_keeps (gen us : Nat) (s : State) :
    (sopCommit gen us s).mem = s.mem ∧ (sopCommit gen us s).pending = s.pending ∧ lookup (sopCommit gen us s).regs 128 = lookup s.regs 128 := by
  simp +decide [sopCommit]

@[simp] theorem sopUnlock_keeps (o : Nat) (s : State) :
    (sopUnlock o s).mem = s.mem ∧ (sopUnlock o s).pending = s.pending ∧ lookup (sopUnlock o s).regs 128 = lookup s.regs 128 := by
  simp +decide [sopUnlock]

@[simp] theorem takeAction_keeps (s : State) :
    (takeAction s).mem = s.mem ∧ (takeAction s).pending = s.pending ∧ lookup (takeAction s).regs 128 = lookup s.regs 128 := by
  simp +decide [takeAction]

@[simp] theorem startOutTest_keeps (o : Nat) (k : OutTestKind) (s : State) :
    (startOutTest o k s).mem = s.mem ∧ (startOutTest o k s).pending = s.pending ∧ lookup (startOutTest o k s).regs 128 = lookup s.regs 128 := by
  simp +decide [startOutTest]

@[simp] theorem offPulse_keeps (o : Nat) (s : State) :
    (offPulse o s).mem = s.mem ∧ (offPulse o s).pending = s.pending ∧ lookup (offPulse o s).regs 128 = lookup s.regs 128 := by
  simp +decide [offPulse]

@[simp] theorem offPulseEnd_keeps (o : Nat) (som sov : Bool) (s : State) :
    (offPulseEnd o som sov s).mem = s.mem ∧ (offPulseEnd o som sov s).pending = s.pending ∧ lookup (offPulseEnd o som sov s).regs 128 = lookup s.regs 128 := by
  simp +decide [offPulseEnd]

@[simp] theorem deferDue_keeps (o : Nat) (s : State) :
    (deferDue o s).mem = s.mem ∧ (deferDue o s).pending = s.pending ∧ lookup (deferDue o s).regs 128 = lookup s.regs 128 := by
  simp +decide [deferDue]

@[simp] theorem takeDeferred_keeps (o : Nat) (s : State) :
    (takeDeferred o s).mem = s.mem ∧ (takeDeferred o s).pending = s.pending ∧ lookup (takeDeferred o s).regs 128 = lookup s.regs 128 := by
  simp +decide [takeDeferred]

@[simp] theorem splitSwitchTest_keeps (o : Nat) (s : State) :
    (splitSwitchTest o s).mem = s.mem ∧ (splitSwitchTest o s).pending = s.pending ∧ lookup (splitSwitchTest o s).regs 128 = lookup s.regs 128 := by
  simp +decide [splitSwitchTest]

@[simp] theorem splitSwitchTestEnd_keeps (o : Nat) (somH sovH somL sovL : Bool) (s : State) :
    (splitSwitchTestEnd o somH sovH somL sovL s).mem = s.mem ∧ (splitSwitchTestEnd o somH sovH somL sovL s).pending = s.pending ∧ lookup (splitSwitchTestEnd o somH sovH somL sovL s).regs 128 = lookup s.regs 128 := by
  change Same s _
  unfold splitSwitchTestEnd
  repeat' split
  all_goals simp +decide [Same]

@[simp] theorem outputTestLate_keeps (o : Nat) (s : State) :
    (outputTestLate o s).mem = s.mem ∧ (outputTestLate o s).pending = s.pending ∧ lookup (outputTestLate o s).regs 128 = lookup s.regs 128 := by
  simp +decide [outputTestLate]

@[simp] theorem noteReadback_keeps (som sov : Nat) (o : Nat) (s : State) :
    (noteReadback som sov o s).mem = s.mem ∧ (noteReadback som sov o s).pending = s.pending ∧ lookup (noteReadback som sov o s).regs 128 = lookup s.regs 128 := by
  simp +decide [noteReadback]

@[simp] theorem readbackCheck_keeps (o : Nat) (s : State) :
    (readbackCheck o s).mem = s.mem ∧ (readbackCheck o s).pending = s.pending ∧ lookup (readbackCheck o s).regs 128 = lookup s.regs 128 := by
  simp +decide [readbackCheck]

@[simp] theorem splitAdvance_keeps (o : Nat) (s : State) :
    (splitAdvance o s).mem = s.mem ∧ (splitAdvance o s).pending = s.pending ∧ lookup (splitAdvance o s).regs 128 = lookup s.regs 128 := by
  change Same s _
  unfold splitAdvance
  repeat' split
  all_goals simp +decide [Same]

@[simp] theorem abandonCountdown_keeps (o : Nat) (s : State) :
    (abandonCountdown o s).mem = s.mem ∧ (abandonCountdown o s).pending = s.pending ∧ lookup (abandonCountdown o s).regs 128 = lookup s.regs 128 := by
  simp +decide [abandonCountdown]

@[simp] theorem sopCycleChannel_keeps (o : Nat) (s : State) :
    (sopCycleChannel o s).mem = s.mem ∧ (sopCycleChannel o s).pending = s.pending ∧ lookup (sopCycleChannel o s).regs 128 = lookup s.regs 128 := by
  simp +decide [sopCycleChannel]

@[simp] theorem sopCycle_keeps (s : State) :
    (sopCycle s).mem = s.mem ∧ (sopCycle s).pending = s.pending ∧ lookup (sopCycle s).regs 128 = lookup s.regs 128 := by
  simp +decide [sopCycle]

@[simp] theorem itemTenPart_keeps (r : ItemTen) (s : State) :
    (itemTenPart r s).mem = s.mem ∧ (itemTenPart r s).pending = s.pending ∧ lookup (itemTenPart r s).regs 128 = lookup s.regs 128 := by
  simp +decide [itemTenPart]

@[simp] theorem itemTenRun_keeps (again : Bool) (o : Nat) (s : State) :
    (itemTenRun again o s).mem = s.mem ∧ (itemTenRun again o s).pending = s.pending ∧ lookup (itemTenRun again o s).regs 128 = lookup s.regs 128 := by
  simp +decide [itemTenRun]

@[simp] theorem itemTenFrom_keeps (o : Nat) (s : State) :
    (itemTenFrom o s).mem = s.mem ∧ (itemTenFrom o s).pending = s.pending ∧ lookup (itemTenFrom o s).regs 128 = lookup s.regs 128 := by
  change Same s _
  unfold itemTenFrom
  repeat' split
  all_goals simp +decide [Same]

@[simp] theorem itemTenPass_keeps (o : Nat) (s : State) :
    (itemTenPass o s).mem = s.mem ∧ (itemTenPass o s).pending = s.pending ∧ lookup (itemTenPass o s).regs 128 = lookup s.regs 128 := by
  simp +decide [itemTenPass]

@[simp] theorem itemTenRunEnd_keeps (r : ItemTen) (s : State) :
    (itemTenRunEnd r s).mem = s.mem ∧ (itemTenRunEnd r s).pending = s.pending ∧ lookup (itemTenRunEnd r s).regs 128 = lookup s.regs 128 := by
  simp +decide [itemTenRunEnd]

@[simp] theorem itemTenTick_keeps (s : State) :
    (itemTenTick s).mem = s.mem ∧ (itemTenTick s).pending = s.pending ∧ lookup (itemTenTick s).regs 128 = lookup s.regs 128 := by
  change Same s _
  unfold itemTenTick
  repeat' split
  all_goals simp +decide [Same]

@[simp] theorem itemTenStop_keeps (s : State) :
    (itemTenStop s).mem = s.mem ∧ (itemTenStop s).pending = s.pending ∧ lookup (itemTenStop s).regs 128 = lookup s.regs 128 := by
  change Same s _
  unfold itemTenStop
  repeat' split
  all_goals simp +decide [Same]

@[simp] theorem sopTick_keeps (som sov : Nat) (s : State) :
    (sopTick som sov s).mem = s.mem ∧ (sopTick som sov s).pending = s.pending ∧ lookup (sopTick som sov s).regs 128 = lookup s.regs 128 := by
  simp +decide [sopTick]

end Sys2Proof.Machine
end

