-- ==== Sys2Proof/Laws/KeepsProof.lean ====
section
/-!
SUPPORT. What the operations of `Machine/Proof.lean` leave alone: device memory, the queue of commands, the current mode.
-/
namespace Sys2Proof.Machine

@[simp] theorem proofMayEnd_keeps (s : State) :
    (proofMayEnd s).mem = s.mem ∧ (proofMayEnd s).pending = s.pending ∧ lookup (proofMayEnd s).regs 128 = lookup s.regs 128 := by
  simp +decide [proofMayEnd]

@[simp] theorem itemEnd_keeps (i : Nat) (fails : List Cause) (s : State) :
    (itemEnd i fails s).mem = s.mem ∧ (itemEnd i fails s).pending = s.pending ∧ lookup (itemEnd i fails s).regs 128 = lookup s.regs 128 := by
  simp +decide [itemEnd]

@[simp] theorem itemOne_keeps (ok : Bool) (s : State) :
    (itemOne ok s).mem = s.mem ∧ (itemOne ok s).pending = s.pending ∧ lookup (itemOne ok s).regs 128 = lookup s.regs 128 := by
  simp +decide [itemOne]

@[simp] theorem itemTwo_keeps (ok : Bool) (s : State) :
    (itemTwo ok s).pending = s.pending ∧ lookup (itemTwo ok s).regs 128 = lookup s.regs 128 := by
  simp +decide [itemTwo]

@[simp] theorem itemThree_keeps (rcDev : Int) (fxRuns : Bool) (fxDev : Int) (s : State) :
    (itemThree rcDev fxRuns fxDev s).mem = s.mem ∧ (itemThree rcDev fxRuns fxDev s).pending = s.pending ∧ lookup (itemThree rcDev fxRuns fxDev s).regs 128 = lookup s.regs 128 := by
  simp +decide [itemThree]

@[simp] theorem itemFour_keeps (kat boot : Bool) (f : MemFound) (s : State) :
    (itemFour kat boot f s).mem = s.mem ∧ (itemFour kat boot f s).pending = s.pending ∧ lookup (itemFour kat boot f s).regs 128 = lookup s.regs 128 := by
  simp +decide [itemFour]

@[simp] theorem refBegin_keeps (s : State) :
    (refBegin s).mem = s.mem ∧ (refBegin s).pending = s.pending ∧ lookup (refBegin s).regs 128 = lookup s.regs 128 := by
  simp +decide [refBegin]

@[simp] theorem startAfterFive_keeps (s : State) :
    (startAfterFive s).mem = s.mem ∧ (startAfterFive s).pending = s.pending ∧ lookup (startAfterFive s).regs 128 = lookup s.regs 128 := by
  simp +decide [startAfterFive]

theorem Same.ite {c : Prop} [Decidable c] {s a b : State} (h : Same s a) (k : Same s b) :
    Same s (if c then a else b) := by split <;> assumption

@[simp] theorem itemFiveLoad_keeps (es : List LoafEntry) (ps : List SliceProgram) (rs : List Route) (unread : Bool) (s : State) :
    ((itemFiveLoad es ps rs unread s).2).mem = s.mem ∧ ((itemFiveLoad es ps rs unread s).2).pending = s.pending
      ∧ lookup ((itemFiveLoad es ps rs unread s).2).regs 128 = lookup s.regs 128 := by
  change Same s _
  unfold itemFiveLoad
  dsimp only
  rw [apply_ite Prod.snd]
  exact Same.ite (by simp [Same]) (by simp [Same])

@[simp] theorem itemFive_keeps (es : List LoafEntry) (ps : List SliceProgram) (rs : List Route) (f : MemFound) (s : State) :
    (itemFive es ps rs f s).mem = s.mem ∧ (itemFive es ps rs f s).pending = s.pending
      ∧ lookup (itemFive es ps rs f s).regs 128 = lookup s.regs 128 := by
  simp [itemFive]

@[simp] theorem itemSix_keeps (fail : Option (Nat × Nat)) (s : State) :
    (itemSix fail s).mem = s.mem ∧ (itemSix fail s).pending = s.pending ∧ lookup (itemSix fail s).regs 128 = lookup s.regs 128 := by
  simp +decide [itemSix]

@[simp] theorem damagedWord_keeps (a : Word) (s : State) :
    (damagedWord a s).pending = s.pending ∧ lookup (damagedWord a s).regs 128 = lookup s.regs 128 := by
  simp +decide [damagedWord]

@[simp] theorem itemSeven_keeps (ok : Bool) (damaged : List Word) (s : State) :
    (itemSeven ok damaged s).pending = s.pending ∧ lookup (itemSeven ok damaged s).regs 128 = lookup s.regs 128 := by
  simp +decide [itemSeven]

@[simp] theorem checkSystem_keeps (fails : List Nat) (q : Nat) (s : State) :
    (checkSystem fails q s).mem = s.mem ∧ (checkSystem fails q s).pending = s.pending ∧ lookup (checkSystem fails q s).regs 128 = lookup s.regs 128 := by
  simp +decide [checkSystem]

@[simp] theorem failRrc_keeps (c : Nat) (s : State) :
    (failRrc c s).mem = s.mem ∧ (failRrc c s).pending = s.pending ∧ lookup (failRrc c s).regs 128 = lookup s.regs 128 := by
  simp +decide [failRrc]

@[simp] theorem failPma_keeps (c : Nat) (s : State) :
    (failPma c s).mem = s.mem ∧ (failPma c s).pending = s.pending ∧ lookup (failPma c s).regs 128 = lookup s.regs 128 := by
  simp +decide [failPma]

@[simp] theorem trimPma_keeps (c : Nat) (s : State) :
    (trimPma c s).mem = s.mem ∧ (trimPma c s).pending = s.pending ∧ lookup (trimPma c s).regs 128 = lookup s.regs 128 := by
  simp +decide [trimPma]

@[simp] theorem failString_keeps (k : Nat) (s : State) :
    (failString k s).mem = s.mem ∧ (failString k s).pending = s.pending ∧ lookup (failString k s).regs 128 = lookup s.regs 128 := by
  simp +decide [failString]

@[simp] theorem itemEight_keeps (bandgap : Bool) (systems rrc pma strings : List Nat) (spareFail : Bool) (s : State) :
    (itemEight bandgap systems rrc pma strings spareFail s).mem = s.mem ∧ (itemEight bandgap systems rrc pma strings spareFail s).pending = s.pending ∧ lookup (itemEight bandgap systems rrc pma strings spareFail s).regs 128 = lookup s.regs 128 := by
  simp +decide [itemEight]

@[simp] theorem itemNine_keeps (flips : List LoopFlip) (idle : Nat) (s : State) :
    (itemNine flips idle s).mem = s.mem ∧ (itemNine flips idle s).pending = s.pending ∧ lookup (itemNine flips idle s).regs 128 = lookup s.regs 128 := by
  simp +decide [itemNine]

@[simp] theorem itemTen_keeps (s : State) :
    (itemTen s).mem = s.mem ∧ (itemTen s).pending = s.pending ∧ lookup (itemTen s).regs 128 = lookup s.regs 128 := by
  simp +decide [itemTen]

@[simp] theorem recordHead_keeps (h : Nat) (s : State) :
    (recordHead h s).mem = s.mem ∧ (recordHead h s).pending = s.pending ∧ lookup (recordHead h s).regs 128 = lookup s.regs 128 := by
  simp +decide [recordHead]

@[simp] theorem itemLines_keeps (s : State) :
    (itemLines s).mem = s.mem ∧ (itemLines s).pending = s.pending ∧ lookup (itemLines s).regs 128 = lookup s.regs 128 := by
  simp +decide [itemLines]

@[simp] theorem itemTwelve_keeps (s : State) :
    (itemTwelve s).mem = s.mem ∧ (itemTwelve s).pending = s.pending ∧ lookup (itemTwelve s).regs 128 = lookup s.regs 128 := by
  simp +decide [itemTwelve]

@[simp] theorem itemResult_keeps (r : ItemResult) (s : State) :
    (itemResult r s).pending = s.pending ∧ lookup (itemResult r s).regs 128 = lookup s.regs 128 := by
  change SameButMem s _
  unfold itemResult
  repeat' split
  all_goals simp +decide [SameButMem]

@[simp] theorem beginItems_keeps (g : State → State) (s : State) :
    (beginItems g s).mem = (g s).mem ∧ (beginItems g s).pending = (g s).pending
      ∧ lookup (beginItems g s).regs 128 = lookup (g s).regs 128 := by
  simp +decide [beginItems]

@[simp] theorem proofItemComplete_keeps (r : ItemResult) (s : State) :
    (proofItemComplete r s).pending = s.pending ∧ lookup (proofItemComplete r s).regs 128 = lookup s.regs 128 := by
  simp +decide [proofItemComplete]

@[simp] theorem proofTimeout_keeps (i : Nat) (s : State) :
    (proofTimeout i s).mem = s.mem ∧ (proofTimeout i s).pending = s.pending ∧ lookup (proofTimeout i s).regs 128 = lookup s.regs 128 := by
  simp +decide [proofTimeout]

end Sys2Proof.Machine
end

