-- ==== Sys2Proof/Laws/KeepsReset.lean ====
section
/-!
SUPPORT. What the operations of `Machine/Reset.lean` leave alone: device memory, the queue of commands, the current mode.
-/
namespace Sys2Proof.Machine

@[simp] theorem flashInterrupt_pending (s : State) : (flashInterrupt s).pending = s.pending := (flashInterrupt_keeps s).1

@[simp] theorem coldReset_keeps (s : State) : (coldReset s).pending = s.pending := by
  unfold coldReset
  exact flashInterrupt_pending s

@[simp] theorem warmKept_keeps (s : State) :
    (warmKept s).mem = s.mem ∧ (warmKept s).pending = s.pending := ⟨rfl, rfl⟩

@[simp] theorem showLock_keeps (o : Nat) (s : State) :
    (showLock o s).mem = s.mem ∧ (showLock o s).pending = s.pending ∧ lookup (showLock o s).regs 128 = lookup s.regs 128 := by
  simp +decide [showLock]

@[simp] theorem keepBlank_keeps (b : Option (Nat × Nat)) (s : State) :
    (keepBlank b s).mem = s.mem ∧ (keepBlank b s).pending = s.pending ∧ lookup (keepBlank b s).regs 128 = lookup s.regs 128 := by
  change Same s _
  unfold keepBlank
  repeat' split
  all_goals simp +decide [Same]

@[simp] theorem warmReset_keeps (s : State) :
    (warmReset s).mem = s.mem ∧ (warmReset s).pending = s.pending := by
  simp +decide [warmReset]

@[simp] theorem resetRelease_keeps (s : State) :
    (resetRelease s).mem = s.mem ∧ (resetRelease s).pending = s.pending ∧ lookup (resetRelease s).regs 128 = lookup s.regs 128 := by
  simp +decide [resetRelease]

@[simp] theorem sysResetReq_keeps (key : Nat) (go : Bool) (s : State) :
    (sysResetReq key go s).mem = s.mem ∧ (sysResetReq key go s).pending = s.pending := by
  simp +decide [sysResetReq]

@[simp] theorem oscillatorQualified_keeps (loafSel : Nat) (s : State) :
    (oscillatorQualified loafSel s).pending = s.pending := by
  simp +decide [oscillatorQualified]

end Sys2Proof.Machine
end

