-- ==== Sys2Proof/Laws/KeepsHost.lean ====
section
/-!
SUPPORT. What the operations of `Machine/Host.lean` leave alone: device memory, the queue of commands, the current mode.
-/
namespace Sys2Proof.Machine

@[simp] theorem loafSelect_keeps (ch slot : Nat) (s : State) :
    (loafSelect ch slot s).mem = s.mem ∧ (loafSelect ch slot s).pending = s.pending ∧ lookup (loafSelect ch slot s).regs 128 = lookup s.regs 128 := by
  change Same s _
  unfold loafSelect
  repeat' split
  all_goals simp +decide [Same]

@[simp] theorem snapNow_keeps (ch : Nat) (s : State) :
    (snapNow ch s).mem = s.mem ∧ (snapNow ch s).pending = s.pending ∧ lookup (snapNow ch s).regs 128 = lookup s.regs 128 := by
  simp +decide [snapNow]

@[simp] theorem snapAt_keeps (ch ns sec : Nat) (s : State) :
    (snapAt ch ns sec s).mem = s.mem ∧ (snapAt ch ns sec s).pending = s.pending ∧ lookup (snapAt ch ns sec s).regs 128 = lookup s.regs 128 := by
  change Same s _
  unfold snapAt
  dsimp only
  repeat' split
  all_goals simp +decide [Same]

@[simp] theorem stepArmCommand_keeps (ch : Nat) (s : State) :
    (stepArmCommand ch s).mem = s.mem ∧ (stepArmCommand ch s).pending = s.pending ∧ lookup (stepArmCommand ch s).regs 128 = lookup s.regs 128 := by
  change Same s _
  unfold stepArmCommand
  repeat' split
  all_goals simp +decide [Same]

@[simp] theorem ledgerReadCommand_keeps (ch k n first : Nat) (s : State) :
    (ledgerReadCommand ch k n first s).mem = s.mem ∧ (ledgerReadCommand ch k n first s).pending = s.pending ∧ lookup (ledgerReadCommand ch k n first s).regs 128 = lookup s.regs 128 := by
  simp +decide [ledgerReadCommand]

@[simp] theorem runCommand_keeps (ch : Nat) (req : List Nat) (s : State) :
    (runCommand ch req s).mem = s.mem ∧ (runCommand ch req s).pending = s.pending ∧ lookup (runCommand ch req s).regs 128 = lookup s.regs 128 := by
  change Same s _
  unfold runCommand
  repeat' split
  all_goals simp +decide [Same]

@[simp] theorem serveChannel_keeps (ch : Nat) (s : State) :
    (serveChannel ch s).mem = s.mem ∧ (serveChannel ch s).pending = s.pending ∧ lookup (serveChannel ch s).regs 128 = lookup s.regs 128 := by
  change Same s _
  unfold serveChannel
  repeat' split
  all_goals simp +decide [Same]

@[simp] theorem serveChannels_keeps (s : State) :
    (serveChannels s).mem = s.mem ∧ (serveChannels s).pending = s.pending ∧ lookup (serveChannels s).regs 128 = lookup s.regs 128 := by
  simp +decide [serveChannels]

@[simp] theorem postAndServe_keeps (ch : Nat) (req : List Nat) (finds : Option (Nat × Nat) × ImageCheck) (s : State) :
    (postAndServe ch req finds s).mem = s.mem ∧ (postAndServe ch req finds s).pending = s.pending ∧ lookup (postAndServe ch req finds s).regs 128 = lookup s.regs 128 := by
  simp +decide [postAndServe]

@[simp] theorem pcieUp_keeps (s : State) :
    (pcieUp s).mem = s.mem ∧ (pcieUp s).pending = s.pending ∧ lookup (pcieUp s).regs 128 = lookup s.regs 128 := by
  simp +decide [pcieUp]

@[simp] theorem doorbell_keeps (finds : Option (Nat × Nat) × ImageCheck) (s : State) :
    (doorbell finds s).mem = s.mem ∧ (doorbell finds s).pending = s.pending ∧ lookup (doorbell finds s).regs 128 = lookup s.regs 128 := by
  simp +decide [doorbell]

@[simp] theorem pciePost_keeps (req : List Nat) (finds : Option (Nat × Nat) × ImageCheck) (s : State) :
    (pciePost req finds s).mem = s.mem ∧ (pciePost req finds s).pending = s.pending ∧ lookup (pciePost req finds s).regs 128 = lookup s.regs 128 := by
  simp +decide [pciePost]

@[simp] theorem holdWrite_keeps (w : HeldWrite) (s : State) :
    (holdWrite w s).mem = s.mem ∧ (holdWrite w s).pending = s.pending ∧ lookup (holdWrite w s).regs 128 = lookup s.regs 128 := by
  simp +decide [holdWrite]

@[simp] theorem svSelect_keeps (s : State) :
    (svSelect s).mem = s.mem ∧ (svSelect s).pending = s.pending ∧ lookup (svSelect s).regs 128 = lookup s.regs 128 := by
  simp +decide [svSelect]

@[simp] theorem svError_keeps (s : State) :
    (svError s).mem = s.mem ∧ (svError s).pending = s.pending ∧ lookup (svError s).regs 128 = lookup s.regs 128 := by
  simp +decide [svError]

@[simp] theorem hostPost_keeps (ch : Nat) (req : List Nat) (finds : Option (Nat × Nat) × ImageCheck) (s : State) :
    (hostPost ch req finds s).mem = s.mem ∧ (hostPost ch req finds s).pending = s.pending ∧ lookup (hostPost ch req finds s).regs 128 = lookup s.regs 128 := by
  simp +decide [hostPost]

@[simp] theorem command_keeps (ch code tag : Nat) (payload : List Nat) (s : State) :
    (command ch code tag payload s).mem = s.mem ∧ (command ch code tag payload s).pending = s.pending ∧ lookup (command ch code tag payload s).regs 128 = lookup s.regs 128 := by
  simp +decide [command]

@[simp] theorem rejoinCommand_keeps (ch tag target : Nat) (weevilFail : Option (Nat × Nat)) (image : ImageCheck) (s : State) :
    (rejoinCommand ch tag target weevilFail image s).mem = s.mem ∧ (rejoinCommand ch tag target weevilFail image s).pending = s.pending ∧ lookup (rejoinCommand ch tag target weevilFail image s).regs 128 = lookup s.regs 128 := by
  simp +decide [rejoinCommand]

@[simp] theorem commandTimeout_keeps (ch : Nat) (s : State) :
    (commandTimeout ch s).mem = s.mem ∧ (commandTimeout ch s).pending = s.pending ∧ lookup (commandTimeout ch s).regs 128 = lookup s.regs 128 := by
  change Same s _
  unfold commandTimeout
  repeat' split
  all_goals simp +decide [Same]

@[simp] theorem answerSummaries_keeps (s : State) :
    (answerSummaries s).mem = s.mem ∧ (answerSummaries s).pending = s.pending ∧ lookup (answerSummaries s).regs 128 = lookup s.regs 128 := by
  simp +decide [answerSummaries]

@[simp] theorem maskWrite_keeps (v : Nat) (s : State) :
    (maskWrite v s).mem = s.mem ∧ (maskWrite v s).pending = s.pending ∧ lookup (maskWrite v s).regs 128 = lookup s.regs 128 := by
  simp +decide [maskWrite]

@[simp] theorem irqUnmask_keeps (k : Nat) (s : State) :
    (irqUnmask k s).mem = s.mem ∧ (irqUnmask k s).pending = s.pending ∧ lookup (irqUnmask k s).regs 128 = lookup s.regs 128 := by
  simp +decide [irqUnmask]

@[simp] theorem pcieLinkReset_keeps (kind : LinkReset) (s : State) :
    (pcieLinkReset kind s).pending = s.pending ∧ lookup (pcieLinkReset kind s).regs 128 = lookup s.regs 128 := by
  simp +decide [pcieLinkReset]

@[simp] theorem hostFails_keeps (why : HostFail) (write : Bool) (s : State) :
    (hostFails why write s).mem = s.mem ∧ (hostFails why write s).pending = s.pending ∧ lookup (hostFails why write s).regs 128 = lookup s.regs 128 := by
  simp +decide [hostFails]

@[simp] theorem hostLoad_keeps (f : MemFound) (ps : List (Nat × Nat)) (s : State) :
    (hostLoad f ps s).mem = s.mem ∧ (hostLoad f ps s).pending = s.pending ∧ lookup (hostLoad f ps s).regs 128 = lookup s.regs 128 := by
  simp +decide [hostLoad]

@[simp] theorem hostStore_keeps (f : MemFound) (ps : List (Nat × Nat)) (bs : List Nat) (s : State) :
    (hostStore f ps bs s).pending = s.pending ∧ lookup (hostStore f ps bs s).regs 128 = lookup s.regs 128 := by
  induction ps generalizing bs s with
  | nil => simp [hostStore]
  | cons p ps ih => simp [hostStore, ih]

@[simp] theorem hostServe_keeps (ps : List (Nat × Nat)) (w : Option (List Nat)) (f : MemFound) (s : State) :
    (hostServe ps w f s).pending = s.pending ∧ lookup (hostServe ps w f s).regs 128 = lookup s.regs 128 := by
  change SameButMem s _
  unfold hostServe
  repeat' split
  all_goals simp [SameButMem]

@[simp] theorem barStep_keeps (w : BarWait) (s : State) :
    (barStep w s).pending = s.pending ∧ lookup (barStep w s).regs 128 = lookup s.regs 128 := by
  simp +decide [barStep]

@[simp] theorem barTick_keeps (s : State) :
    (barTick s).pending = s.pending ∧ lookup (barTick s).regs 128 = lookup s.regs 128 := by
  simp +decide [barTick]

@[simp] theorem windowWalk_keeps (dom : Nat) (w : Bool) (f : MemFound) (fuel iova n : Nat) (s : State) :
    ((windowWalk dom w f fuel iova n s).1).mem = s.mem ∧ ((windowWalk dom w f fuel iova n s).1).pending = s.pending
      ∧ lookup ((windowWalk dom w f fuel iova n s).1).regs 128 = lookup s.regs 128 := by
  induction fuel generalizing iova n s with
  | zero => simp [windowWalk]
  | succ k ih =>
    change Same s _
    unfold windowWalk
    split
    · simp [Same]
    split
    · simp +decide [Same]
    have h := translate_keeps dom w iova s
    split
    · rename_i e; rw [e] at h; exact h
    · rename_i t pa room e
      rw [e] at h
      have k := ih (iova + min room n) (n - min room n) t
      have q : Same s (windowWalk dom w f _ (iova + min room n) (n - min room n) t).1 :=
        ⟨k.1.trans h.1, k.2.1.trans h.2.1, k.2.2.trans h.2.2⟩
      dsimp only
      split <;> (rename_i e'; rw [e'] at q; exact q)

theorem windowWalk_of {dom : Nat} {w : Bool} {f : MemFound} {fuel iova n : Nat} {s t : State} {x : Except HostFail (List (Nat × Nat))}
    (h : windowWalk dom w f fuel iova n s = (t, x)) : SameButMem s t := by
  have k := windowWalk_keeps dom w f fuel iova n s
  rw [h] at k
  exact k.2

@[simp] theorem hostWindow_keeps (iova len : Nat) (w : Option (List Nat)) (late : Bool) (f : MemFound) (s : State) :
    (hostWindow iova len w late f s).pending = s.pending
      ∧ lookup (hostWindow iova len w late f s).regs 128 = lookup s.regs 128 := by
  change SameButMem s _
  unfold hostWindow
  split
  · rename_i e; exact SameButMem.trans (windowWalk_of e) (by simp [SameButMem])
  · rename_i e
    refine SameButMem.trans (windowWalk_of e) ?_
    split <;> simp [SameButMem]

@[simp] theorem mailboxStore_keeps (off : Nat) (bs : List Nat) (s : State) :
    (mailboxStore off bs s).mem = s.mem ∧ (mailboxStore off bs s).pending = s.pending ∧ lookup (mailboxStore off bs s).regs 128 = lookup s.regs 128 := by
  simp +decide [mailboxStore]

@[simp] theorem hostMailbox_keeps (off len : Nat) (write : Option (List Nat)) (s : State) :
    (hostMailbox off len write s).mem = s.mem ∧ (hostMailbox off len write s).pending = s.pending ∧ lookup (hostMailbox off len write s).regs 128 = lookup s.regs 128 := by
  change Same s _
  unfold hostMailbox
  repeat' split
  all_goals simp +decide [Same]

@[simp] theorem hostConfig_keeps (off len : Nat) (write : Option (List Nat)) (s : State) :
    (hostConfig off len write s).mem = s.mem ∧ (hostConfig off len write s).pending = s.pending ∧ lookup (hostConfig off len write s).regs 128 = lookup s.regs 128 := by
  change Same s _
  unfold hostConfig
  repeat' split
  all_goals simp +decide [Same]

@[simp] theorem hostMemory_keeps (place : HostSpace) (len : Nat) (write : Option (List Nat)) (late : Bool) (f : MemFound) (s : State) :
    (hostMemory place len write late f s).pending = s.pending ∧ lookup (hostMemory place len write late f s).regs 128 = lookup s.regs 128 := by
  change SameButMem s _
  unfold hostMemory
  repeat' split
  all_goals simp +decide [SameButMem]

end Sys2Proof.Machine
end

