-- ==== Sys2Proof/Laws/KeepsAccess.lean ====
section
/-!
SUPPORT. What the operations of `Machine/Access.lean` leave alone: device memory, the queue of commands, the current mode.
-/
namespace Sys2Proof.Machine

@[simp] theorem writeField_keeps (f : Fld) (i v : Nat) (s : State) :
    (writeField f i v s).mem = s.mem ∧ (writeField f i v s).pending = s.pending := by
  change SameButMode s _
  unfold writeField
  repeat' split
  all_goals simp +decide [SameButMode]

@[simp] theorem writeFields_keeps (r : Reg) (i v : Nat) (s : State) :
    (writeFields r i v s).mem = s.mem ∧ (writeFields r i v s).pending = s.pending := by
  simp +decide [writeFields]

@[simp] theorem writeSys_keeps (r : Reg) (i v : Nat) (s : State) :
    (writeSys r i v s).mem = s.mem ∧ (writeSys r i v s).pending = s.pending := by
  simp +decide [writeSys]

@[simp] theorem writeClk_keeps (r : Reg) (i v : Nat) (s : State) :
    (writeClk r i v s).mem = s.mem ∧ (writeClk r i v s).pending = s.pending := by
  simp +decide [writeClk]

@[simp] theorem writeHfe_keeps (r : Reg) (i v : Nat) (s : State) :
    (writeHfe r i v s).mem = s.mem ∧ (writeHfe r i v s).pending = s.pending := by
  simp +decide [writeHfe]

@[simp] theorem writeCnt_keeps (r : Reg) (i v : Nat) (s : State) :
    (writeCnt r i v s).mem = s.mem ∧ (writeCnt r i v s).pending = s.pending := by
  simp +decide [writeCnt]

@[simp] theorem writeSop_keeps (r : Reg) (i v : Nat) (s : State) :
    (writeSop r i v s).mem = s.mem ∧ (writeSop r i v s).pending = s.pending := by
  simp +decide [writeSop]

@[simp] theorem writeLks_keeps (r : Reg) (i v : Nat) (s : State) :
    (writeLks r i v s).mem = s.mem ∧ (writeLks r i v s).pending = s.pending := by
  simp +decide [writeLks]

@[simp] theorem writeChk_keeps (r : Reg) (i v : Nat) (s : State) :
    (writeChk r i v s).mem = s.mem ∧ (writeChk r i v s).pending = s.pending := by
  simp +decide [writeChk]

@[simp] theorem writeGfe_keeps (r : Reg) (i v : Nat) (s : State) :
    (writeGfe r i v s).mem = s.mem ∧ (writeGfe r i v s).pending = s.pending := by
  simp +decide [writeGfe]

@[simp] theorem writePwm_keeps (r : Reg) (i v : Nat) (s : State) :
    (writePwm r i v s).mem = s.mem ∧ (writePwm r i v s).pending = s.pending := by
  simp +decide [writePwm]

@[simp] theorem writeCan_keeps (r : Reg) (i v : Nat) (s : State) :
    (writeCan r i v s).mem = s.mem ∧ (writeCan r i v s).pending = s.pending := by
  simp +decide [writeCan]

@[simp] theorem writeEth_keeps (r : Reg) (i v : Nat) (s : State) :
    (writeEth r i v s).mem = s.mem ∧ (writeEth r i v s).pending = s.pending := by
  simp +decide [writeEth]

@[simp] theorem ringOp_keeps (r op seq : Nat) (s : State) :
    (ringOp r op seq s).pending = s.pending ∧ lookup (ringOp r op seq s).regs 128 = lookup s.regs 128 := by
  change SameButMem s _
  unfold ringOp
  repeat' split
  all_goals simp +decide [SameButMem]

@[simp] theorem writeDma_keeps (r : Reg) (i v : Nat) (s : State) :
    (writeDma r i v s).pending = s.pending := by
  simp +decide [writeDma]

@[simp] theorem snapArmWrite_keeps (s : State) :
    (snapArmWrite s).mem = s.mem ∧ (snapArmWrite s).pending = s.pending ∧ lookup (snapArmWrite s).regs 128 = lookup s.regs 128 := by
  change Same s _
  unfold snapArmWrite
  repeat' split
  all_goals simp +decide [Same]

@[simp] theorem writeSnp_keeps (req : Requester) (r : Reg) (i v : Nat) (s : State) :
    (writeSnp req r i v s).mem = s.mem ∧ (writeSnp req r i v s).pending = s.pending := by
  simp +decide [writeSnp]

@[simp] theorem writeFab_keeps (r : Reg) (i v : Nat) (s : State) :
    (writeFab r i v s).mem = s.mem ∧ (writeFab r i v s).pending = s.pending := by
  simp +decide [writeFab]

@[simp] theorem writeEffect_keeps (req : Requester) (r : Reg) (i v : Nat) (s : State) :
    (writeEffect req r i v s).pending = s.pending := by
  change SameQueue s _
  unfold writeEffect
  repeat' split
  all_goals simp +decide [SameQueue]

@[simp] theorem readOnlyWrite_keeps (req : Requester) (r : Reg) (i : Nat) (s : State) :
    (readOnlyWrite req r i s).mem = s.mem ∧ (readOnlyWrite req r i s).pending = s.pending ∧ lookup (readOnlyWrite req r i s).regs 128 = lookup s.regs 128 := by
  simp +decide [readOnlyWrite]

@[simp] theorem sliceAccess_keeps (i : Nat) (write : Bool) (a : Nat) (s : State) :
    (sliceAccess i write a s).mem = s.mem ∧ (sliceAccess i write a s).pending = s.pending ∧ lookup (sliceAccess i write a s).regs 128 = lookup s.regs 128 := by
  simp +decide [sliceAccess]

@[simp] theorem registerWrite_keeps (req : Requester) (a size v : Nat) (s : State) :
    (registerWrite req a size v s).pending = s.pending := by
  change SameQueue s _
  unfold registerWrite
  repeat' split
  all_goals simp +decide [SameQueue]

@[simp] theorem clearRead_keeps (r : Reg) (i : Nat) (s : State) :
    (clearRead r i s).mem = s.mem ∧ (clearRead r i s).pending = s.pending := by
  simp +decide [clearRead]

@[simp] theorem readEffect_keeps (req : Requester) (r : Reg) (i v : Nat) (s : State) :
    (readEffect req r i v s).mem = s.mem ∧ (readEffect req r i v s).pending = s.pending ∧ lookup (readEffect req r i v s).regs 128 = lookup s.regs 128 := by
  change Same s _
  unfold readEffect
  repeat' split
  all_goals simp +decide [Same]

@[simp] theorem runOn_keeps (block : Nat) (s : State) :
    (runOn block s).mem = s.mem ∧ (runOn block s).pending = s.pending ∧ lookup (runOn block s).regs 128 = lookup s.regs 128 := by
  change Same s _
  unfold runOn
  repeat' split
  all_goals simp +decide [Same]

@[simp] theorem registerRead_keeps (req : Requester) (a size : Nat) (s : State) :
    ((registerRead req a size s).1).mem = s.mem ∧ ((registerRead req a size s).1).pending = s.pending := by
  change SameButMode s _
  unfold registerRead
  repeat' split
  all_goals simp +decide [SameButMode]

@[simp] theorem hostWrite_keeps (a size v : Nat) (s : State) :
    (hostWrite a size v s).pending = s.pending := by
  simp +decide [hostWrite]

@[simp] theorem answerRead_keeps (p : State × Nat) :
    (answerRead p).mem = p.1.mem ∧ (answerRead p).pending = p.1.pending
      ∧ lookup (answerRead p).regs 128 = lookup p.1.regs 128 := by
  simp [answerRead]

@[simp] theorem answerCore_keeps (n : Nat) (p : State × Nat) :
    (answerCore n p).mem = p.1.mem ∧ (answerCore n p).pending = p.1.pending
      ∧ lookup (answerCore n p).regs 128 = lookup p.1.regs 128 := by
  simp [answerCore]

@[simp] theorem answerHost_keeps (n : Nat) (p : State × Nat) :
    (answerHost n p).mem = p.1.mem ∧ (answerHost n p).pending = p.1.pending
      ∧ lookup (answerHost n p).regs 128 = lookup p.1.regs 128 := by
  unfold answerHost; split <;> simp

@[simp] theorem hostRead_keeps (a size : Nat) (s : State) :
    (hostRead a size s).mem = s.mem ∧ (hostRead a size s).pending = s.pending := by
  change SameButMode s _
  unfold hostRead
  repeat' split
  all_goals simp [SameButMode]

@[simp] theorem deliverOne_keeps (w : HeldWrite) (s : State) :
    (deliverOne w s).pending = s.pending := by
  change SameQueue s _
  unfold deliverOne
  repeat' split
  all_goals simp +decide [SameQueue]

@[simp] theorem deliverHeld_keeps (s : State) :
    (deliverHeld s).pending = s.pending := by
  simp +decide [deliverHeld]

end Sys2Proof.Machine
end

