-- ==== Sys2Proof/Laws/KeepsCoreMem.lean ====
section
/-!
SUPPORT. What the operations of `Machine/CoreMem.lean` leave alone: device memory, the queue of commands, the current mode.
-/
namespace Sys2Proof.Machine

@[simp] theorem coreReadsWord_mem (req : Requester) (a : Nat) (w : WordRead) (g : State → State) (s : State)
    (h : ∀ t, (g t).mem = t.mem) : (coreReadsWord req a w g s).mem = s.mem := by
  cases w <;> simp [coreReadsWord, h]
@[simp] theorem coreReadsWord_pending (req : Requester) (a : Nat) (w : WordRead) (g : State → State) (s : State)
    (h : ∀ t, (g t).pending = t.pending) : (coreReadsWord req a w g s).pending = s.pending := by
  cases w <;> simp [coreReadsWord, h]
@[simp] theorem coreReadsWord_cur (req : Requester) (a : Nat) (w : WordRead) (g : State → State) (s : State)
    (h : ∀ t, lookup (g t).regs 128 = lookup t.regs 128) :
    lookup (coreReadsWord req a w g s).regs 128 = lookup s.regs 128 := by
  cases w <;> simp [coreReadsWord, h]

@[simp] theorem coreStore_keeps (req : Requester) (a n v : Nat) (w : WordRead) (s : State) :
    (coreStore req a n v w s).pending = s.pending ∧ lookup (coreStore req a n v w s).regs 128 = lookup s.regs 128 := by
  simp +decide [coreStore]

@[simp] theorem coreLoad_keeps (req : Requester) (a n : Nat) (w : WordRead) (s : State) :
    (coreLoad req a n w s).mem = s.mem ∧ (coreLoad req a n w s).pending = s.pending ∧ lookup (coreLoad req a n w s).regs 128 = lookup s.regs 128 := by
  simp +decide [coreLoad]

end Sys2Proof.Machine
end

