-- ==== Sys2Proof/Laws/KeepsSvPort.lean ====
section
/-!
SUPPORT. What the operations of `Machine/SvPort.lean` leave alone: device memory, the queue of commands, the current mode.
-/
namespace Sys2Proof.Machine

@[simp] theorem svDrive_keeps (bs : List Nat) (s : State) :
    (svDrive bs s).mem = s.mem ∧ (svDrive bs s).pending = s.pending ∧ lookup (svDrive bs s).regs 128 = lookup s.regs 128 := by
  simp +decide [svDrive]

@[simp] theorem svStatus_keeps (s : State) :
    (svStatus s).mem = s.mem ∧ (svStatus s).pending = s.pending ∧ lookup (svStatus s).regs 128 = lookup s.regs 128 := by
  simp +decide [svStatus]

@[simp] theorem svFrame_mem (g : State → State) (s : State) (h : ∀ t, (g t).mem = t.mem) : (svFrame g s).mem = s.mem := by
  unfold svFrame; split <;> simp [h]
@[simp] theorem svFrame_pending (g : State → State) (s : State) (h : ∀ t, (g t).pending = t.pending) :
    (svFrame g s).pending = s.pending := by
  unfold svFrame; split <;> simp [h]
theorem svFrame_cur (g : State → State) (s : State) (h : ∀ t, lookup (g t).regs 128 = lookup t.regs 128) :
    lookup (svFrame g s).regs 128 = lookup s.regs 128 := by
  unfold svFrame; split <;> simp [h]

@[simp] theorem svReadWords_keeps (a n : Nat) (s : State) :
    ((svReadWords a n s).1).mem = s.mem ∧ ((svReadWords a n s).1).pending = s.pending := by
  induction n generalizing a s with
  | zero => simp [svReadWords]
  | succ n ih => simp [svReadWords, ih]

@[simp] theorem svRegRead_keeps (a n : Nat) (s : State) :
    (svRegRead a n s).mem = s.mem ∧ (svRegRead a n s).pending = s.pending := by
  simp [svRegRead]

@[simp] theorem svWriteWords_keeps (a : Nat) (vs : List Nat) (s : State) : (svWriteWords a vs s).pending = s.pending := by
  induction vs generalizing a s with
  | nil => simp [svWriteWords]
  | cons v vs ih => simp [svWriteWords, ih]

@[simp] theorem svRegWrite_keeps (a : Nat) (vs : List Nat) (s : State) : (svRegWrite a vs s).pending = s.pending := by
  simp [svRegWrite]

@[simp] theorem svErrorAt_keeps (p : Nat → Bool) (ty : AccErr) (write : Bool) (as : List Nat) (s : State) :
    (svErrorAt p ty write as s).mem = s.mem ∧ (svErrorAt p ty write as s).pending = s.pending ∧ lookup (svErrorAt p ty write as s).regs 128 = lookup s.regs 128 := by
  change Same s _
  unfold svErrorAt
  repeat' split
  all_goals simp +decide [Same]

@[simp] theorem svMemRead_keeps (a n : Nat) (ready : Bool) (f : MemFound) (s : State) :
    (svMemRead a n ready f s).mem = s.mem ∧ (svMemRead a n ready f s).pending = s.pending
      ∧ lookup (svMemRead a n ready f s).regs 128 = lookup s.regs 128 := by
  cases ready <;> simp [svMemRead, svFrame] <;> split <;> simp

@[simp] theorem svStore_keeps (lost : Nat → Bool) (p : Nat × Nat) (s : State) :
    (svStore lost p s).pending = s.pending ∧ lookup (svStore lost p s).regs 128 = lookup s.regs 128 := by
  simp +decide [svStore]

@[simp] theorem svMemWrite_keeps (a : Nat) (bs : List Nat) (f : MemFound) (s : State) :
    (svMemWrite a bs f s).pending = s.pending ∧ lookup (svMemWrite a bs f s).regs 128 = lookup s.regs 128 := by
  simp [svMemWrite, svFrame]

@[simp] theorem svPost_keeps (bs : List Nat) (s : State) :
    (svPost bs s).mem = s.mem ∧ (svPost bs s).pending = s.pending ∧ lookup (svPost bs s).regs 128 = lookup s.regs 128 := by
  simp +decide [svPost]

@[simp] theorem svReadResponse_keeps (n : Nat) (s : State) :
    (svReadResponse n s).mem = s.mem ∧ (svReadResponse n s).pending = s.pending
      ∧ lookup (svReadResponse n s).regs 128 = lookup s.regs 128 := by
  simp [svReadResponse, svFrame]

@[simp] theorem svUnknown_keeps (s : State) :
    (svUnknown s).mem = s.mem ∧ (svUnknown s).pending = s.pending
      ∧ lookup (svUnknown s).regs 128 = lookup s.regs 128 := by
  simp [svUnknown, svFrame]

@[simp] theorem svFrameCut_keeps (a : Nat) (vs : List Nat) (s : State) : (svFrameCut a vs s).pending = s.pending := by
  simp [svFrameCut]

end Sys2Proof.Machine
end

