-- ==== Sys2Proof/Laws/KeepsCycle.lean ====
section
/-!
SUPPORT. What the operations of `Machine/Cycle.lean` leave alone: device memory, the queue of commands, the current mode.
-/
namespace Sys2Proof.Machine

@[simp] theorem passHeld_keeps (n : Nat) (s : State) :
    (passHeld n s).mem = s.mem ∧ (passHeld n s).pending = s.pending ∧ lookup (passHeld n s).regs 128 = lookup s.regs 128 := by
  simp +decide [passHeld]

@[simp] theorem tick_keeps (som sov : Nat) (s : State) :
    (tick som sov s).pending = s.pending ∧ lookup (tick som sov s).regs 128 = lookup s.regs 128 := by
  simp +decide [tick]

@[simp] theorem passTicks_keeps (n : Nat) (s : State) :
    (passTicks n s).mem = s.mem ∧ (passTicks n s).pending = s.pending
      ∧ lookup (passTicks n s).regs 128 = lookup s.regs 128 := by
  induction n generalizing s with
  | zero => simp [passTicks]
  | succ n ih =>
    change Same s _
    unfold passTicks
    split <;> simp [Same, ih]

@[simp] theorem reachBoundary_keeps (s : State) :
    (reachBoundary s).mem = s.mem ∧ (reachBoundary s).pending = s.pending ∧ lookup (reachBoundary s).regs 128 = lookup s.regs 128 := by
  simp +decide [reachBoundary]

@[simp] theorem boundaryBegin_keeps (s : State) :
    (boundaryBegin s).mem = s.mem ∧ (boundaryBegin s).pending = s.pending ∧ lookup (boundaryBegin s).regs 128 = lookup s.regs 128 := by
  simp +decide [boundaryBegin]

@[simp] theorem boundaryPublish_keeps (rcDev fxDev : Int) (s : State) :
    (boundaryPublish rcDev fxDev s).mem = s.mem ∧ (boundaryPublish rcDev fxDev s).pending = s.pending ∧ lookup (boundaryPublish rcDev fxDev s).regs 128 = lookup s.regs 128 := by
  simp +decide [boundaryPublish]

@[simp] theorem boundaryEnd_keeps (s : State) :
    (boundaryEnd s).mem = s.mem ∧ (boundaryEnd s).pending = s.pending ∧ lookup (boundaryEnd s).regs 128 = lookup s.regs 128 := by
  simp +decide [boundaryEnd]

@[simp] theorem deliverAwake_keeps (s : State) :
    (deliverAwake s).pending = s.pending := by
  simp +decide [deliverAwake]

@[simp] theorem cycleBoundary_keeps (rcDev fxDev : Int) (s : State) :
    (cycleBoundary rcDev fxDev s).pending = s.pending := by
  simp +decide [cycleBoundary]

@[simp] theorem wakeComplete_keeps (s : State) :
    (wakeComplete s).pending = s.pending := by
  simp +decide [wakeComplete]

@[simp] theorem crustChange_keeps (word : Nat) (s : State) :
    (crustChange word s).mem = s.mem ∧ (crustChange word s).pending = s.pending ∧ lookup (crustChange word s).regs 128 = lookup s.regs 128 := by
  simp +decide [crustChange]

@[simp] theorem sliceCorrected_keeps (n i : Nat) (s : State) :
    (sliceCorrected n i s).mem = s.mem ∧ (sliceCorrected n i s).pending = s.pending ∧ lookup (sliceCorrected n i s).regs 128 = lookup s.regs 128 := by
  simp +decide [sliceCorrected]

@[simp] theorem failServed_keeps (i h : Nat) (s : State) :
    (failServed i h s).pending = s.pending ∧ lookup (failServed i h s).regs 128 = lookup s.regs 128 := by
  simp +decide [failServed]

@[simp] theorem sliceFault_keeps (code i : Nat) (s : State) :
    (sliceFault code i s).pending = s.pending ∧ lookup (sliceFault code i s).regs 128 = lookup s.regs 128 := by
  simp +decide [sliceFault]

@[simp] theorem sliceScrub_keeps (i crc : Nat) (s : State) :
    (sliceScrub i crc s).pending = s.pending ∧ lookup (sliceScrub i crc s).regs 128 = lookup s.regs 128 := by
  simp +decide [sliceScrub]

@[simp] theorem configScrub_keeps (read corrected : List (Nat × Nat)) (s : State) :
    (configScrub read corrected s).pending = s.pending ∧ lookup (configScrub read corrected s).regs 128 = lookup s.regs 128 := by
  simp +decide [configScrub]

@[simp] theorem thermalTrip_keeps (s : State) :
    (thermalTrip s).mem = s.mem ∧ (thermalTrip s).pending = s.pending ∧ lookup (thermalTrip s).regs 128 = lookup s.regs 128 := by
  simp +decide [thermalTrip]

@[simp] theorem scrubError_keeps (addr : Nat) (syms : Option Nat) (s : State) :
    (scrubError addr syms s).mem = s.mem ∧ (scrubError addr syms s).pending = s.pending ∧ lookup (scrubError addr syms s).regs 128 = lookup s.regs 128 := by
  change Same s _
  unfold scrubError
  repeat' split
  all_goals simp +decide [Same]

@[simp] theorem dramScrub_keeps (errors : List (Nat × Option Nat)) (s : State) :
    (dramScrub errors s).mem = s.mem ∧ (dramScrub errors s).pending = s.pending ∧ lookup (dramScrub errors s).regs 128 = lookup s.regs 128 := by
  simp +decide [dramScrub]

@[simp] theorem sramScrub_keeps (errors : List (Nat × Option Nat)) (s : State) :
    (sramScrub errors s).mem = s.mem ∧ (sramScrub errors s).pending = s.pending ∧ lookup (sramScrub errors s).regs 128 = lookup s.regs 128 := by
  simp +decide [sramScrub]

@[simp] theorem coreUncorrectable_keeps (addr : Nat) (s : State) :
    (coreUncorrectable addr s).mem = s.mem ∧ (coreUncorrectable addr s).pending = s.pending ∧ lookup (coreUncorrectable addr s).regs 128 = lookup s.regs 128 := by
  simp +decide [coreUncorrectable]

end Sys2Proof.Machine
end

