-- ==== Sys2Proof/Laws/KeepsExecHeads.lean ====
section
/-!
SUPPORT. What the operations of `Machine/ExecHeads.lean` leave alone: device memory, the queue of commands, the current mode.
-/
namespace Sys2Proof.Machine

@[simp] theorem converterDelivers_keeps (c : Converter) (code : Int) (s : State) :
    (converterDelivers c code s).mem = s.mem ∧ (converterDelivers c code s).pending = s.pending ∧ lookup (converterDelivers c code s).regs 128 = lookup s.regs 128 := by
  change Same s _
  unfold converterDelivers
  repeat' split
  all_goals simp +decide [Same]

@[simp] theorem converterMisses_keeps (c : Converter) (s : State) :
    (converterMisses c s).mem = s.mem ∧ (converterMisses c s).pending = s.pending ∧ lookup (converterMisses c s).regs 128 = lookup s.regs 128 := by
  change Same s _
  unfold converterMisses
  repeat' split
  all_goals simp +decide [Same]

end Sys2Proof.Machine
end

