-- ==== Sys2Proof/Laws/KeepsExecModes.lean ====
section
/-!
SUPPORT. What the operations of `Machine/ExecModes.lean` leave alone: device memory, the queue of commands, the current mode.
-/
namespace Sys2Proof.Machine

@[simp] theorem pairWrites_mem (a : Nat) (g : State → State) (s : State) (h : ∀ t, (g t).mem = t.mem) :
    (pairWrites a g s).mem = s.mem := by simp [pairWrites, h]
@[simp] theorem pairWrites_pending (a : Nat) (g : State → State) (s : State) (h : ∀ t, (g t).pending = t.pending) :
    (pairWrites a g s).pending = s.pending := by simp [pairWrites, h]
@[simp] theorem pairWrites_cur (a : Nat) (g : State → State) (s : State)
    (h : ∀ t, lookup (g t).regs 128 = lookup t.regs 128) :
    lookup (pairWrites a g s).regs 128 = lookup s.regs 128 := by simp [pairWrites, h]

@[simp] theorem wakeSource_keeps (src : WakeSource) (s : State) :
    (wakeSource src s).mem = s.mem ∧ (wakeSource src s).pending = s.pending ∧ lookup (wakeSource src s).regs 128 = lookup s.regs 128 := by
  change Same s _
  unfold wakeSource
  repeat' split
  all_goals simp +decide [Same]

end Sys2Proof.Machine
end

