-- ==== Sys2Proof/Laws/KeepsRequests.lean ====
section
/-!
SUPPORT. What the operations of `Machine/Requests.lean` leave alone: device memory, the queue of commands, the current mode.
-/
namespace Sys2Proof.Machine

@[simp] theorem deviceWrite_keeps (req : Requester) (a : Nat) (w : Width) (v : Nat) (s : State) :
    (deviceWrite req a w v s).pending = s.pending := by
  simp +decide [deviceWrite]

@[simp] theorem deviceRead_keeps (req : Requester) (a : Nat) (w : Width) (s : State) :
    (deviceRead req a w s).mem = s.mem ∧ (deviceRead req a w s).pending = s.pending := by
  simp +decide [deviceRead]

@[simp] theorem coreWrites_keeps (core1 : Bool) (a : Nat) (w : Width) (v : Nat) (s : State) :
    (coreWrites core1 a w v s).pending = s.pending := by
  change SameQueue s _
  unfold coreWrites
  repeat' split
  all_goals simp +decide [SameQueue]

@[simp] theorem coreReads_keeps (core1 : Bool) (a : Nat) (w : Width) (s : State) :
    (coreReads core1 a w s).mem = s.mem ∧ (coreReads core1 a w s).pending = s.pending := by
  change SameButMode s _
  unfold coreReads
  repeat' split
  all_goals simp +decide [SameButMode]

@[simp] theorem requesterWrites_keeps (req : Requester) (a : Nat) (w : Width) (v : Nat) (s : State) :
    (requesterWrites req a w v s).pending = s.pending := by
  cases req <;> simp [requesterWrites]

@[simp] theorem requesterReads_keeps (req : Requester) (a : Nat) (w : Width) (s : State) :
    (requesterReads req a w s).mem = s.mem ∧ (requesterReads req a w s).pending = s.pending := by
  cases req <;> simp [requesterReads]

@[simp] theorem debugRead_keeps (core1 : Bool) (a : Nat) (w : Width) (s : State) :
    (debugRead core1 a w s).mem = s.mem ∧ (debugRead core1 a w s).pending = s.pending := by
  simp +decide [debugRead]

@[simp] theorem debugWrite_keeps (core1 : Bool) (a : Nat) (w : Width) (v : Nat) (s : State) :
    (debugWrite core1 a w v s).pending = s.pending := by
  simp +decide [debugWrite]

@[simp] theorem debugAsks_keeps (q : DebugRequest) (s : State) : (debugAsks q s).pending = s.pending := by
  cases q <;> simp [debugAsks]

end Sys2Proof.Machine
end

