-- ==== Sys2Proof/Laws/KeepsExecSafety.lean ====
section
/-!
SUPPORT. What the operations of `Machine/ExecSafety.lean` leave alone: device memory, the queue of commands, the current mode.
-/
namespace Sys2Proof.Machine

@[simp] theorem bankWrite_mem (b : Nat) (g : State → State) (s : State) (h : ∀ t, (g t).mem = t.mem) :
    (bankWrite b g s).mem = s.mem := by simp [bankWrite, h]
@[simp] theorem bankWrite_pending (b : Nat) (g : State → State) (s : State) (h : ∀ t, (g t).pending = t.pending) :
    (bankWrite b g s).pending = s.pending := by simp [bankWrite, h]
@[simp] theorem bankWrite_cur (b : Nat) (g : State → State) (s : State)
    (h : ∀ t, lookup (g t).regs 128 = lookup t.regs 128) :
    lookup (bankWrite b g s).regs 128 = lookup s.regs 128 := by simp [bankWrite, h]

end Sys2Proof.Machine
end

