-- ==== Sys2Proof/Laws/Mem.lean ====
section
/-!
SUPPORT. Device memory: what a read finds after a write, and that every operation on memory keeps its canonical form.
-/
namespace Sys2Proof.Machine

/-- A form above one bound is a form above every smaller one. -/
theorem Mem.wfFrom_le {m : Mem} {lo lo' : Nat} (h : m.wfFrom lo' = true) (hl : lo ≤ lo') : m.wfFrom lo = true := by
  cases m with
  | nil => rfl
  | cons c m =>
    obtain ⟨k, v⟩ := c
    simp only [Mem.wfFrom, Bool.and_eq_true, decide_eq_true_eq] at h ⊢
    exact ⟨⟨Nat.le_trans hl h.1.1, h.1.2⟩, h.2⟩

/-- Below its first address a memory reads as unlisted. -/
theorem Mem.read_below {m : Mem} {lo a : Nat} (h : m.wfFrom lo = true) (ha : a < lo) : m.read a = memDefault a := by
  induction m generalizing lo with
  | nil => rfl
  | cons c m ih =>
    obtain ⟨k, v⟩ := c
    simp only [Mem.wfFrom, Bool.and_eq_true, decide_eq_true_eq] at h
    have : k ≠ a := by omega
    simp only [Mem.read, this, if_false]
    exact ih h.2 (by omega)

/-- A write of one byte keeps the form above a bound. -/
theorem Mem.wfFrom_write {m : Mem} {lo a : Nat} (v : BitVec 8) (h : m.wfFrom lo = true) (ha : lo ≤ a) :
    (m.write a v).wfFrom lo = true := by
  induction m generalizing lo with
  | nil =>
    simp only [Mem.write]
    split
    · rfl
    · simp [Mem.wfFrom, *]
  | cons c m ih =>
    obtain ⟨k, w⟩ := c
    have h0 := h
    simp only [Mem.wfFrom, Bool.and_eq_true, decide_eq_true_eq] at h
    simp only [Mem.write]
    split
    · rename_i hk
      split
      · exact Mem.wfFrom_le h.2 (by omega)
      · subst hk; simp [Mem.wfFrom, *]
    · split
      · split
        · exact h0
        · simp [Mem.wfFrom, *] <;> omega
      · simp only [Mem.wfFrom, Bool.and_eq_true, decide_eq_true_eq]
        exact ⟨h.1, ih h.2 (by omega)⟩

/-- A write of one byte keeps the canonical form. -/
@[simp] theorem Mem.wf_write {m : Mem} (a : Nat) (v : BitVec 8) (h : m.wf = true) : (m.write a v).wf = true :=
  Mem.wfFrom_write v h (Nat.zero_le a)

/-- A write of bytes keeps the canonical form. -/
@[simp] theorem Mem.wf_writeBytes {m : Mem} (a : Nat) (bs : List Nat) (h : m.wf = true) : (m.writeBytes a bs).wf = true := by
  induction bs generalizing m a with
  | nil => exact h
  | cons b bs ih => exact ih _ (Mem.wf_write _ _ h)

/-- Entries taken out of a memory leave the form above a bound. -/
theorem Mem.wfFrom_filter {m : Mem} {lo : Nat} (p : Host.Cell → Bool) (h : m.wfFrom lo = true) :
    Mem.wfFrom lo (m.filter p) = true := by
  induction m generalizing lo with
  | nil => rfl
  | cons c m ih =>
    obtain ⟨k, v⟩ := c
    simp only [Mem.wfFrom, Bool.and_eq_true, decide_eq_true_eq] at h
    rw [List.filter_cons]
    split
    · simp only [Mem.wfFrom, Bool.and_eq_true, decide_eq_true_eq]
      exact ⟨h.1, ih h.2⟩
    · exact Mem.wfFrom_le (ih h.2) (by omega)

/-- Clearing a range keeps the canonical form. -/
@[simp] theorem Mem.wf_clearRange {m : Mem} (lo hi : Nat) (h : m.wf = true) : (m.clearRange lo hi).wf = true :=
  Mem.wfFrom_filter _ h

/-- Clearing a kind of memory keeps the canonical form. -/
@[simp] theorem Mem.wf_clearKind {m : Mem} (k : MemKind) (h : m.wf = true) : (m.clearKind k).wf = true :=
  Mem.wfFrom_filter _ h

/-- What a cold reset keeps of memory has the canonical form. -/
@[simp] theorem wf_flashCells {m : Mem} (h : m.wf = true) : Mem.wf (flashCells m) = true :=
  Mem.wf_clearRange _ _ (Mem.wf_clearRange _ _ h)

/-- The byte written is read back. -/
theorem Mem.read_write_same {m : Mem} (a : Nat) (v : BitVec 8) (h : m.wf = true) : (m.write a v).read a = v := by
  unfold Mem.wf at h
  revert h
  generalize (0 : Nat) = lo
  induction m generalizing lo with
  | nil =>
    intro _
    simp only [Mem.write]
    split <;> simp_all [Mem.read]
  | cons c m ih =>
    obtain ⟨k, w⟩ := c
    intro h
    simp only [Mem.wfFrom, Bool.and_eq_true, decide_eq_true_eq] at h
    simp only [Mem.write]
    split
    · split
      · subst_vars; exact Mem.read_below h.2 (by omega)
      · simp [Mem.read]
    · split
      · split
        · rename_i hk hv
          simp only [Mem.read, if_neg (show ¬ k = a by omega)]
          rw [hv]; exact Mem.read_below h.2 (by omega)
        · simp [Mem.read]
      · simp only [Mem.read, if_neg (show ¬ k = a by omega)]
        exact ih _ h.2

/-- A write of one byte leaves every other byte. -/
@[simp] theorem Mem.read_write_ne (m : Mem) {a b : Nat} (v : BitVec 8) (h : b ≠ a) : (m.write a v).read b = m.read b := by
  induction m with
  | nil => simp only [Mem.write]; split <;> simp [Mem.read, Ne.symm h]
  | cons c m ih =>
    obtain ⟨k, w⟩ := c
    simp only [Mem.write]
    split
    · subst_vars; split <;> simp [Mem.read, Ne.symm h]
    · split
      · split <;> simp [Mem.read, Ne.symm h]
      · simp only [Mem.read, ih]

/-- A write of bytes leaves every byte outside its range. -/
theorem Mem.read_writeBytes_out (m : Mem) (a b : Nat) (bs : List Nat) (h : b < a ∨ a + bs.length ≤ b) :
    (m.writeBytes a bs).read b = m.read b := by
  induction bs generalizing m a with
  | nil => rfl
  | cons c bs ih =>
    simp only [List.length_cons] at h
    simp only [Mem.writeBytes]
    rw [ih _ _ (by omega), Mem.read_write_ne _ _ (by omega)]

/-- A write of bytes is read back. -/
theorem Mem.read_writeBytes_in {m : Mem} (a : Nat) (bs : List Nat) (h : m.wf = true) (i : Nat) (hi : i < bs.length) :
    (m.writeBytes a bs).read (a + i) = BitVec.ofNat 8 bs[i] := by
  induction bs generalizing m a i with
  | nil => simp at hi
  | cons c bs ih =>
    simp only [Mem.writeBytes]
    cases i with
    | zero =>
      rw [Mem.read_writeBytes_out _ _ _ _ (by omega)]
      simpa using Mem.read_write_same a _ h
    | succ i =>
      have := ih (a + 1) (Mem.wf_write a (BitVec.ofNat 8 c) h) i (by simpa using hi)
      simpa [Nat.add_assoc, Nat.add_comm 1] using this

/-- A cleared range reads as unlisted inside, and as before outside. -/
theorem Mem.read_clearRange (m : Mem) (lo hi a : Nat) :
    (m.clearRange lo hi).read a = if lo ≤ a ∧ a < hi then memDefault a else m.read a := by
  unfold Mem.clearRange
  induction m with
  | nil => simp [Mem.read]
  | cons c m ih =>
    obtain ⟨k, w⟩ := c
    rw [List.filter_cons]
    simp only [decide_eq_true_eq]
    split
    · simp only [Mem.read, ih]
      split
      · rename_i h1 h2; subst h2; rw [if_neg (by omega)]
      · rfl
    · simp only [Mem.read, ih]
      split
      · rfl
      · rw [if_neg (by omega)]

/-- A store keeps the canonical form. -/
@[simp] theorem memWrite_wf (s : State) (a : Nat) (bs : List Nat) (h : s.mem.wf = true) :
    (s.memWrite a bs).mem.wf = true := by
  rw [memWrite_mem]; exact Mem.wf_writeBytes a bs h

end Sys2Proof.Machine
end

