-- ==== Sys2Proof/Laws/MemWf.lean ====
section
/-!
SUPPORT. Every operation that stores to device memory keeps its canonical form.
-/
namespace Sys2Proof.Machine

@[simp] theorem wf_ite (c : Prop) [Decidable c] (a b : Mem) (ha : a.wf = true) (hb : b.wf = true) :
    Mem.wf (if c then a else b) = true := by split <;> assumption
theorem upTo_wf (s : State) (g : Nat → State → State) (n : Nat) (h : ∀ i t, t.mem.wf = true → (g i t).mem.wf = true)
    (hs : s.mem.wf = true) : (s.upTo g n).mem.wf = true := by induction n <;> simp_all [State.upTo]
theorem each_wf {α : Type} (g : α → State → State) (l : List α) (s : State)
    (h : ∀ i t, t.mem.wf = true → (g i t).mem.wf = true) (hs : s.mem.wf = true) : (State.each g l s).mem.wf = true := by
  induction l generalizing s <;> simp_all [State.each]
theorem when_wf (s : State) (b : Bool) (g : State → State) (h : (g s).mem.wf = true) (hs : s.mem.wf = true) :
    (s.when b g).mem.wf = true := by cases b <;> simpa [State.when]
theorem storeWords_wf (f : MemFound) (lr i n a : Nat) (bs : List Nat) (s : State) (h : s.mem.wf = true) :
    (storeWords f lr i n a bs s).mem.wf = true := by
  induction n generalizing a bs s with
  | zero => exact h
  | succ n ih =>
    unfold storeWords
    dsimp only
    repeat' split
    all_goals first | exact h | exact ih _ _ _ (by simp [h])

@[simp] theorem storeBytes_wf (f : MemFound) (lr i a : Nat) (bs : List Nat) (s : State) (h : s.mem.wf = true) :
    (storeBytes f lr i a bs s).mem.wf = true := by
  unfold storeBytes
  split
  · exact storeWords_wf _ _ _ _ _ _ _ h
  · simp [h]

@[simp] theorem wr_wf (s : State) (f : Fld) (v : Nat) (i : Nat) (hm : s.mem.wf = true) :
    (State.wr s f v i).mem.wf = true := by
  simp +decide [State.wr, *]

@[simp] theorem nextFree_wf (s : State) (hm : s.mem.wf = true) :
    (State.nextFree s).mem.wf = true := by
  simp +decide [State.nextFree, *]

@[simp] theorem emit_wf (s : State) (o : Out) (hm : s.mem.wf = true) :
    (State.emit s o).mem.wf = true := by
  simp +decide [State.emit, *]

@[simp] theorem recStore_wf (s : State) (hm : s.mem.wf = true) :
    (recStore s).mem.wf = true := by
  simp +decide [recStore, *]

@[simp] theorem recBlock_wf (lost : Bool) (s : State) (hm : s.mem.wf = true) :
    (recBlock lost s).mem.wf = true := by
  unfold recBlock
  repeat' split
  all_goals simp +decide [*]

@[simp] theorem storeDone_wf (r a : Nat) (bs : List Nat) (s : State) (hm : s.mem.wf = true) :
    (storeDone r a bs s).mem.wf = true := by
  simp +decide [storeDone, *]

@[simp] theorem ringComplete_wf (r : Nat) (d : Desc) (outcome reason : Nat) (s : State) (hm : s.mem.wf = true) :
    (ringComplete r d outcome reason s).mem.wf = true := by
  simp +decide [ringComplete, *]

@[simp] theorem ringDrainDead_wf (r n : Nat) (s : State) (h : s.mem.wf = true) :
    (ringDrainDead r n s).mem.wf = true := by
  induction n generalizing s with
  | zero => exact h
  | succ n ih =>
    unfold ringDrainDead
    repeat' split
    all_goals first | exact h | exact ih _ (by simp [h])

@[simp] theorem ringDrain_wf (r : Nat) (s : State) (hm : s.mem.wf = true) :
    (ringDrain r s).mem.wf = true := by
  simp +decide [ringDrain, *]

@[simp] theorem ringPost_wf (r head : Nat) (s : State) (hm : s.mem.wf = true) :
    (ringPost r head s).mem.wf = true := by
  unfold ringPost
  repeat' split
  all_goals simp +decide [*]

@[simp] theorem ringRepost_wf (r : Nat) (s : State) (hm : s.mem.wf = true) :
    (ringRepost r s).mem.wf = true := by
  simp +decide [ringRepost, *]

@[simp] theorem ringFinish_wf (r : Nat) (d : Desc) (outcome reason : Nat) (s : State) (hm : s.mem.wf = true) :
    (ringFinish r d outcome reason s).mem.wf = true := by
  unfold ringFinish
  split
  all_goals simp +decide [*]

@[simp] theorem descFinish_wf (r : Nat) (d : Desc) (e : DescEnd) (s : State) (hm : s.mem.wf = true) :
    (descFinish r d e s).mem.wf = true := by
  unfold descFinish
  repeat' split
  all_goals simp +decide [*]

theorem sideAt_mem_of {r space : Nat} {w : Bool} {addr : Nat} {here : Nat × Nat} {s t : State} {x : Trans}
    (e : sideAt r space w addr here s = (t, x)) (h : s.mem.wf = true) : t.mem.wf = true := by
  have k := (sideAt_keeps r space w addr here s).1
  rw [e] at k
  rw [k]; exact h

@[simp] theorem moveBeats_wf (r : Nat) (d : Desc) (goal : Nat) (v : Service) (fuel pos : Nat) (a b : Nat × Nat) (s : State)
    (h : s.mem.wf = true) : (moveBeats r d goal v fuel pos a b s).1.mem.wf = true := by
  induction fuel generalizing pos a b s with
  | zero => exact h
  | succ n ih =>
    unfold moveBeats
    split
    · exact h
    · split
      · rename_i e; exact sideAt_mem_of e h
      · rename_i e
        split
        · rename_i e'; exact sideAt_mem_of e' (sideAt_mem_of e h)
        · rename_i e'
          exact ih _ _ _ _ (when_wf _ _ _ (memWrite_wf _ _ _ (sideAt_mem_of e' (sideAt_mem_of e h)))
            (sideAt_mem_of e' (sideAt_mem_of e h)))

@[simp] theorem ringMove_wf (r : Nat) (d : Desc) (v : Service) (goal : Nat) (s : State) (h : s.mem.wf = true) :
    ((ringMove r d v goal s).1).mem.wf = true := by
  unfold ringMove
  split
  rename_i s1 m h1
  have k1 := moveBeats_wf r d goal v (goal - d.done + 1) d.done (0, 0) (0, 0) s h
  rw [h1] at k1
  split
  rename_i s2 c h2
  have k2 := (ringCorrected_keeps r v.corrected m.parts s1).1
  rw [h2] at k2
  have k3 : s2.mem.wf = true := by rw [k2]; exact k1
  dsimp only
  split <;> simp [k3]

theorem ringMove_wf_of {r : Nat} {d : Desc} {v : Service} {goal : Nat} {s t : State} {x : Desc × Bool}
    (e : ringMove r d v goal s = (t, x)) (h : s.mem.wf = true) : t.mem.wf = true := by
  have k := ringMove_wf r d v goal s h
  rw [e] at k
  exact k

@[simp] theorem ringServe_wf (r : Nat) (d : Desc) (beyond : Bool) (v : Service) (s : State) (h : s.mem.wf = true) :
    (ringServe r d beyond v s).mem.wf = true := by
  unfold ringServe
  dsimp only
  split
  · exact ringMove_wf_of (by assumption) h
  · exact descFinish_wf _ _ _ _ (ringMove_wf_of (by assumption) h)

@[simp] theorem ringPart_wf (r n : Nat) (d : Desc) (beyond : Bool) (v : Service) (s : State) (h : s.mem.wf = true) :
    (ringPart r n d beyond v s).mem.wf = true := by
  unfold ringPart
  dsimp only
  split
  · exact ringMove_wf_of (by assumption) h
  · simpa using ringMove_wf_of (by assumption) h

@[simp] theorem ringBeats_wf (q k n : Nat) (s : State) (h : s.mem.wf = true) : (ringBeats q k n s).mem.wf = true := by
  induction k generalizing n s with
  | zero => exact h
  | succ k ih =>
    unfold ringBeats
    repeat' split
    all_goals first
      | exact h
      | exact ih _ _ (ringDrain_wf _ _ (ringServe_wf _ _ _ _ _ (by simpa using h)))
      | exact ringPart_wf _ _ _ _ _ _ (by simpa using h)

@[simp] theorem grantRival_wf (r : Nat) (beyond : Bool) (beats q : Nat) (s : State) (hm : s.mem.wf = true) :
    (grantRival r beyond beats q s).mem.wf = true := by
  unfold grantRival
  repeat' split
  all_goals simp +decide [*]

@[simp] theorem grantRivals_wf (r : Nat) (d : Desc) (beyond : Bool) (s : State) (hm : s.mem.wf = true) :
    (grantRivals r d beyond s).mem.wf = true :=
  each_wf _ _ _ (fun _ _ ht => grantRival_wf _ _ _ _ _ ht) (by simpa using hm)

@[simp] theorem arbitrate_wf (r : Nat) (d : Desc) (v : Service) (s : State) (h : s.mem.wf = true) :
    (arbitrate r d v s).mem.wf = true :=
  ringServe_wf _ _ _ _ _ (grantRivals_wf _ _ _ _ h)

@[simp] theorem descriptorComplete_wf (r : Nat) (v : Service) (s : State) (hm : s.mem.wf = true) :
    (descriptorComplete r v s).mem.wf = true := by
  unfold descriptorComplete
  dsimp only
  repeat' split
  all_goals simp +decide [*]

@[simp] theorem translationFault_wf (r offset : Nat) (write : Bool) (v : Service) (s : State) (hm : s.mem.wf = true) :
    (translationFault r offset write v s).mem.wf = true := by
  unfold translationFault
  dsimp only
  repeat' split
  all_goals simp +decide [*]

@[simp] theorem classBDeadline_wf (r : Nat) (s : State) (hm : s.mem.wf = true) :
    (classBDeadline r s).mem.wf = true := by
  simp +decide [classBDeadline, *]

@[simp] theorem ringStart_wf (r : Nat) (s : State) (hm : s.mem.wf = true) :
    (ringStart r s).mem.wf = true := by
  unfold ringStart
  repeat' split
  all_goals simp +decide [*]

@[simp] theorem ringAbort_wf (r seq : Nat) (s : State) (hm : s.mem.wf = true) :
    (ringAbort r seq s).mem.wf = true := by
  have key : ∀ t : State, t.mem.wf = true → (t.when (t.ringState r = ringRun) (ringDrain r)).mem.wf = true :=
    fun t ht => when_wf _ _ _ (ringDrain_wf _ _ ht) ht
  unfold ringAbort
  split
  · simp [hm]
  split
  · simp [hm]
  split
  · simp [hm]
  dsimp only
  split
  · exact key _ (ringFinish_wf _ _ _ _ _ (by simp [hm]))
  · exact key _ (by simp [hm])

@[simp] theorem flushAll_wf (r : Nat) (n : Nat) (s : State) (h : s.mem.wf = true) :
    (flushAll r n s).mem.wf = true := by
  induction n generalizing s with
  | zero => exact h
  | succ n ih =>
    unfold flushAll
    repeat' split
    all_goals first | exact h | exact ih _ (by simp [h])

@[simp] theorem flushNow_wf (r : Nat) (s : State) (hm : s.mem.wf = true) :
    (flushNow r s).mem.wf = true := by
  unfold flushNow
  split
  all_goals simp +decide [*]

@[simp] theorem ringFlush_wf (r : Nat) (s : State) (hm : s.mem.wf = true) :
    (ringFlush r s).mem.wf = true := by
  simp +decide [ringFlush, *]

@[simp] theorem linkDownRing_wf (uses : Desc → Bool) (r : Nat) (s : State) (h : s.mem.wf = true) :
    (linkDownRing uses r s).mem.wf = true := by
  have key : ∀ (g : Ring → Ring) (t : State), t.mem.wf = true →
      ((t.modRing r g).when ((t.modRing r g).ringState r = ringRun) (ringDrain r)).mem.wf = true := fun g t ht =>
    when_wf _ _ _ (ringDrain_wf _ _ (by simpa using ht)) (by simpa using ht)
  refine key _ _ ?_
  split
  · exact h
  · split
    · exact ringFinish_wf _ _ _ _ _ (when_wf _ _ _ (by simpa using h) h)
    · exact h

@[simp] theorem ringCatchUp_wf (r : Nat) (s : State) (h : s.mem.wf = true) : (ringCatchUp r s).mem.wf = true := by
  unfold ringCatchUp
  split
  · exact h
  · dsimp only
    split
    · simp [h]
    · exact when_wf _ _ _ (by simp [h]) (by simp [h])

@[simp] theorem ringsTick_wf (s : State) (h : s.mem.wf = true) : (ringsTick s).mem.wf = true :=
  upTo_wf _ _ _ (fun _ _ ht => ringCatchUp_wf _ _ ht) h

@[simp] theorem ringDeliver_wf (r : Nat) (bs : List Nat) (s : State) (hm : s.mem.wf = true) :
    (ringDeliver r bs s).mem.wf = true := by
  simp +decide [ringDeliver, *]

@[simp] theorem postToRing_wf (r : ChRec) (s : State) (h : s.mem.wf = true) :
    (postToRing r s).mem.wf = true := by
  unfold postToRing
  dsimp only
  rw [(showSeq_keeps _ _ _).1]
  exact ringDeliver_wf _ _ _ h

@[simp] theorem issueRecord_wf (h : Nat) (r : ChRec) (s : State) (hm : s.mem.wf = true) :
    (issueRecord h r s).mem.wf = true := by
  simp +decide [issueRecord, *]

@[simp] theorem recordPost_wf (s : State) (hm : s.mem.wf = true) :
    (recordPost s).mem.wf = true := by
  unfold recordPost
  repeat' split
  all_goals simp +decide [*]

@[simp] theorem disturbHead_wf (h cause : Nat) (s : State) (hm : s.mem.wf = true) :
    (disturbHead h cause s).mem.wf = true := by
  unfold disturbHead
  repeat' split
  all_goals simp +decide [*]

@[simp] theorem failHead_wf (h cause : Nat) (s : State) (hm : s.mem.wf = true) :
    (failHead h cause s).mem.wf = true := by
  simp +decide [failHead, *]

@[simp] theorem unfailHead_wf (h : Nat) (s : State) (hm : s.mem.wf = true) :
    (unfailHead h s).mem.wf = true := by
  simp +decide [unfailHead, *]

@[simp] theorem headToOk_wf (h : Nat) (s : State) (hm : s.mem.wf = true) :
    (headToOk h s).mem.wf = true := by
  simp +decide [headToOk, *]

@[simp] theorem issuePassage_wf (h : Nat) (r : ChRec) (s : State) (hm : s.mem.wf = true) :
    (issuePassage h r s).mem.wf = true := by
  simp +decide [issuePassage, *]

@[simp] theorem commitHead_wf (x : Nat) (failing : Bool) (s : State) (h : s.mem.wf = true) :
    (commitHead x failing s).mem.wf = true := by
  have key : ∀ (d : List Nat) (t : State), t.mem.wf = true → (match lowestCause d with
      | some c => disturbHead x c (showDrift x t)
      | none => (showDrift x t).when failing (failHead x chSysFault)).mem.wf = true := by
    intro d t ht
    split
    · simp [ht]
    · exact when_wf _ _ _ (failHead_wf _ _ _ (by simpa using ht)) (by simpa using ht)
  refine key _ _ (each_wf _ _ _ (fun _ _ ht => issuePassage_wf _ _ _ ht) ?_)
  split <;> simp [h]

@[simp] theorem workTick_wf (x t ns : Nat) (s : State) (h : s.mem.wf = true) : (workTick x t ns s).mem.wf = true := by
  unfold workTick
  dsimp only
  split
  · split
    · exact unfailHead_wf _ _ (commitHead_wf _ _ _ (by simpa using h))
    · exact commitHead_wf _ _ _ (by simpa using h)
  · split
    · exact headToOk_wf _ _ (commitHead_wf _ _ _ (by simpa using h))
    · exact commitHead_wf _ _ _ (by simpa using h)

@[simp] theorem chaferWork_wf (x n : Nat) (s : State) (h : s.mem.wf = true) : (chaferWork x n s).mem.wf = true := by
  induction n generalizing s with
  | zero => exact h
  | succ n ih =>
    unfold chaferWork
    repeat' split
    all_goals first | exact h | exact ih _ (workTick_wf _ _ _ _ (by simpa using h))

@[simp] theorem chaferTick_wf (x : Nat) (s : State) (h : s.mem.wf = true) : (chaferTick x s).mem.wf = true := by
  unfold chaferTick
  split
  · exact h
  · split
    · exact when_wf _ _ _ (by simp [h]) (by simp [h])
    · simp [h]

@[simp] theorem correctionArrives_wf (q tag : Nat) (corr : Int) (s : State) (h : s.mem.wf = true) :
    (correctionArrives q tag corr s).mem.wf = true :=
  when_wf _ _ _ (by simp [h]) (by simp [h])

@[simp] theorem discrepancyTimeout_wf (h : Nat) (s : State) (hm : s.mem.wf = true) :
    (discrepancyTimeout h s).mem.wf = true := by
  simp +decide [discrepancyTimeout, *]

@[simp] theorem headQuiet_wf (h : Nat) (s : State) (hm : s.mem.wf = true) :
    (headQuiet h s).mem.wf = true := by
  simp +decide [headQuiet, *]

@[simp] theorem startHead_wf (x : Nat) (s : State) (h : s.mem.wf = true) : (startHead x s).mem.wf = true := by
  have key : ∀ (b : Bool) (c : Nat) (t : State), t.mem.wf = true → (t.when b (failHead x c)).mem.wf = true :=
    fun b c t ht => when_wf _ _ _ (failHead_wf _ _ _ ht) ht
  unfold startHead
  split
  · exact key _ _ _ (key _ _ _ (issueRecord_wf _ _ _ (by simpa using h)))
  · simpa using h

@[simp] theorem chaferStart_wf (s : State) (h : s.mem.wf = true) :
    (chaferStart s).mem.wf = true := by
  exact upTo_wf _ _ _ (fun _ _ ht => startHead_wf _ _ ht) h

@[simp] theorem consumeRecords_wf (s : State) (h : s.mem.wf = true) :
    (consumeRecords s).mem.wf = true := by
  exact upTo_wf _ _ _ (fun _ _ ht => by simp [ht]) h

@[simp] theorem writeCopy_wf (r : ChRec) (s : State) (h : s.mem.wf = true) :
    (writeCopy r s).mem.wf = true := by
  unfold writeCopy
  dsimp only
  repeat' split
  all_goals first | exact h | exact ringDeliver_wf _ _ _ h

@[simp] theorem applyRecord_wf (r : ChRec) (s : State) (hm : s.mem.wf = true) :
    (applyRecord r s).mem.wf = true := by
  simp +decide [applyRecord, *]

@[simp] theorem countingWork_wf (s : State) (h : s.mem.wf = true) :
    (countingWork s).mem.wf = true := by
  have h1 := each_wf applyRecord (sortRecords (s.chafer.posted.filter s.recordCounts))
    (((consumeRecords s).upTo sectionBegin 64).upTo linkBoundary 4) (fun _ _ ht => applyRecord_wf _ _ ht)
    (by simp [h])
  unfold countingWork
  simpa using h1

@[simp] theorem countingBoundary_wf (s : State) (hm : s.mem.wf = true) :
    (countingBoundary s).mem.wf = true := by
  unfold countingBoundary
  repeat' split
  all_goals simp +decide [*]

@[simp] theorem flashClear_wf (off n : Nat) (s : State) (hm : s.mem.wf = true) :
    (flashClear off n s).mem.wf = true := by
  simp +decide [flashClear, *]

@[simp] theorem eraseSectors_wf (off n : Nat) (s : State) (h : s.mem.wf = true) :
    (eraseSectors off n s).mem.wf = true := by
  induction n with
  | zero => exact h
  | succ n ih => simp [eraseSectors, ih]

@[simp] theorem programPages_wf (src off u : Nat) (verified : Bool) (n : Nat) (s : State) (h : s.mem.wf = true) :
    (programPages src off u verified n s).mem.wf = true := by
  induction n with
  | zero => exact h
  | succ n ih => cases verified <;> simp [programPages, ih]

@[simp] theorem flashEffect_wf (f : FlashOp) (n : Nat) (e : FlashEnding) (s : State) (hm : s.mem.wf = true) :
    (flashEffect f n e s).mem.wf = true := by
  unfold flashEffect
  repeat' split
  all_goals simp +decide [*]

@[simp] theorem flashComplete_wf (units : Nat) (e : FlashEnding) (s : State) (hm : s.mem.wf = true) :
    (flashComplete units e s).mem.wf = true := by
  unfold flashComplete
  dsimp only
  repeat' split
  all_goals simp +decide [*]

@[simp] theorem flashInterrupt_wf (s : State) (hm : s.mem.wf = true) :
    (flashInterrupt s).mem.wf = true := by
  unfold flashInterrupt
  dsimp only
  split
  · split <;> simp [hm]
  · exact hm

@[simp] theorem enterSector_wf (s : State) (hm : s.mem.wf = true) :
    (enterSector s).mem.wf = true := by
  simp +decide [enterSector, *]

@[simp] theorem postRecord_wf (k : Nat) (bs : List Nat) (s : State) (h : s.mem.wf = true) :
    (postRecord k bs s).mem.wf = true := by
  unfold postRecord
  dsimp only
  rw [(irq_keeps _ _).1]
  exact when_wf _ _ _ (ringDeliver_wf _ _ _ (by simpa using h)) (by simpa using h)

@[simp] theorem recordWritten_wf (ok : Bool) (s : State) (h : s.mem.wf = true) :
    (recordWritten ok s).mem.wf = true := by
  unfold recordWritten
  have h1 := enterSector_wf s h
  split
  · exact h
  · split
    · exact h
    · dsimp only
      split
      · exact postRecord_wf _ _ _ (by simpa using Mem.wf_writeBytes _ _ h1)
      · split <;> simpa using Mem.wf_writeBytes _ _ h1

@[simp] theorem packFrame_wf (c : Nat) (ext : Bool) (kind : RxKind) (id : Nat) (data : List Nat) (s : State) (h : s.mem.wf = true) :
    (packFrame c ext kind id data s).mem.wf = true := by
  unfold packFrame
  split
  · exact h
  split
  · simp [h]
  · simp [h]
  · have h0 : (canRxGood c s).mem.wf = true := by simpa using h
    have h1 := when_wf (canRxGood c s) ((canRxGood c s).ringOffers (canRxGood c s).packRing)
      (ringDeliver (canRxGood c s).packRing (Config.packCopy c (id + 2 ^ 31 * b2n ext) data)) (ringDeliver_wf _ _ _ h0) h0
    dsimp only
    split
    · exact when_wf _ _ _ (by simpa using h1) h1
    · refine each_wf _ _ _ (fun i t ht => ?_) h1
      split
      · exact when_wf _ _ _ (by simpa using ht) ht
      · exact ht

@[simp] theorem frameReceivedEth_wf (p pin : Nat) (f : List Nat) (s : State) (h : s.mem.wf = true) :
    (frameReceivedEth p pin f s).mem.wf = true := by
  unfold frameReceivedEth
  split
  · exact h
  · dsimp only
    split
    · refine ringDeliver_wf _ _ _ ?_
      split
      · simp [h]
      · exact h
    · split
      · simp [h]
      · exact h

@[simp] theorem egressSend_wf (r p delay : Nat) (d : Desc) (s : State) (h : s.mem.wf = true) :
    (egressSend r p delay d s).mem.wf = true := by
  have k := fun (d : Desc) (v : Service) (beyond : Bool) => moveBeats_wf r d d.len v (d.len - d.done + 1) d.done (0, 0) (0, 0) _
    (grantRivals_wf r d beyond s h)
  have k1 := k (s.egressBegin r delay d) ⟨delay, false, [], [], .all⟩ (s.overBudget r)
  unfold egressSend
  dsimp only
  split
  · simp [k1]
  · exact descFinish_wf _ _ _ _ (by simp [k1])

@[simp] theorem egressComplete_wf (r delay : Nat) (s : State) (h : s.mem.wf = true) :
    (egressComplete r delay s).mem.wf = true := by
  have h1 := ringDrain_wf r s h
  unfold egressComplete
  dsimp only
  repeat' split
  all_goals first | exact h | exact h1 | simp [egressRefuse, h1]

@[simp] theorem egressDeadline_wf (r : Nat) (s : State) (h : s.mem.wf = true) :
    (egressDeadline r s).mem.wf = true := by
  have h1 := ringDrain_wf r s h
  unfold egressDeadline
  dsimp only
  repeat' split
  all_goals first | exact h | exact h1 | simp [egressRefuse, h1]

@[simp] theorem ethLinkDown_wf (p : Nat) (s : State) (h : s.mem.wf = true) :
    (ethLinkDown p s).mem.wf = true := by
  refine upTo_wf _ _ _ (fun i t ht => ?_) h
  split
  · exact linkDownRing_wf _ _ _ ht
  · exact ht

@[simp] theorem endpointLinkDown_wf (s : State) (h : s.mem.wf = true) : (endpointLinkDown s).mem.wf = true := by
  unfold endpointLinkDown
  exact upTo_wf _ _ _ (fun i t ht => linkDownRing_wf _ _ _ ht) (by simpa using h)

@[simp] theorem endpointReset_wf (down : Bool) (s : State) (h : s.mem.wf = true) :
    (endpointReset down s).mem.wf = true :=
  when_wf _ _ _ (endpointLinkDown_wf _ (by simpa using h)) (by simpa using h)

@[simp] theorem leaveProof_wf (s : State) (hm : s.mem.wf = true) :
    (leaveProof s).mem.wf = true := by
  simp +decide [leaveProof, *]

@[simp] theorem leaveStopped_wf (s : State) (hm : s.mem.wf = true) :
    (leaveStopped s).mem.wf = true := by
  simp +decide [leaveStopped, *]

@[simp] theorem enterHold_wf (s : State) (hm : s.mem.wf = true) :
    (enterHold s).mem.wf = true := by
  simp +decide [enterHold, *]

@[simp] theorem recoveryBegin_wf (need : Nat) (s : State) (hm : s.mem.wf = true) :
    (recoveryBegin need s).mem.wf = true := by
  simp +decide [recoveryBegin, *]

@[simp] theorem enterRecovery_wf (s : State) (hm : s.mem.wf = true) :
    (enterRecovery s).mem.wf = true := by
  simp +decide [enterRecovery, *]

@[simp] theorem stopForProof_wf (s : State) (hm : s.mem.wf = true) :
    (stopForProof s).mem.wf = true := by
  simp +decide [stopForProof, *]

@[simp] theorem enterProof_wf (s : State) (hm : s.mem.wf = true) :
    (enterProof s).mem.wf = true := by
  simp +decide [enterProof, *]

@[simp] theorem modeEnter_wf (m : Mode) (s : State) (h : s.mem.wf = true) :
    (modeEnter m s).mem.wf = true := by
  cases m <;> simp [modeEnter, h]

@[simp] theorem modeEvaluate_wf (q : ModeReq) (s : State) (hm : s.mem.wf = true) :
    (modeEvaluate q s).mem.wf = true := by
  unfold modeEvaluate
  dsimp only
  repeat' split
  all_goals simp +decide [*]

@[simp] theorem modeRequestBoundary_wf (s : State) (hm : s.mem.wf = true) :
    (modeRequestBoundary s).mem.wf = true := by
  unfold modeRequestBoundary
  repeat' split
  all_goals simp +decide [*]

@[simp] theorem splitAccept_wf (r : PairReq) (s : State) (hm : s.mem.wf = true) :
    (splitAccept r s).mem.wf = true := by
  simp +decide [splitAccept, *]

@[simp] theorem splitEvaluate_wf (r : PairReq) (s : State) (hm : s.mem.wf = true) :
    (splitEvaluate r s).mem.wf = true := by
  unfold splitEvaluate
  dsimp only
  repeat' split
  all_goals simp +decide [*]

@[simp] theorem pairRequestBoundary_wf (s : State) (hm : s.mem.wf = true) :
    (pairRequestBoundary s).mem.wf = true := by
  unfold pairRequestBoundary
  repeat' split
  all_goals simp +decide [*]

@[simp] theorem rejoinTarget_wf (target : Nat) (s : State) (hm : s.mem.wf = true) :
    (rejoinTarget target s).mem.wf = true := by
  unfold rejoinTarget
  repeat' split
  all_goals simp +decide [*]

@[simp] theorem rejoinFinish_wf (r : PairReq) (s : State) (hm : s.mem.wf = true) :
    (rejoinFinish r s).mem.wf = true := by
  unfold rejoinFinish
  dsimp only
  repeat' split
  all_goals simp +decide [*]

@[simp] theorem rejoinBoundary_wf (s : State) (hm : s.mem.wf = true) :
    (rejoinBoundary s).mem.wf = true := by
  unfold rejoinBoundary
  repeat' split
  all_goals simp +decide [*]

@[simp] theorem proofEnd_wf (s : State) (hm : s.mem.wf = true) :
    (proofEnd s).mem.wf = true := by
  unfold proofEnd
  dsimp only
  repeat' split
  all_goals simp +decide [*]

@[simp] theorem ownTransitions_wf (s : State) (hm : s.mem.wf = true) :
    (ownTransitions s).mem.wf = true := by
  unfold ownTransitions
  repeat' split
  all_goals simp +decide [*]

@[simp] theorem modeWork_wf (s : State) (h : s.mem.wf = true) :
    (modeWork s).mem.wf = true := by
  have hp := pairRequestBoundary_wf _ (modeRequestBoundary_wf _ h)
  unfold modeWork
  split <;> try dsimp only
  all_goals (repeat' split)
  all_goals first
    | exact h
    | exact hp
    | exact proofEnd_wf _ hp
    | exact ownTransitions_wf _ hp
    | exact pairRequestBoundary_wf _ (rejoinBoundary_wf _ (modeRequestBoundary_wf _ h))

@[simp] theorem modeBoundary_wf (s : State) (h : s.mem.wf = true) :
    (modeBoundary s).mem.wf = true := by
  have key : ∀ t : State, t.mem.wf = true → (if t.modes.raised.isEmpty then
      if (overrunBoundary (crustBoundary t)).modes.raised.isEmpty then modeWork (overrunBoundary (crustBoundary t))
      else preemptRequests (overrunBoundary (crustBoundary t)) else crustBoundary (enterHold (preemptRequests t))).mem.wf
      = true := by
    intro t ht
    repeat' split
    all_goals simp [ht]
  exact key _ (when_wf _ _ _ (by simpa using h) (by simpa using h))

@[simp] theorem wakeRecovery_wf (s : State) (hm : s.mem.wf = true) :
    (wakeRecovery s).mem.wf = true := by
  simp +decide [wakeRecovery, *]

@[simp] theorem autoProof_wf (hourOver : Bool) (s : State) (hm : s.mem.wf = true) :
    (autoProof hourOver s).mem.wf = true := by
  simp +decide [autoProof, *]

@[simp] theorem itemTwo_wf (ok : Bool) (s : State) (hm : s.mem.wf = true) :
    (itemTwo ok s).mem.wf = true := by
  simp +decide [itemTwo, *]

@[simp] theorem damagedWord_wf (a : Word) (s : State) (hm : s.mem.wf = true) :
    (damagedWord a s).mem.wf = true := by
  simp +decide [damagedWord, *]

@[simp] theorem itemSeven_wf (ok : Bool) (damaged : List Word) (s : State) (h : s.mem.wf = true) :
    (itemSeven ok damaged s).mem.wf = true := by
  unfold itemSeven
  dsimp only
  rw [(itemEnd_keeps _ _ _).1]
  have h1 : (if s.proof.dramCold then { s with mem := s.mem.clearKind .dram } else State.each damagedWord damaged s).mem.wf
      = true := by
    split
    · exact Mem.wf_clearKind _ h
    · exact each_wf _ _ _ (fun _ _ ht => damagedWord_wf _ _ ht) h
  exact when_wf _ _ _ h1 h1

@[simp] theorem itemResult_wf (r : ItemResult) (s : State) (hm : s.mem.wf = true) :
    (itemResult r s).mem.wf = true := by
  unfold itemResult
  repeat' split
  all_goals simp +decide [*]

@[simp] theorem proofItemComplete_wf (r : ItemResult) (s : State) (hm : s.mem.wf = true) :
    (proofItemComplete r s).mem.wf = true := by
  simp +decide [proofItemComplete, *]

@[simp] theorem coldReset_wf (s : State) (hm : s.mem.wf = true) :
    (coldReset s).mem.wf = true := by
  simp +decide [coldReset, *]

@[simp] theorem oscillatorQualified_wf (loafSel : Nat) (s : State) (hm : s.mem.wf = true) :
    (oscillatorQualified loafSel s).mem.wf = true := by
  simp +decide [oscillatorQualified, *]

@[simp] theorem pcieLinkReset_wf (kind : LinkReset) (s : State) (hm : s.mem.wf = true) :
    (pcieLinkReset kind s).mem.wf = true := by
  simp +decide [pcieLinkReset, *]

theorem hostStore_wf (f : MemFound) (ps : List (Nat × Nat)) (bs : List Nat) (s : State) (h : s.mem.wf = true) :
    (hostStore f ps bs s).mem.wf = true := by
  induction ps generalizing bs s with
  | nil => exact h
  | cons p ps ih => exact ih _ _ (storeBytes_wf _ _ _ _ _ _ h)

@[simp] theorem hostServe_wf (ps : List (Nat × Nat)) (write : Option (List Nat)) (f : MemFound) (s : State) (h : s.mem.wf = true) :
    (hostServe ps write f s).mem.wf = true := by
  unfold hostServe
  split
  · exact hostStore_wf _ _ _ _ h
  · dsimp only
    split <;> simp [h]

@[simp] theorem barStep_wf (w : BarWait) (s : State) (hm : s.mem.wf = true) :
    (barStep w s).mem.wf = true := by
  simp +decide [barStep, *]

@[simp] theorem barTick_wf (s : State) (h : s.mem.wf = true) : (barTick s).mem.wf = true := by
  unfold barTick
  dsimp only
  split
  · exact h
  · exact each_wf _ _ _ (fun _ _ ht => barStep_wf _ _ ht) h

@[simp] theorem hostWindow_wf (iova len : Nat) (write : Option (List Nat)) (late : Bool) (f : MemFound) (s : State)
    (hm : s.mem.wf = true) : (hostWindow iova len write late f s).mem.wf = true := by
  have k := (windowWalk_keeps (s.rd SYS_HOST_CFG.DOM) write.isSome f (len + 1) iova len s).1
  unfold hostWindow
  split
  · rename_i e
    rw [e] at k
    have hm : _ = true := k ▸ hm
    simpa using hm
  · rename_i e
    rw [e] at k
    have hm : _ = true := k ▸ hm
    split
    · simpa using hm
    · exact barStep_wf _ _ hm

@[simp] theorem hostMemory_wf (place : HostSpace) (len : Nat) (write : Option (List Nat)) (late : Bool) (f : MemFound) (s : State)
    (hm : s.mem.wf = true) : (hostMemory place len write late f s).mem.wf = true := by
  unfold hostMemory
  dsimp only
  repeat' split
  all_goals first | simp [hm] | exact hostWindow_wf _ _ _ _ _ _ (when_wf _ _ _ (by simp [hm]) (by simp [hm]))

@[simp] theorem ringOp_wf (r op seq : Nat) (s : State) (h : s.mem.wf = true) :
    (ringOp r op seq s).mem.wf = true := by
  unfold ringOp
  split <;> simp [h]

@[simp] theorem writeDma_wf (r : Reg) (i v : Nat) (s : State) (hm : s.mem.wf = true) :
    (writeDma r i v s).mem.wf = true := by
  unfold writeDma
  repeat' split
  all_goals simp +decide [*]

@[simp] theorem writeEffect_wf (req : Requester) (r : Reg) (i v : Nat) (s : State) (hm : s.mem.wf = true) :
    (writeEffect req r i v s).mem.wf = true := by
  unfold writeEffect
  repeat' split
  all_goals simp +decide [*]

@[simp] theorem registerWrite_wf (req : Requester) (a size v : Nat) (s : State) (hm : s.mem.wf = true) :
    (registerWrite req a size v s).mem.wf = true := by
  unfold registerWrite
  repeat' split
  all_goals simp +decide [*]

@[simp] theorem hostWrite_wf (a size v : Nat) (s : State) (hm : s.mem.wf = true) :
    (hostWrite a size v s).mem.wf = true := by
  unfold hostWrite
  repeat' split
  all_goals simp +decide [*]

@[simp] theorem deliverOne_wf (w : HeldWrite) (s : State) (hm : s.mem.wf = true) :
    (deliverOne w s).mem.wf = true := by
  unfold deliverOne
  repeat' split
  all_goals simp +decide [*]

@[simp] theorem deliverHeld_wf (s : State) (h : s.mem.wf = true) :
    (deliverHeld s).mem.wf = true := by
  unfold deliverHeld
  split
  · exact h
  · dsimp only
    refine upTo_wf _ _ _ (fun _ _ ht => by simpa using ht) ?_
    exact each_wf _ _ _ (fun _ _ ht => deliverOne_wf _ _ ht) (by simpa using h)

@[simp] theorem svWriteWords_wf (a : Nat) (vs : List Nat) (s : State) (h : s.mem.wf = true) :
    (svWriteWords a vs s).mem.wf = true := by
  induction vs generalizing a s with
  | nil => exact h
  | cons v vs ih => exact ih _ _ (registerWrite_wf _ _ _ _ _ h)

@[simp] theorem svRegWrite_wf (a : Nat) (vs : List Nat) (s : State) (h : s.mem.wf = true) :
    (svRegWrite a vs s).mem.wf = true := by
  unfold svRegWrite svFrame
  split <;> simp [h]

@[simp] theorem svStore_wf (lost : Nat → Bool) (p : Nat × Nat) (s : State) (hm : s.mem.wf = true) :
    (svStore lost p s).mem.wf = true := by
  simp +decide [svStore, *]

@[simp] theorem svMemWrite_wf (a : Nat) (bs : List Nat) (f : MemFound) (s : State) (h : s.mem.wf = true) :
    (svMemWrite a bs f s).mem.wf = true := by
  unfold svMemWrite svFrame
  split
  · simpa using each_wf (svStore (partLost f a bs.length)) _ _ (fun _ _ ht => svStore_wf _ _ _ ht) (by simpa using h)
  · simp [h]

@[simp] theorem svFrameCut_wf (a : Nat) (vs : List Nat) (s : State) (h : s.mem.wf = true) :
    (svFrameCut a vs s).mem.wf = true := by
  unfold svFrameCut svFrame
  split <;> simp [h]

@[simp] theorem tick_wf (som sov : Nat) (s : State) (hm : s.mem.wf = true) :
    (tick som sov s).mem.wf = true := by
  unfold tick
  split
  · exact when_wf _ _ _ (by simpa using hm) hm
  · simpa using barTick_wf _ (ringsTick_wf _ (by simpa using hm))

@[simp] theorem deliverAwake_wf (s : State) (hm : s.mem.wf = true) :
    (deliverAwake s).mem.wf = true := by
  simp +decide [deliverAwake, *]

@[simp] theorem cycleBoundary_wf (rcDev fxDev : Int) (s : State) (h : s.mem.wf = true) :
    (cycleBoundary rcDev fxDev s).mem.wf = true := by
  have key : ∀ t : State, t.mem.wf = true → (t.when t.mdllA latchHeadMaps).mem.wf = true :=
    fun t ht => when_wf _ _ _ (by simpa using ht) ht
  unfold cycleBoundary
  split
  · exact when_wf _ _ _ (by simpa using h) h
  · simpa using deliverAwake_wf _ (by simpa using countingBoundary_wf _ (by
      simpa using key _ (modeBoundary_wf _ (by simpa using h))))

@[simp] theorem wakeComplete_wf (s : State) (hm : s.mem.wf = true) :
    (wakeComplete s).mem.wf = true := by
  simp +decide [wakeComplete, *]

@[simp] theorem failServed_wf (i h : Nat) (s : State) (hm : s.mem.wf = true) :
    (failServed i h s).mem.wf = true := by
  simp +decide [failServed, *]

@[simp] theorem sliceFault_wf (code i : Nat) (s : State) (h : s.mem.wf = true) : (sliceFault code i s).mem.wf = true := by
  unfold sliceFault
  split
  · exact h
  · have h1 : ∀ (b : Bool) (t : State), t.mem.wf = true → (t.when b (fun s => s.upTo (failServed i) 96)).mem.wf = true :=
      fun b t ht => when_wf _ _ _ (upTo_wf _ _ _ (fun _ _ k => failServed_wf _ _ _ k) ht) ht
    have h2 : ∀ (b : Bool) (t : State), t.mem.wf = true → (t.when b (fun s => s.upTo makeSuspect 192)).mem.wf = true :=
      fun b t ht => when_wf _ _ _ (by simpa using ht) ht
    have h3 : ∀ (b : Bool) (t : State), t.mem.wf = true → (t.when b (gfeRaise gfeSliceFault)).mem.wf = true :=
      fun b t ht => when_wf _ _ _ (by simpa using ht) ht
    exact h3 _ _ (h2 _ _ (h1 _ _ (by simpa using h)))

@[simp] theorem sliceScrub_wf (i crc : Nat) (s : State) (h : s.mem.wf = true) : (sliceScrub i crc s).mem.wf = true :=
  when_wf _ _ _ (sliceFault_wf _ _ _ h) h

@[simp] theorem configScrub_wf (read corrected : List (Nat × Nat)) (s : State) (h : s.mem.wf = true) :
    (configScrub read corrected s).mem.wf = true := by
  unfold configScrub
  exact each_wf _ _ _ (fun _ _ ht => by simpa using ht) (each_wf _ _ _ (fun _ _ ht => sliceScrub_wf _ _ _ ht) h)

@[simp] theorem coreStore_wf (req : Requester) (a n v : Nat) (w : WordRead) (s : State) (hm : s.mem.wf = true) :
    (coreStore req a n v w s).mem.wf = true := by
  unfold coreStore coreReadsWord
  repeat' split
  all_goals simp +decide [*]

@[simp] theorem deviceWrite_wf (req : Requester) (a : Nat) (w : Width) (v : Nat) (s : State) (hm : s.mem.wf = true) :
    (deviceWrite req a w v s).mem.wf = true := by
  simp +decide [deviceWrite, *]

@[simp] theorem coreWrites_wf (core1 : Bool) (a : Nat) (w : Width) (v : Nat) (s : State) (hm : s.mem.wf = true) :
    (coreWrites core1 a w v s).mem.wf = true := by
  unfold coreWrites
  repeat' split
  all_goals simp +decide [*]

@[simp] theorem requesterWrites_wf (req : Requester) (a : Nat) (w : Width) (v : Nat) (s : State) (h : s.mem.wf = true) :
    (requesterWrites req a w v s).mem.wf = true := by
  unfold requesterWrites svFrame
  repeat' split
  all_goals simp [h]

@[simp] theorem debugAsks_wf (q : DebugRequest) (s : State) (h : s.mem.wf = true) : (debugAsks q s).mem.wf = true := by
  cases q
  case write c a w v => exact when_wf _ _ _ (by simp [h]) h
  all_goals simp [debugAsks, h]

end Sys2Proof.Machine
end

