-- ==== Sys2Proof/Laws/Registers.lean ====
section
/-!
SUPPORT. The register map: which fields a register that an access finds has, and that no access but the joined pair's can
change the mode.
-/
namespace Sys2Proof.Machine

/-- The register found is one of the list. -/
theorem findReg_mem {rs : List Reg} {a i : Nat} {r : Reg} (h : findReg rs a = some (r, i)) : r ∈ rs := by
  induction rs with
  | nil => simp [findReg] at h
  | cons q rs ih =>
    simp only [findReg] at h
    split at h
    · simp_all
    · exact List.mem_cons_of_mem _ (ih h)

/-- The register found stands at the address. -/
theorem findReg_addr {rs : List Reg} {a i : Nat} {r : Reg} (h : findReg rs a = some (r, i)) : r.addr i = a := by
  induction rs with
  | nil => simp [findReg] at h
  | cons q rs ih =>
    simp only [findReg] at h
    split at h
    · rename_i j hj
      simp only [Option.some.injEq, Prod.mk.injEq] at h
      obtain ⟨rfl, rfl⟩ := h
      unfold Reg.indexAt at hj
      split at hj
      · simp at hj
      · simp only [Option.ite_none_right_eq_some, Option.some.injEq] at hj
        rw [← hj.2]
        exact hj.1.2.2
    · exact ih h

/-- A field that is read-only, or that stands above `SYS_MODE`. -/
def aboveMode (r : Reg) : Bool := r.fields.all (fun f => decide (f.acc = .ro) || decide (4 < f.base))

theorem regsSys_above : regsSys.all aboveMode = true := by decide
theorem regsClk_above : regsClk.all aboveMode = true := by decide
theorem regsHfe_above : regsHfe.all aboveMode = true := by decide
theorem regsCnt_above : regsCnt.all aboveMode = true := by decide
theorem regsSop_above : regsSop.all aboveMode = true := by decide
theorem regsNbl_above : regsNbl.all aboveMode = true := by decide
theorem regsChk_above : regsChk.all aboveMode = true := by decide
theorem regsLks_above : regsLks.all aboveMode = true := by decide
theorem regsGfe_above : regsGfe.all aboveMode = true := by decide
theorem regsPwm_above : regsPwm.all aboveMode = true := by decide
theorem regsMtr_above : regsMtr.all aboveMode = true := by decide
theorem regsEth_above : regsEth.all aboveMode = true := by decide
theorem regsDma_above : regsDma.all aboveMode = true := by decide
theorem regsSnp_above : regsSnp.all aboveMode = true := by decide
theorem regsFab_above : regsFab.all aboveMode = true := by decide

/-- The fields of a register that an access finds leave the current mode alone. -/
theorem regAt_above {a i : Nat} {r : Reg} (h : regAt a = some (r, i)) : aboveMode r = true := by
  have hm := findReg_mem h
  unfold regsAt at hm
  split at hm
  all_goals first
    | exact List.all_eq_true.mp regsSys_above _ hm
    | exact List.all_eq_true.mp regsClk_above _ hm
    | exact List.all_eq_true.mp regsHfe_above _ hm
    | exact List.all_eq_true.mp regsCnt_above _ hm
    | exact List.all_eq_true.mp regsSop_above _ hm
    | exact List.all_eq_true.mp regsNbl_above _ hm
    | exact List.all_eq_true.mp regsChk_above _ hm
    | exact List.all_eq_true.mp regsLks_above _ hm
    | exact List.all_eq_true.mp regsGfe_above _ hm
    | exact List.all_eq_true.mp regsPwm_above _ hm
    | exact List.all_eq_true.mp regsMtr_above _ hm
    | exact List.all_eq_true.mp regsEth_above _ hm
    | exact List.all_eq_true.mp regsDma_above _ hm
    | exact List.all_eq_true.mp regsSnp_above _ hm
    | exact List.all_eq_true.mp regsFab_above _ hm
    | simp at hm

/-- A write of such a field leaves the mode's cell. -/
theorem writeField_cur {f : Fld} (h : (decide (f.acc = .ro) || decide (4 < f.base)) = true) (i v : Nat) (s : State) :
    lookup (writeField f i v s).regs 128 = lookup s.regs 128 := by
  simp only [Bool.or_eq_true, decide_eq_true_eq] at h
  rcases h with h | h
  · simp [writeField, h]
  · have h' : 128 < f.base * 32 + f.lo := by omega
    unfold writeField
    dsimp only
    split <;> simp [h']

/-- `each` over a list of which every entry keeps the mode's cell. -/
theorem each_cur_mem {α : Type} (g : α → State → State) (l : List α) (s : State)
    (h : ∀ x ∈ l, ∀ t, lookup (g x t).regs 128 = lookup t.regs 128) :
    lookup (State.each g l s).regs 128 = lookup s.regs 128 := by
  induction l generalizing s with
  | nil => rfl
  | cons a l ih =>
    rw [State.each, ih _ (fun x hx => h x (List.mem_cons_of_mem _ hx))]
    exact h a List.mem_cons_self s

theorem writeFields_cur {r : Reg} (h : aboveMode r = true) (i v : Nat) (s : State) :
    lookup (writeFields r i v s).regs 128 = lookup s.regs 128 :=
  each_cur_mem _ _ _ (fun f hf t => writeField_cur (List.all_eq_true.mp h f hf) i v t)

theorem clearRead_cur {r : Reg} (h : aboveMode r = true) (i : Nat) (s : State) :
    lookup (clearRead r i s).regs 128 = lookup s.regs 128 := by
  unfold clearRead
  split
  · rfl
  · refine each_cur_mem _ _ _ (fun f hf t => ?_)
    have hf' := List.all_eq_true.mp h f hf
    simp only [Bool.or_eq_true, decide_eq_true_eq] at hf'
    rcases hf' with hf' | hf'
    · simp [hf']
    · have h' : 128 < f.base * 32 + f.lo := by omega
      simp [h']

/-- A read leaves the current mode. -/
@[simp] theorem registerRead_cur (req : Requester) (a size : Nat) (s : State) :
    lookup (registerRead req a size s).1.regs 128 = lookup s.regs 128 := by
  unfold registerRead
  repeat' split
  · simp
  · rfl
  · simp
  · rename_i heq _
    simp [clearRead_cur (regAt_above heq)]


/-- A load leaves the current mode. -/
theorem deviceRead_cur (req : Requester) (a : Nat) (w : Width) (s : State) :
    lookup (deviceRead req a w s).regs 128 = lookup s.regs 128 := by
  simp +decide [deviceRead]

@[simp] theorem coreReads_cur (core1 : Bool) (a : Nat) (w : Width) (s : State) :
    lookup (coreReads core1 a w s).regs 128 = lookup s.regs 128 := by
  unfold coreReads
  split
  · exact deviceRead_cur _ _ _ _
  · rfl

/-- A read by any requester leaves the current mode. -/
theorem requesterReads_cur (req : Requester) (a : Nat) (w : Width) (s : State) :
    lookup (requesterReads req a w s).regs 128 = lookup s.regs 128 := by
  unfold requesterReads
  cases req <;> simp [answerRead, hostRead, svFrame, deviceRead_cur]
  all_goals (try repeat' split)
  all_goals (try simp)

/-- Words read over the service port leave the current mode. -/
theorem svReadWords_cur (a n : Nat) (s : State) : lookup (svReadWords a n s).1.regs 128 = lookup s.regs 128 := by
  induction n generalizing a s with
  | zero => rfl
  | succ n ih => simp [svReadWords, ih]

/-- The joined pair alone may write `SYS_RESET_REQ`. -/
theorem resetReq_writers {req : Requester} {s : State} {r : Reg} {i : Nat} (hr : r.base = SYS_RESET_REQ.reg.base)
    (h : s.mayWrite req r i = true) : req = .scarab := by
  simp only [State.mayWrite, Bool.and_eq_true] at h
  have hw : writersOf r i = .pair := by
    unfold writersOf
    rw [hr]
    rfl
  rw [hw] at h
  simp only [State.isWriter, Bool.and_eq_true, decide_eq_true_eq] at h
  exact h.2.1

/-- A write by any other requester leaves the current mode. -/
@[simp] theorem registerWrite_cur {req : Requester} (hq : req ≠ .scarab) (a size v : Nat) (s : State) :
    lookup (registerWrite req a size v s).regs 128 = lookup s.regs 128 := by
  unfold registerWrite
  split
  · simp
  · split
    · rfl
    · rename_i r i hr
      have hab := regAt_above hr
      have hwf := fun (v : Nat) (t : State) => writeFields_cur hab i v t
      split
      · simp [readOnlyWrite]
        repeat' split
        all_goals simp
      · split
        · rfl
        · split
          · rename_i hm
            have hne : r.base ≠ SYS_RESET_REQ.reg.base := fun hb => hq (resetReq_writers hb hm)
            unfold writeEffect
            split
            · unfold writeSys
              repeat' split
              all_goals first | contradiction | simp [hwf]
            all_goals
              try simp only [writeClk, writeHfe, writeCnt, writeSop, writeChk, writeLks, writeGfe, writePwm, writeCan, writeEth,
                writeDma, writeSnp, writeFab]
            all_goals (try repeat' split)
            all_goals simp +decide [hwf]
          · simp

/-- Words written over the service port leave the current mode. -/
@[simp] theorem svWriteWords_cur (a : Nat) (vs : List Nat) (s : State) :
    lookup (svWriteWords a vs s).regs 128 = lookup s.regs 128 := by
  induction vs generalizing a s with
  | nil => rfl
  | cons v vs ih => simp +decide [svWriteWords, ih]

/-- A store by another requester than the joined pair leaves the current mode. -/
theorem deviceWrite_cur {req : Requester} (hq : req ≠ .scarab) (a : Nat) (w : Width) (v : Nat) (s : State) :
    lookup (deviceWrite req a w v s).regs 128 = lookup s.regs 128 := by
  unfold deviceWrite
  split
  · simp
  · exact registerWrite_cur hq _ _ _ _

/-- A store of a core of the pair that does not speak for it leaves the current mode. -/
theorem coreWrites_cur {core1 : Bool} {s : State} (h : core1 = true ∨ s.joined = false) (a : Nat) (w : Width) (v : Nat) :
    lookup (coreWrites core1 a w v s).regs 128 = lookup s.regs 128 := by
  unfold coreWrites State.coreVoice
  cases core1 <;> cases hj : s.joined <;> simp_all +decide [deviceWrite_cur]

/-- A write by a requester other than the joined pair and the core that speaks for it leaves the current mode. -/
theorem requesterWrites_cur {req : Requester} (hq : req ≠ .scarab) (h0 : req ≠ .core0) (a : Nat) (w : Width) (v : Nat) (s : State) :
    lookup (requesterWrites req a w v s).regs 128 = lookup s.regs 128 := by
  unfold requesterWrites
  cases req <;> simp_all +decide [hostWrite, svFrame, coreWrites_cur, deviceWrite_cur]
  all_goals repeat' split
  all_goals simp +decide

/-- What comes through the test access port leaves the current mode: it writes only while the pair is SPLIT. -/
theorem debugAsks_cur (q : DebugRequest) (s : State) : lookup (debugAsks q s).regs 128 = lookup s.regs 128 := by
  cases q
  case write c a w v =>
    unfold debugAsks debugWrite
    cases h : decide (s.rd LKS_STATUS.STATE = pairSplit)
    · rfl
    · have hj : s.joined = false := by
        have h := of_decide_eq_true h
        simp [State.joined, h, pairSplit, pairJoined]
      simpa [State.when] using coreWrites_cur (Or.inr hj) a.toNat w v.toNat
  all_goals simp [debugAsks, debugRead]

/-- The writes held in Dormant leave the current mode. -/
@[simp] theorem deliverHeld_cur (s : State) : lookup (deliverHeld s).regs 128 = lookup s.regs 128 := by
  unfold deliverHeld
  split
  · rfl
  · dsimp only
    rw [upTo_cur _ _ _ (by simp), each_cur]
    · simp
    · intro w t
      cases w <;> simp +decide [deliverOne]

@[simp] theorem deliverAwake_cur (s : State) : lookup (deliverAwake s).regs 128 = lookup s.regs 128 := by
  unfold deliverAwake
  split <;> simp

/-- The mode is the one that its cell spells. -/
theorem mode_of_cur {s t : State} (h : lookup t.regs 128 = lookup s.regs 128) : t.mode = s.mode := by
  have hk : SYS_MODE.CUR.key 0 = 128 := by decide
  simp only [State.mode, State.rd, hk, h]

end Sys2Proof.Machine
end

