-- ==== Sys2Proof/Tests/Slice0.lean ====
section
/-!
SUPPORT. Tests: ill-formed terms that the check refuses, states that meet the hypotheses of each statement, the manual's worked
examples, and single commands whose outcome follows from the manual by hand.
-/
namespace Sys2Proof.Tests
open Sys2Proof Sys2Proof.Machine

set_option maxRecDepth 100000

/-! ### Helpers -/

/-- Register fields set in a state: field, entry, value. -/
def put (fs : List (Fld × Nat × Nat)) (s : State) : State := fs.foldl (fun s p => s.wr p.1 p.2.2 p.2.1) s

/-- Past the reset sequence, in a mode, with both loops qualified. -/
def inMode (m : Mode) : State :=
  put [(SYS_MODE.CUR, 0, m.code), (CLK_STATUS.MA_QUAL, 0, 1), (CLK_STATUS.MB_QUAL, 0, 1), (CLK_STATUS.REF_OK, 0, 1)]
    { State.reset with phase := .done }

/-- Service with the pair joined and compared. -/
def service : State := put [(LKS_STATUS.STATE, 0, pairJoined), (LKS_STATUS.CMP_EN, 0, 1)] (inMode .service)

/-- The state after a command that answers one. -/
def after (c : Instr) (s : State) : State :=
  match exec c s with
  | .next t => t
  | .fault _ => s
  | .refused _ => s

/-- A descriptor of eight bytes with the given spaces (R409). -/
def desc (ctrl : Nat) : Desc := { (default : Desc) with src := 0x20300000, dst := 0x20200000, len := 8, ctrl := ctrl }

/-- A ring that runs, with a descriptor at its head. -/
def ringWith (r : Nat) (d : Desc) (s : State) : State :=
  put [(DMA_RING_STATE.STATE, r, ringRun), (DMA_RING_CFG.SIZE, r, 4), (DMA_RING_CBASE.BASE, r, 0x20210000)]
    { s with rings := [(r, { (default : Ring) with queue := [d] })] }

/-- Memory met no error; an access of a word. -/
def nothing : MemFound := ⟨[], []⟩
def aWord : Width := ⟨4, 0, .clean⟩

/-- A service of a descriptor with eight bytes of data. -/
def eight : Service := ⟨1, false, [], [1, 2, 3, 4, 5, 6, 7, 8], .all⟩

/-! ### Ill-formed commands (WellFormed) -/

theorem test_wf_weevil : (Instr.proofItemComplete (.weevil (some (4, 113)))).wf = false := by decide
theorem test_wf_dram : (Instr.proofItemComplete (.dram true [0x80000004])).wf = false := by decide
theorem test_wf_dram_address : (Instr.proofItemComplete (.dram true [0x20000000])).wf = false := by decide
theorem test_wf_references : (Instr.proofItemComplete (.references true [(5, [0, 0])] [] [] [] false)).wf = false := by decide
theorem test_wf_lockstep : (Instr.lockstep 1 1 0 3 1 0).wf = false ∧ (Instr.lockstep 0 3 2 3 1 0).wf = false := by decide
theorem test_wf_comparator : (Instr.comparator 1 3 0 3 1 0).wf = false ∧ (Instr.comparator 0 1 0 40 1 0).wf = false := by decide
theorem test_wf_rejoin : (Instr.rejoin 0 1 2 (some (5, 1)) default).wf = false := by decide
theorem test_wf_pma : (Instr.pmaConversion 0 false [0, 0, 0, 0, 0, 0, 0]).wf = false := by decide
theorem test_wf_pack_length : (Instr.packFrame 0 false .data 5 [1, 2, 3, 4, 5, 6, 7, 8, 9]).wf = false := by decide
theorem test_wf_pack_remote : (Instr.packFrame 0 false .remote 5 [1]).wf = false := by decide
theorem test_wf_descriptor : (Instr.descriptorComplete 0 { eight with data := [256] }).wf = false := by decide
theorem test_wf_translation : (Instr.translationFault 8 0 false { eight with data := [300] }).wf = false := by decide
theorem test_wf_host_read : (Instr.hostMemoryAccess (.window 0) 513 none false nothing).wf = false := by decide
theorem test_wf_host_write : (Instr.hostMemoryAccess (.window 0) 2 (some [1]) false nothing).wf = false := by decide
theorem test_wf_host_bar : (Instr.hostMemoryAccess (.window 0xFFFFFFF) 2 none false nothing).wf = false := by decide
theorem test_wf_debug : (Instr.debugHalt (.read true 0x20000000 ⟨0, 0, .clean⟩)).wf = false := by decide
theorem test_wf_pack_error : (Instr.packFrame 0 false (.error 8) 5 [1]).wf = false := by decide
theorem test_wf_dram_scrub : (Instr.dramScrub [⟨0x80000000, some 5⟩]).wf = false := by decide
theorem test_wf_sram_scrub : (Instr.sramScrub [⟨0x20000000, some 2⟩]).wf = false := by decide
theorem test_wf_unknown : (Instr.unknownCmd 0 1 0x5A []).wf = false := by decide
theorem test_wf_sv_read : (Instr.svMemRead 0x20000000 257 ⟨true, nothing⟩).wf = false := by decide
theorem test_wf_sv_write : (Instr.svMemWrite 0x20200000 ⟨[], nothing⟩).wf = false := by decide
theorem test_wf_sv_opcode : (Instr.svUnknownOpcode 0x21).wf = false := by decide
theorem test_wf_write : (Instr.registerWrite .app 0 ⟨0, 0, .clean⟩ 0).wf = false := by decide
theorem test_wf_read : (Instr.registerRead .app 0 ⟨0, 0, .clean⟩).wf = false := by decide
theorem test_wf_sram : (Instr.sramUncorr 0x20200000).wf = false := by decide
theorem test_illFormed_faults : exec (.registerWrite .app 0 ⟨0, 0, .clean⟩ 0) State.reset = .fault .illFormed := rfl

/-! ### The manual's worked examples -/

/-- R269: the check value of "123456789" is 0xE306_9283. -/
theorem test_crc : crc32c [0x31, 0x32, 0x33, 0x34, 0x35, 0x36, 0x37, 0x38, 0x39] = 0xE3069283 := by decide

/-- The worked frame of the neighbour links' chapter: its check value under the seed 0x6B1E30D4. -/
theorem test_frame_check : crcFinal (crcRun 0x6B1E30D4 [0x58, 0x21, 0x00, 0x3C, 0x13, 0x04, 0x00, 0x40]) = 0xD115024C := by decide

/-- R81: the halves of 0x5A3C_91E7 give the seal word 0xCBDB. -/
theorem test_seal : (0x5A3C91E7 / 65536) ^^^ (0x5A3C91E7 % 65536) = 0xCBDB := by decide

/-! ### The block as a whole -/

theorem witness_WellFormedCommandsAnswer : Instr.warmReset.wf = true ∧ (Instr.svMemWrite 0 ⟨[], nothing⟩).wf = false := by decide
theorem witness_StepRunsFrontCommand : ({ State.reset with pending := [.warmReset] }).pending = [.warmReset] := by decide
theorem witness_StepKeepsInvariant : Inv State.reset := ⟨by decide, by decide⟩
theorem test_reset_mode : State.reset.mode = .resetSeq := by decide
theorem test_step_takes_front : (match step { State.reset with pending := [.proofTimerHour, .warmReset] } with
    | .next t => t.pending | _ => []) = [.warmReset] := by decide
theorem test_step_idles : step State.reset = .next State.reset := rfl
theorem witness_ModeChanges : mayChangeMode .thermal = false ∧ mayStore .thermal = false := by decide

/-- An output with every term of R23 is on; it is off once the mode is Hold. -/
def energised : State :=
  put [(SOP_CH_CFG.USED, 64, 1), (SOP_CH_CFG.GENERAL, 64, 1), (SOP_CH_STATE.LATCH, 64, 0)]
    { service with outputs := { service.outputs with commands := 2 ^ 64 } }
theorem witness_GatesNeedEveryTerm : energised.soh 64 = true ∧ energised.sol 64 = true := by decide
theorem test_gate_hold : (put [(SYS_MODE.CUR, 0, Mode.hold.code)] energised).soh 64 = false := by decide
theorem test_gate_split : (put [(LKS_STATUS.STATE, 0, pairSplit)] energised).soh 64 = false := by decide

/-! ### Reset, time and modes -/

theorem witness_ResetsClearAndEnterProof :
    service.joined = true ∧ service.flash.running = false ∧ State.reset.phase = .held
      ∧ (after .resetRelease State.reset).phase = .waiting ∧ (after .resetRelease State.reset).mode = .resetSeq := by decide
theorem test_cold_reset_keeps_flash :
    (after .coldReset { service with mem := [(0x20000000, 7), (0x40000000, 0x12)] }).mem = [(0x40000000, 0x12)] := by decide
theorem test_warm_reset_keeps_memory :
    (after .warmReset { service with mem := [(0x20000000, 7)] }).mem = [(0x20000000, 7)] := by decide
theorem test_release_drives_supply : (after .resetRelease State.reset).flag HFE_STATUS.HSUP 191 = true := by decide
theorem witness_TicksAndBoundariesCount : service.phase ≠ .held := by decide
theorem test_tick : (after (.tick 0 0) (inMode .hold)).ticks = 1 := by decide
theorem witness_RequestsWaitForBoundary :
    ChannelReady 0 service ∧ ChannelReady 1 service ∧ PairAtWork service ∧ service.mode ≠ .proof ∧ service.pair.step = .idle
      ∧ service.modes.request = none ∧ service.pair.request = none ∧ weevilOk (some (4, 112)) = true :=
  ⟨⟨by decide, by decide⟩, ⟨by decide, by decide⟩, ⟨by decide, by decide, by decide⟩, by decide⟩
theorem test_mode_req_waits :
    (after (.modeReq 1 9 3) service).modes.request = some ⟨3, 9, some 1⟩ := by decide
theorem witness_DormantNotesAndWakes :
    (put [(SYS_DORMANT_CFG.EN_SV, 0, 1), (SYS_DORMANT_CFG.EN_TIMER, 0, 1), (SYS_DORMANT_CFG.TIMER, 0, 1)] (inMode .dormant)).mode
        = .dormant
      ∧ (put [(SYS_DORMANT_CFG.EN_SV, 0, 1)] (inMode .dormant)).wakeEnabled 3 = true
      ∧ (inMode .dormant).modes.waking = false := by decide
theorem test_crust_in_dormant :
    (after (.crustChange 0x8001) (inMode .dormant)).flag FAB_CRUST.CHG_DORMANT = true := by decide

/-- Proof with the given items passed. -/
def proofAt (passed : Nat) : State :=
  let s := put [(SYS_PROOF.ITEM_PASS, 0, passed)] (inMode .proof)
  { s with proof := { s.proof with ended := passed } }
theorem witness_ProofStartsAndItsItemsEnd :
    (proofAt 0).itemRuns 1 = true ∧ (proofAt 0x1F).itemRuns 6 = true ∧ (proofAt 0).flag CLK_STATUS.REF_OK = true
      ∧ (proofAt 0).lastStands 0x1A = false ∧ (ItemResult.sram true).wf = true ∧ (proofAt 1).itemRuns 2 = true
      ∧ service.modes.raised = [] ∧ (inMode .hold).flag SYS_PROOF.OVERDUE = false := by decide
theorem witness_proof_timer :
    (put [(SYS_PROOF_TIMER.LIMIT, 0, 168)] service).rd SYS_PROOF_TIMER.HOURS + 1
        < (put [(SYS_PROOF_TIMER.LIMIT, 0, 168)] service).dueHours
      ∧ ({ service with modes := { service.modes with autoSince := some 0 } }).sectionsBusy = false := by decide
theorem test_weevil_joins : (after (.proofItemComplete (.weevil none)) (proofAt 0x1F)).joined = true := by decide
theorem test_sram_item_fails : (after (.proofItemComplete (.sram false)) (proofAt 1)).itemPassed 2 = false := by decide
theorem witness_RecoveryEnds :
    (put [(SYS_MODE.CUR, 0, Mode.recovery.code)] service).recoveryDone = true
      ∧ (inMode .recovery).modes.tRecPassed = false
      ∧ ({ inMode .dormant with modes := { (inMode .dormant).modes with waking := true } }).modes.waking = true := by decide
theorem test_recovery_ends : (after .recoveryComplete (put [(SYS_MODE.CUR, 0, Mode.recovery.code)] service)).mode = .service := by
  decide
theorem witness_ThermalTripStopsOutputs : service.mode ≠ .resetSeq ∧ service.lastStands 8 = false := by decide
theorem test_thermal_off : (after .thermal energised).soh 64 = false := by decide
theorem witness_HoldKeepsItsCause :
    (inMode .hold).mode = .hold ∧ (inMode .hold).lastStands 8 = false ∧ (Instr.sramUncorr 0x20000000).wf = true := by decide
theorem test_hold_keeps : (after .thermal (inMode .hold)).flag SYS_CAUSE_HOLD0.VALID = false
    ∧ (after .thermal (inMode .hold)).rd SYS_CAUSE_LAST0.CODE = 8 := by decide

/-! ### Loaves, flash and slices -/

/-- A header without parts, as R77 lays it out. -/
def headerBytes : List Nat :=
  let h := toBytesLE 4 0x46414F4C ++ toBytesLE 2 1 ++ toBytesLE 2 0x80 ++ toBytesLE 4 77 ++ List.replicate 8 0
    ++ toBytesLE 2 0 ++ toBytesLE 2 0x0D96 ++ toBytesLE 4 0x100 ++ toBytesLE 4 64 ++ List.replicate 92 0
  h ++ toBytesLE 4 (crc32c h)
theorem test_header_length : headerBytes.length = 0x80 := by decide
def withHeader : State := { inMode .commission with mem := Mem.writeBytes [] 0x40400000 headerBytes }
theorem witness_LoafSelectNamesSlot : withHeader.headerValid 0 = true ∧ withHeader.mode = .commission
    ∧ ChannelReady 1 withHeader := ⟨by decide, by decide, by decide, by decide⟩
theorem witness_FlashOperationsRun :
    (inMode .commission).mode = .commission ∧ (inMode .commission).flash.running = false
      ∧ (inMode .commission).rangeRefused opErase 0 0x400000 0x10000 false = false
      ∧ (inMode .commission).rangeRefused opProgram 0x20300000 0x400100 256 false = false := by decide
theorem test_flash_erase_waits : (after (.flashErase 0x400000 0x10000 false) (inMode .commission)).flash.running = true := by decide
theorem test_flash_erase :
    (after (.flashOpComplete 1 ⟨true, nothing⟩) (after (.flashErase 0x400000 0x10000 false)
      { inMode .commission with mem := [(0x40400000, 5)] })).mem = [] := by decide
theorem witness_SliceFaultsShow :
    (put [(FAB_SLICE_STATE.SIDE, 3, 1), (FAB_SLICE_STATE.FUNC, 3, 1)] service).rd FAB_SLICE_STATE.SIDE 3 ≠ 0
      ∧ (put [(FAB_SLICE_STATE.SIDE, 3, 1), (FAB_SLICE_STATE.FUNC, 3, 1)] service).rd FAB_SLICE_STATE.FUNC 3 ≠ funcLeaven := by decide
theorem test_slice_watchdog :
    (after (.sliceWatchdog 3) (put [(FAB_SLICE_STATE.SIDE, 3, 1)] service)).rd FAB_SLICE_STATE.FAULT 3 = 1 := by decide

/-! ### Head front end -/

theorem witness_ConversionsShowOrMiss :
    (put [(HFE_GLB_STATUS.RATE, 0, rateFull)] service).converts 5 = true
      ∧ (put [(HFE_GLB_STATUS.RATE, 0, rateFull)] service).rateAdmits false = true
      ∧ (put [(HFE_GLB_STATUS.RATE, 0, rateOverlap)] service).rateAdmits true = true
      ∧ (put [(HFE_GLB_STATUS.RATE, 0, rateFull)] service).rd HFE_GLB_STATUS.RATE = rateFull
      ∧ ((100 : BitVec 16)).toInt ≤ toSigned 16 ((put [(HFE_THR0.THR_DAMP, 5, 100)] service).rd HFE_THR0.THR_DAMP 5)
      ∧ toSigned 16 ((put [(HFE_THR0.THR_DAMP, 5, 100)] service).rd HFE_THR0.THR_DAMP 5) < (101 : BitVec 16).toInt
      ∧ (put [(HFE_HEAD_CFG.F_FULL, 2, 0)] service).rd HFE_HEAD_CFG.F_FULL (5 / 2) + 1 ≤ (service.sys 5).aboveRun + 1
      ∧ (put [(PMA_CH_CFG.USED, 3, 1)] service).flag PMA_CH_CFG.USED 3 = true ∧ service.flag PMA_CH_STATUS.FAILED 3 = false := by decide
theorem test_conversion :
    (after (.conversionDone (.system 191 false) 0x8000) (put [(HFE_GLB_STATUS.RATE, 0, rateFull)] service)).rd HFE_SAMPLE.CODE 191
      = 0x8001 := by decide
theorem test_conversion_latches :
    (after (.conversionDone (.system 5 false) 101) (put [(HFE_GLB_STATUS.RATE, 0, rateFull), (HFE_THR0.THR_DAMP, 5, 100), (HFE_HEAD_CFG.F_FULL, 2, 0)] service)).flag
      HFE_STATUS.CROSSING 5 = true := by decide
theorem test_rrc_full_scale_absent :
    (after (.conversionDone (.rrc 7) 0x7FFF) (put [(HFE_GLB_STATUS.RATE, 0, rateFull), (HFE_RRC_CFG.USED, 7, 1)] service)).flag
      HFE_RRC_STATUS.ABSENT 7 = true := by decide

/-- A test slot in a given part. -/
def inSlot (ph : SlotPhase) (result : Nat) : State :=
  { put [(HFE_HEAD_CFG.USED, 95, 1)] service with ticks := 100000, sched := { service.sched with slot := some ⟨190, 0, ph, result, 0xFF⟩ } }
/-- System 191 in use owes its repeat. -/
def owing : State := { put [(HFE_HEAD_CFG.USED, 95, 1)] service with sched := { service.sched with owed := [191] } }
theorem witness_SupplyTestSlots :
    owing.schedActive = true ∧ owing.sched.slot = none ∧ owing.slotDue = true ∧ owing.firstFree [] = none
      ∧ owing.firstFree owing.sched.owed = some 191 ∧ (put [(HFE_HEAD_CFG.USED, 95, 1)] service).orderNext = some 190
      ∧ (put [(HFE_HEAD_CFG.USED, 95, 1)] service).headFree 95 = true
      ∧ 0 + (inSlot .guard 4).slotTicks ≤ (inSlot .guard 4).ticks ∧ ((inSlot .blanked 4).sys 190).blankUntil ≤ (inSlot .blanked 4).ticks
      ∧ (inSlot .pulse 0).sched.slot = some ⟨190, 0, .pulse, 0, 0xFF⟩
      ∧ (inSlot .restart 0xF).sched.slot = some ⟨190, 0, .restart, 0xF, 0xFF⟩
      ∧ (put [(HFE_HEAD_CFG.USED, 95, 1)] service).sysUsed 191 = true := by decide
theorem test_slot_drives_low :
    (after .testSlotStart owing).flag HFE_STATUS.HSUP 191 = false := by decide
theorem test_slot_ends : (after .testSlotEnd (inSlot .guard 4)).rd HFE_TEST.RESULT 190 = 4 := by decide
theorem witness_CancellerPort :
    ((({ put [(HFE_CANC.CLIP, 2, 50), (HFE_GLB_STATUS.RATE, 0, rateFull)] service with
        systems := [(2, { (default : SysRec) with raws := [(0, 40)] })] }).sys 2).raws.find? (fun p => decide (p.1 = 0))) = some (0, 40)
      ∧ service.cancellerFaulted = false
      ∧ (put [(FAB_SLICE_STATE.FUNC, 127, 2)] service).checkSlices = true
      ∧ popcount 50 (service.sys 2).absences ≤ 5 := by decide
theorem test_requalify :
    ((after (.cancellerRequalify 191) { put [(HFE_CANC.CLIP, 191, 50), (HFE_GLB_STATUS.RATE, 0, rateFull), (HFE_HEAD_CFG.USED, 95, 1),
      (FAB_SLICE_STATE.FUNC, 127, 2)] service with systems := [(191, { (default : SysRec) with goodRun := 50000 })] }).sys 191).qualified
      = true := by decide

/-- The recorder configured for two units at the start of the DRAM. -/
def recorderSet : State := put [(HFE_REC_BASE.BASE, 0, 0x400), (HFE_REC_LEN.LEN, 0, 2)] service
theorem witness_RecorderWritesBlocks :
    recorderSet.recConfigOk = true ∧ service.recConfigOk = false ∧ recorderSet.flag HFE_REC_CTRL.ENABLE = false
      ∧ (put [(HFE_REC_CTRL.ENABLE, 0, 1)] recorderSet).recording = true := by decide
theorem test_recorder_enable : (after .recorderEnable recorderSet).flag HFE_REC_CTRL.ENABLE = true := by decide
theorem test_recorder_refuses : (after .recorderEnable service).flag HFE_REC_STATUS.CFG_ERR = true := by decide

/-! ### Chafer -/

/-- A head in use, in a state, with Chafer running. -/
def headIn (h : Nat) (st : Nat) (hd : Head) : State :=
  { put [(HFE_HEAD_CFG.USED, h, 1), (HFE_CHF_STATE.HSTATE, h, st)] service with
    heads := [(h, hd)], chafer := { service.chafer with running := true } }
theorem witness_ChaferHeads :
    (headIn 95 headOk { (default : Head) with freshA := true, freshB := true }).headUsed 95 = true
      ∧ (headIn 95 headOk { (default : Head) with disc := some 5 }).hstate 95 = headOk
      ∧ (put [(HFE_CHF_CFG1.T_DISC, 95, 6)] service).rd HFE_CHF_CFG1.T_DISC 95 ≤ (some 5).getD 0 + 1
      ∧ (headIn 95 headDisturbed default).chafer.held.length < 32
      ∧ ((headIn 95 headDisturbed default).head 95).quietNow ((headIn 95 headDisturbed default).headCfg 95)
          ((headIn 95 headDisturbed default).tickIn 95) = true := by decide
theorem test_discrepancy :
    (after (.discrepancyTimeout 95) (put [(HFE_CHF_CFG1.T_DISC, 95, 6)] (headIn 95 headOk { (default : Head) with disc := some 5 }))).hstate
      95 = headDisturbed := by decide

/-! ### Sections -/

/-- Section 63 in use, in a state. -/
def sectionIn (st : Nat) (c : Section) : State :=
  { put [(CNT_SEC_CFG.USED, 63, 1), (CNT_SEC_STATE.STATE, 63, st), (CNT_SEC_CFG.SWEEP_OK, 63, 1), (CNT_SEC_CFG.N_SWEEP, 63, 0)] service with sections := [(63, c)] }
theorem witness_SectionResetsWaitAndEnd :
    (sectionIn secPrepared { (default : Section) with prepKind := 1 }).prepDone 63 = true
      ∧ (sectionIn secPrepared { (default : Section) with prepKind := 2, confd := true }).prepDone 63 = true
      ∧ (sectionIn secPrepared { (default : Section) with prepKind := 2, confd := true }).awaitsConf 63 = true
      ∧ (sectionIn secPrepared { (default : Section) with prepKind := 1 }).awaitsConf 63 = false
      ∧ (sectionIn secPrepared default).peerDone 63 = true ∧ service.counting.request = none ∧ service.countingRuns = true := by decide
theorem test_sweep_clears :
    (after (.sweepDone 63) (sectionIn secPrepared { (default : Section) with prepKind := 1 })).secState 63 = secClear := by decide
theorem test_prep_expires :
    (after (.tPrepExpiry 63) (sectionIn secPrepared { (default : Section) with prepKind := 1 })).secState 63 = secDisturbed := by decide
theorem witness_SectionEventsDisturb :
    (put [(CNT_SEC_STATE.COUNT, 63, 2 ^ CNT_SEC_STATE.COUNT.width - 1)] (sectionIn secClear default)).secCountOf 63 < 0
      ∧ (sectionIn secClear default).secState 63 ≠ secDisturbed
      ∧ (put [(LKS_STATUS.STATE, 0, pairSplit), (LKS_STATUS.CORE0_RUN, 0, 1)] service).zeroAlone = true := by decide
theorem test_undercount :
    (after (.undercount 63) (put [(CNT_SEC_STATE.COUNT, 63, 2 ^ CNT_SEC_STATE.COUNT.width - 1)] (sectionIn secClear default))).secState 63
      = secDisturbed := by decide
theorem test_force_from_core_zero :
    (after (.cntForce 63) (put [(LKS_STATUS.STATE, 0, pairSplit), (LKS_STATUS.CORE0_RUN, 0, 1)] service)).rd SYS_ACC_ERR0.TYPE = 3 := by
  decide

/-! ### The pair, outputs and links -/

theorem witness_PairFaultsSplit :
    service.comparing = true ∧ service.pair.step ≠ .joined ∧ service.mode ≠ .resetSeq ∧ service.lastStands 1 = false
      ∧ (put [(LKS_HB.ARMED, 0, 1)] service).flag LKS_HB.ARMED = true ∧ service.clk.rcStopped = false
      ∧ (inMode .service).joined = false ∧ (inMode .service).pair.step = .idle := by decide
theorem test_lockstep_splits : (after (.lockstep 1 3 0 3 1 0x1234) service).rd LKS_STATUS.STATE = pairSplit := by decide
theorem test_halt_of_one_core : (after (.debugHalt (.halt true)) (inMode .service)).flag LKS_DBG.HALT1 = true := by decide
theorem test_resume_of_one_core : (after (.debugHalt (.resume true)) (put [(LKS_DBG.HALT1, 0, 1)] (inMode .service))).flag LKS_DBG.HALT1
    = false := by decide
theorem witness_CommitsAndUnlocksAreChecked :
    service.joined = true ∧ (5 : BitVec 16).toNat ≠ service.rd CNT_CYCLE.GEN ∧ (0 : BitVec 16).toNat = service.rd CNT_CYCLE.GEN
      ∧ (put [(SOP_COMMIT_STATUS.VALID, 0, 1)] service).flag SOP_COMMIT_STATUS.VALID = true
      ∧ service.flag SOP_COMMIT_STATUS.VALID = false
      ∧ ((({ energised with chans := [(71, { (default : OutChannel) with faults := 8, splitPassed := true })] }).chan 71).faults % 8)
        = 0 := by decide
theorem test_commit_stale : (after (.sopCommit 5 0) service).rd SOP_COMMIT_STATUS.RESULT = 2 := by decide
theorem test_unlock :
    (after (.sopUnlock 71) { put [(SOP_CH_CFG.USED, 71, 1), (SOP_CH_STATE.FAULT, 71, 4)] service with
      chans := [(71, { (default : OutChannel) with faults := 8, splitPassed := true })] }).locked 71 = false := by decide

/-- Channel 64 energised with a test in a part. -/
def outTest (k : OutTestKind) : State :=
  { energised with ticks := 1000, chans := [(64, { (default : OutChannel) with test := k })] }
/-- Channel 64 energised, in its slot, at the window. -/
def atWindow : State := { energised with ticks := 12 }
/-- Channel 71 de-energised, in its slot, at the window. -/
def offAtWindow : State := { put [(SOP_CH_CFG.USED, 71, 1)] service with ticks := 12 }
theorem witness_OutputTestsRunAndEnd :
    atWindow.testsRun = true ∧ atWindow.actionFree = true ∧ atWindow.energised 64 = true ∧ atWindow.windowOpens = true
      ∧ atWindow.inSlot 64 = true ∧ ((outTest .pulseH).chan 64).test = .pulseH
      ∧ (outTest .pulseH).testLasted 64 (5 * (outTest .pulseH).rd SOP_TEST_CFG.T_PULSE) = true
      ∧ ((outTest .stepL).chan 64).test = .stepL ∧ (outTest .stepL).chanUsed 64 = true
      ∧ (outTest .stepL).testLasted 64 (10 * (outTest .stepL).rd SOP_TEST_CFG.T_STEP) = true
      ∧ ((outTest .abandon).chan 64).test = .abandon ∧ (outTest .stepH).clk.gatedA = false ∧ (outTest .gap).hostPort.waits = []
      ∧ ((outTest .stepH).chan 64).test = .stepH ∧ ((outTest .gap).chan 64).test = .gap
      ∧ offAtWindow.splitTestable 71 = true ∧ offAtWindow.windowOpens = true ∧ offAtWindow.inSlot 71 = true
      ∧ offAtWindow.actionFree = true ∧ offAtWindow.testsRun = true ∧ (put [(SOP_CH_CFG.USED, 71, 1)] (inMode .proof)).testsRun = false
      ∧ ({ put [(SOP_CH_CFG.SLOT, 71, 9)] offAtWindow with outputs := { service.outputs with deferred := [71] } }).someSlot = false := by
  decide
theorem test_off_pulse : (after (.offPulse 64) atWindow).soh 64 = false ∧ (after (.offPulse 64) atWindow).sol 64 = true := by decide
theorem test_split_step : (after (.splitSwitchTest 71) offAtWindow).soh 71 = true ∧ (after (.splitSwitchTest 71) offAtWindow).sol 71
    = false := by decide
theorem test_split_gap : ((after (.tick 0 0) (outTest .stepH)).chan 64).test = .gap := by decide
theorem test_pulse_end_passes : (after (.offPulseEnd 64 true true) (outTest .pulseH)).flag SOP_CH_TEST.VALID 64 = true := by decide

/-- Link 3 in use and UP. -/
def linked : State := put [(NBL_CFG.USED, 3, 1), (NBL_STATE.STATE, 3, linkUp)] service
theorem witness_LinkFramesAreSentAndJudged :
    linked.linkUsed 3 = true ∧ linked.linkState 3 ≠ linkDown ∧ linked.linkMode = true ∧ linked.linkListens 3 = true
      ∧ linked.frameReject 3 (lineWhole [false, true]) (lineBytes [false, true]) (linked.tickNs + 0) = some rejCoding
      ∧ lineBytes (byteLevels [0xA5, 0x01] ++ [true, true]) = [0xA5, 0x01] ∧ frameBegins ([true, true] ++ delimiterLevels) = true := by decide
theorem witness_delimited : ∃ noise, [true, true] ++ delimiterLevels = noise ++ byteLevels [0x55, 0x55, 0xD5] := ⟨[true, true], rfl⟩
theorem witness_noise : ¬ ∃ noise, [true, true] = noise ++ byteLevels [0x55, 0x55, 0xD5] := fun ⟨n, h⟩ => by
  have := congrArg List.length h
  rw [List.length_append] at this
  have h48 : (byteLevels [0x55, 0x55, 0xD5]).length = 48 := by decide
  simp only [List.length_cons, List.length_nil] at this
  omega
theorem test_frame_missing_ends_up : (after (.frameMissing 3) (put [(NBL_STATE.RUN, 3, 2)] linked)).linkState 3 = linkLost := by decide
theorem test_coding_rejected : (after (.frameReceived 3 (true :: delimiterLevels) [false, true] 0) linked).rd NBL_LAST_REJ.REASON 3 = rejCoding := by decide

/-! ### The check unit -/

/-- A bank ready for nine bytes of the flash. -/
def bankSet : State :=
  put [(CHK_x_ADDR.ADDR, 1, 0x40000000), (CHK_x_LEN.LEN, 1, 9), (CHK_x_ADDR.ADDR, 0, 0x40000000), (CHK_x_LEN.LEN, 0, 9)]
    { service with mem := Mem.writeBytes [] 0x40000000 [0x31, 0x32, 0x33, 0x34, 0x35, 0x36, 0x37, 0x38, 0x39] }
theorem witness_ScansRunAndEnd :
    bankSet.scanBusy 0 = false ∧ bankSet.scanBusy 1 = false ∧ bankSet.joined = true
      ∧ chkRangeOk 0 (bankSet.rd CHK_x_ADDR.ADDR 0) (bankSet.rd CHK_x_LEN.LEN 0) = true ∧ bankSet.rd CHK_x_LEN.LEN 1 ≠ 0
      ∧ ((after (.chkGo 1 7 0) bankSet).scan 1).running = true ∧ ((after (.chkGo 1 7 0) bankSet).scan 1).suspended = false := by decide
theorem test_scan_result :
    (after (.chkScanComplete 1 0 nothing) (after (.chkGo 1 7 0) bankSet)).rd CHK_x_CRC.CRC 1 = 0xE3069283 := by decide
theorem witness_StartSelectsTheSeed :
    chkRangeOk 1 (bankSet.rd CHK_x_ADDR.ADDR 1) (bankSet.rd CHK_x_LEN.LEN 1) = true := by decide
theorem test_start_refused : (after (.chkGo 1 7 2) bankSet).rd CHK_x_RESULT.STATUS 1 = chkRefused := by decide

/-! ### Leaven and the bridges -/

/-- Leaven in a state, on a bus that reads as given. -/
def leavenIn (st : Nat) (l : Leaven) : State := { put [(GFE_STATUS.STATE, 0, st)] service with leaven := l }
theorem witness_ControlStepsRunLeaven :
    (put [(CLK_STATUS.MA_QUAL, 0, 0)] service).mdllA = false ∧ service.mdllA = true
      ∧ (leavenIn gfeForming default).gfe = gfeForming ∧ (leavenIn gfeForming default).leaven.command = none
      ∧ (put [(SYS_MODE.CUR, 0, Mode.commission.code)] (leavenIn gfeForming default)).leavenMode = false := by decide
theorem witness_LeavenCommandsWait :
    service.leaven.command = none ∧ (leavenIn gfeOff { (default : Leaven) with command := some 1 }).leaven.command ≠ none := by decide
theorem test_second_command_busy :
    (after .stop (after .start service)).rd GFE_RESULT.STATUS = gfeBusy ∧ (after .stop (after .start service)).leaven.command
      = some leavenStart := by decide
theorem witness_LeavenTrips :
    (leavenIn gfeBlackstart { (default : Leaven) with phase := .ramp }).leaven.phase = .ramp
      ∧ (leavenIn gfeRide default).gfe = gfeRide ∧ (put [(GFE_STATUS.CLAMP, 0, 1)] (leavenIn gfeForming default)).flag GFE_STATUS.CLAMP
      ∧ (leavenIn gfeForming { (default : Leaven) with avail := 2048 }).avail 11 = true := by decide
theorem test_overvolt : (after .overvolt (leavenIn gfeForming default)).rd GFE_STATUS.CAUSE = gfeOvervolt := by decide
theorem test_dc_window_trips :
    (after (.dcWindowTimeout 11 true) (put [(GFE_BASE.MIN_BR, 0, 1)] (leavenIn gfeForming { (default : Leaven) with avail := 2048 }))).rd
      GFE_STATUS.CAUSE = gfeBridges := by decide
theorem witness_LeavenStartsAndJoins :
    (leavenIn gfeBlackstart { (default : Leaven) with phase := .backoff }).leaven.raised = []
      ∧ (leavenIn gfeBlackstart { (default : Leaven) with phase := .join }).gfe = gfeBlackstart
      ∧ (put [(GFE_BASE.AUTO_BS, 0, 1)] (leavenIn gfeOff { (default : Leaven) with deadRun := 10000000 })).flag GFE_BASE.AUTO_BS = true
      ∧ (leavenIn gfeOff { (default : Leaven) with deadRun := 10000000 }).autosNow.length < 3 := by decide
theorem test_ramp_ends :
    (after .blackstartRampEnd (leavenIn gfeBlackstart { (default : Leaven) with phase := .ramp })).leaven.phase = .settle := by decide
theorem witness_LeavenRidesAndSynchronises :
    (leavenIn gfeSyncing default).gfe = gfeSyncing ∧ (leavenIn gfeSyncing default).mode = .service
      ∧ (put [(PMA_CH_CFG.USED, 47, 1), (PMA_CH_CFG.FUNC, 47, 4)] (leavenIn gfeForming default)).gridChannels = true
      ∧ (leavenIn gfeForming default).leaven.noAutoSync = false := by decide
theorem test_frt_ends : (after .frtEnd (leavenIn gfeRide default)).gfe = gfeForming := by decide
theorem witness_SetpointsAndReservations :
    (put [(GFE_FF_AMP.A, 63, 5)] (leavenIn gfeForming default)).ffAccepts 63 255 0 = true
      ∧ (leavenIn gfeOff default).ffAccepts 63 255 0 = false ∧ firstToExpire [(9, 1), (5, 2)] = some (5, 2) := by decide
theorem test_v_set_clips : (after (.setpointWrite true 0) service).rd GFE_SET1.V_SET = 9000
    ∧ (after (.setpointWrite true 0) service).flag GFE_SET1.SET_CLIP = true := by decide

/-- Bridge 11 with leg 35 and channel 47; the cores own it where `own` is 1. -/
def bridged (own : Nat) : State :=
  put [(PWM_BR_CFG0.USED, 11, 1), (PWM_BR_CFG0.OWNER, 11, own), (PWM_LEG_CFG.USED, 35, 1), (PWM_LEG_CFG.BRIDGE, 35, 11),
    (PMA_CH_WIN1.LEG, 47, 35), (PMA_CH_WIN1.ACTION, 47, 3), (PMA_CH_CFG.USED, 47, 1)] service
theorem witness_BridgeTrips :
    (bridged 1).legUsed 35 = true ∧ (bridged 1).legBridge 35 < 12 ∧ (bridged 1).rd PMA_CH_WIN1.LEG 47 = 35
      ∧ (bridged 1).flag PMA_CH_STATUS.ABOVE 47 = false ∧ (bridged 1).coreOwned 11 = true ∧ (bridged 0).coreOwned 11 = false
      ∧ (bridged 1).flag PWM_BR_CTRL.ENABLE 11 = false := by decide
theorem test_dsat_trips : (after (.dsat 35 true) (bridged 1)).rd PWM_BR_STATUS.TRIP 11 = tripDesat := by decide
/-- The same bridge with thresholds at channel 47. -/
def windowed : State := { bridged 1 with thresholds := [(47, ⟨true, 100, -100, 90, -90⟩)] }
theorem test_window_trips : (after (.windowCrossing 47 101) windowed).tripped 11 = true := by decide
theorem test_window_hysteresis :
    (after (.windowCrossing 47 95) (after (.windowCrossing 47 101) windowed)).flag PMA_CH_STATUS.ABOVE 47 = true
      ∧ (after (.windowCrossing 47 90) (after (.windowCrossing 47 101) windowed)).flag PMA_CH_STATUS.ABOVE 47 = false := by decide
theorem witness_windows :
    tget windowed.thresholds 47 = ⟨true, 100, -100, 90, -90⟩ ∧ (tget windowed.thresholds 46).held = false
      ∧ windowed.rd PMA_CH_WIN1.LEG 47 = 35 ∧ windowed.legUsed 35 = true ∧ windowed.legBridge 35 < 12
      ∧ windowed.flag PMA_CH_STATUS.BELOW 47 = false ∧ windowed.flag SNP_CFG.EN_BRIDGE = false
      ∧ windowed.tripped 11 = false := by decide
theorem witness_BridgesFollowTheirOwner :
    (bridged 1).flag PWM_BR_STATUS.CH_FAIL 11 = false ∧ (bridged 1).isUpdatePoint 11 false = true ∧ (bridged 0).leavenOwned 11 = true
      ∧ (put [(PWM_GEN_CFG0.DITHER_EN, 11, 1), (PWM_GEN_STATUS.N_ALLOWED, 11, 155)] service).rd PWM_GEN_STATUS.N_ALLOWED 11 ≠ 0 := by
  decide
theorem test_step_update_late : (after (.stepUpdate 11 none) (bridged 0)).rd PWM_BR_STATUS.LATE 11 = 1 := by decide
theorem test_enable_as_it_trips : exec (.bridgeEnable 11 .onAsItTrips) (bridged 1) = .next (bridged 1) := rfl
theorem test_late_load_waits :
    ((after (.load 11 true) (after (.load 11 false) (bridged 1))).bridge 11).load = 3 := by decide
theorem test_enable_needs_owner : (after (.bridgeEnable 11 .on) (bridged 0)).rd SYS_ACC_ERR0.TYPE = 3 := by decide

/-! ### Metering, packs and CAN -/

/-- String 31 in use, integrating, with a calibration of unity. -/
def metered : State :=
  { put [(CAN_STATUS.STATE, 7, 0)] service with
    meter := { service.meter with integrating := true },
    strings := [(31, { (default : Str) with cfg := ⟨true, false, 1000, 1000, 65536, 65536, 0, 0, 0⟩ })] }
theorem witness_SamplesAreIntegrated : metered.integrates 31 = true ∧ metered.integrates 30 = false ∧ metered.strMetered 31 = true
    ∧ clampInt (-mtrFull) mtrFull (0x800000 : BitVec 24).toInt = -8388607 := by decide
theorem test_stall_unmetered : (after (.meterStall 31) metered).flag MTR_STR_STATUS.UNMETERED 31 = true := by decide

/-- A record of string 31 waits to be written. -/
def recording : State :=
  { metered with meter := { metered.meter with queue := [(31, List.replicate 64 5)], ptr := 7 } }
/-- A close of string 31 is due. -/
def closing : State := { metered with meter := { metered.meter with interval := 60, sinceMs := 60000 } }
theorem witness_LedgerClosesAndWrites :
    (inMode .dormant).mode = .dormant ∧ closing.closeDue = true ∧ (inMode .dormant).closeDue = false ∧ metered.mdllB = true ∧ recording.meter.ptr < ledgerSlots
      ∧ metered.flag MTR_LEDGER_STATUS.FLASH_FAIL = false ∧ metered.rd MTR_STR_SEQ.NEXT 31 + (metered.waiting 31).length < 0xFFFFFFF0
      ∧ recording.meter.queue = [(31, List.replicate 64 5)] ∧ recording.ringOffers recording.ledgerRing = false := by decide
theorem test_record_written :
    (after (.ledgerRecordWritten true) recording).meter.ptr = 8
      ∧ (after (.ledgerRecordWritten true) recording).rd MTR_STR_SEQ.NEXT 31 = 1 := by decide
theorem test_record_fails_at_last :
    (after (.ledgerRecordWritten false) { recording with meter := { recording.meter with tries := 3 } }).flag
      MTR_LEDGER_STATUS.FLASH_FAIL = true := by decide

theorem witness_PackFramesReport :
    metered.packLate 31 = true ∧ metered.packLate 30 = false ∧ ({ metered with timeNs := 10000000000 }).discardOver 31 = true
      ∧ metered.canRuns 7 = true ∧ dlcLengths.contains [1, 2, 3, (4 : Nat)].length = true ∧ metered.packAccepts 31 0 [1, 2] = true
      ∧ (List.range 32).filter (fun j => (put [(LOAF_PACK.VALID, 124, 1), (LOAF_PACK.ID, 124, 0x77)] metered).strUsed j
          && ((put [(LOAF_PACK.VALID, 124, 1), (LOAF_PACK.ID, 124, 0x77)] metered).mappedFrame false 0x77 j).isSome) = [] := by decide
theorem test_remote_counts : (after (.packFrame 7 false .remote 5 []) metered).rd CAN_QSTAT.N_REMOTE 7 = 1 := by decide

/-- Controller 7 with a frame of a queue. -/
def queued (q : Nat) : State := { put [(CAN_STATUS.STATE, 7, 0)] service with timeNs := 5000000, cans := [(7, ⟨0, [⟨q, 5, 0x123, [1], 0, 10, false⟩], []⟩)] }
theorem witness_CanQueuesFrames :
    (queued 1).rd CAN_STATUS.STATE 7 ≠ 3 ∧ (put [(CAN_STATUS.STATE, 7, 3)] service).rd CAN_STATUS.STATE 7 = 3
      ∧ ((queued 3).canQueue 7 3).length < 16 ∧ (queued 1).canRuns 7 = true ∧ (queued 1).canNext 7 1 0 = some ⟨1, 5, 0x123, [1], 0, 10, false⟩
      ∧ (queued 1).canOnBus 7 ⟨1, 5, 0x123, [1], 0, 10, false⟩ = true
      ∧ ({ queued 3 with timeNs := 10000000 }).canOverdue ⟨3, 5, 0x123, [1], 0, 10, false⟩ = true
      ∧ ((queued 3).canQueue 7 3).head? = some ⟨3, 5, 0x123, [1], 0, 10, false⟩ ∧ ((queued 1).can 7).done.length < 64
      ∧ ((queued 1).can 7).frames.find? (fun f => decide (f.tag = (5 : BitVec 16).toNat)) = some ⟨1, 5, 0x123, [1], 0, 10, false⟩
      ∧ (put [(CAN_STATUS.STATE, 7, 2)] service).rd CAN_STATUS.STATE 7 = 2 := by decide
theorem test_bulk_refused : ((after (.bulkDeadline ⟨7, false⟩) { queued 3 with timeNs := 10000000 }).can 7).done = [5 * 65536 + canRefused * 8192] := by decide
theorem test_off_post_aborted :
    ((after (.canTxPost 7 9 1 8) (put [(CAN_STATUS.STATE, 7, 3)] service)).can 7).done.length = 1 := by decide

/-! ### Clocks and network time -/

theorem witness_MdllGatesCloseAndOpen :
    service.mdllA = true ∧ service.gateCounts = true ∧ (inMode .dormant).gateCounts = false ∧ service.mdllB = true
      ∧ service.lastStands 0x21 = false ∧ ({ service with clk := { service.clk with gatedA := true } }).clk.lossRaised = false
      ∧ service.lastStands 7 = false ∧ (put [(CLK_STATUS.MA_QUAL, 0, 0)] service).flag CLK_STATUS.REF_OK = true
      ∧ service.rd CLK_MB_SHADOW.SEL = service.rd CLK_MB_ACTIVE.SEL
      ∧ (put [(CLK_MB_SHADOW.SEL, 0, 1)] service).rd CLK_MB_SHADOW.SEL ≠ service.rd CLK_MB_ACTIVE.SEL
      ∧ ({ service with clk := { service.clk with strobe := true } }).clk.relock = false
      ∧ ({ service with ticks := 100, clk := { service.clk with strobe := true } }).strobeOver = true
      ∧ ({ service with ticks := 100 }).ticks - service.clk.strobeTick ≤ 100 := by decide
theorem test_strobe_same : (after (.strobe 9) service).rd CLK_MB_RESULT.STATUS = 1 := by decide
theorem test_strobe_fails : (after (.strobeDrainEnd false) { service with ticks := 100, clk := { service.clk with strobe := true } }).rd
    CLK_MB_RESULT.STATUS = 8 := by decide
theorem test_strobe_drained :
    (after (.strobeDrainEnd true) (after (.strobe 9) (put [(CLK_MB_SHADOW.SEL, 0, 1)] service))).mdllB = false := by decide
theorem witness_ClockLossesShow :
    service.flag CLK_STATUS.REF_OK = true ∧ (put [(CLK_STATUS.TS_QUAL, 0, 1)] service).flag CLK_STATUS.TS_QUAL = true
      ∧ service.phase = .done ∧ service.lastStands 0x20 = false
      ∧ (put [(CLK_STATUS.FF_XTAL, 0, 1)] service).flag CLK_STATUS.FF_XTAL = true := by decide
theorem test_ref_loss : (after .refLoss service).mdllA = false ∧ (after .refLoss service).mdllB = false := by decide
theorem test_ts_freq_clips : (after (.tsFreqWrite 0x7FFFFFFF) service).rdS CLK_TS_FREQ.OFFSET = 1099511627 := by decide

/-- A Sync of the parent identity 0 in domain 0, in an Ethernet frame. -/
def syncFrame : List Byte := List.replicate 12 0 ++ [0x88, 0xF7] ++ List.replicate 44 0
/-- Port 2 in use with PTP, the engine on and listening there. -/
def onPort : State :=
  put [(ETH_P_CFG.USED, 2, 1), (ETH_P_CFG.PTP, 2, 1), (ETH_PTP_CFG.EN, 0, 1), (ETH_PTP_CFG.UDP4, 0, 0), (ETH_SRV_CTRL.ENABLE, 0, 1),
    (ETH_SRV_CTRL.SLAVE_PORT, 0, 2)] service
theorem witness_FramesAreStamped :
    service.flag ETH_P_CFG.USED 2 = false ∧ onPort.flag ETH_P_CFG.USED 2 = true ∧ onPort.ethOn = true ∧ (inMode .proof).ethOn = false ∧ onPort.rxRing 2 = none
      ∧ (onPort.ptpMessage (byteNats syncFrame)).isSome = true ∧ onPort.engineOn 2 = true
      ∧ ptpType (byteNats syncFrame |>.drop 14) = 0 ∧ ptpDomain (byteNats syncFrame |>.drop 14) = onPort.rd ETH_PTP_CFG.DOMAIN
      ∧ ptpSource (byteNats syncFrame |>.drop 14) = onPort.parentId ∧ (onPort.port 2).stamps.length < 8
      ∧ 8 ≤ (({ onPort with ports := [(2, { (default : EthPort) with stamps := List.replicate 8 ⟨1, 1⟩ })] }).port 2).stamps.length := by
  decide
theorem test_sync_kept : (after (.ptpFrameReceived 2 0 syncFrame) onPort).eth.sync.isSome = true := by decide
theorem test_stamp_pops :
    (after (.txtsPop 2) (after (.txTimestamp 2 1 7 3 5000000009) { onPort with timeNs := 5000000009 })).rd ETH_P_TXTS1.NS 2 = 9 := by decide
theorem witness_TimeGuardJudges :
    (put [(ETH_SRV_STATUS.ARMED, 0, 0)] service).flag ETH_SRV_STATUS.ARMED = false ∧ service.eth.sync = none ∧ service.guard ≠ guardLocked
      ∧ (put [(ETH_SRV_STATUS.STATE, 0, guardLocked)] service).guard = guardLocked ∧ service.armOver = false ∧ onPort.engineOn (onPort.rd ETH_SRV_CTRL.SLAVE_PORT) = true
      ∧ ({ put [(ETH_SRV_STATUS.STATE, 0, guardLocked)] onPort with ticks := 5000000 }).syncOver = true
      ∧ ({ service with ticks := 30000000, eth := { service.eth with armTick := some 0 } }).armOver = true
      ∧ (after (.stepArm 1 4) onPort).eth.armTick ≠ none ∧ onPort.stepArmRefused = none ∧ service.stepArmRefused = some 3
      ∧ ({ service with eth := { service.eth with endToEnd := some (0, 0, 0) } }).delay2 ⟨5, 1, 0, 0, some (5, 0)⟩ 5 0 = some 0 := by decide
theorem test_step_arm : ((after (.stepArm 1 4) onPort).channel 1).response.take 3 = [5, 4, 1] := by decide
theorem test_master_lost :
    (after .masterLost { put [(ETH_SRV_STATUS.STATE, 0, guardLocked)] onPort with ticks := 5000000 }).rd ETH_SRV_STATUS.CAUSE = gcMasterLost := by decide
theorem test_parent_change : (after (.parentWrite 3 0x10001) service).rd ETH_SRV_PARENT2.PORT = 1
    ∧ (after (.parentWrite 3 0x10001) service).rd ETH_SRV_STATUS.CAUSE = gcMasterChange := by decide

/-! ### Rings, memory and egress -/

/-- Ring 23 as the egress ring of port 2, with a frame of queue 3. -/
def egressing : State :=
  put [(DMA_RING_CFG.KIND, 23, kindOut), (DMA_RING_CFG.PORT, 23, (Config.ethPort 2).toNat), (ETH_P_CFG.USED, 2, 1)]
    (ringWith 23 (desc 0xC8) service)
theorem witness_EgressFramesComplete : AtHead 23 (desc 0xC8) egressing ∧ egressing.mdllB = true ∧ srcSpace 0xC8 = 0
    ∧ egressing.ringTranslates 23 = false ∧ (0xC8 : Nat) / 64 % 4 = 3 :=
  ⟨⟨⟨by rfl, by rfl, by rfl, by rfl, by decide, by rfl, by rfl⟩, by unfold NoRivalBut; decide⟩, by rfl, by rfl, by rfl, by rfl⟩
theorem witness_egress_port : egressing.egressPort 23 = some 2 := by
  have h : egressing.rd DMA_RING_CFG.PORT 23 = (Config.ethPort 2).toNat := by
    show (Config.ethPort 2).toNat % 2 ^ 8 = _
    exact Nat.mod_eq_of_lt (Config.ethPort 2).isLt
  have k : egressing.rd DMA_RING_CFG.KIND 23 = kindOut := rfl
  have u : egressing.flag ETH_P_CFG.USED 0 = false ∧ egressing.flag ETH_P_CFG.USED 1 = false
    ∧ egressing.flag ETH_P_CFG.USED 2 = true := ⟨rfl, rfl, rfl⟩
  simp [State.egressPort, List.range, List.range.loop, List.find?, h, k, u.1, u.2.1, u.2.2]
theorem witness_AtHead : AtHead 24 (desc 2) (ringWith 24 (desc 2) service) ∧ (desc 2).ended = false
    ∧ (ringWith 24 (desc 2) service).ringTranslates 24 = false :=
  ⟨⟨⟨by decide, by decide, by decide, by decide, by decide, by decide, by decide⟩, by unfold NoRivalBut; decide⟩, by decide⟩
theorem witness_OffersBuffer : OffersBuffer 31 (desc 2) (ringWith 31 (desc 2) service) :=
  ⟨⟨⟨by decide, by decide, by decide, by decide, by decide, by decide, by decide⟩, by unfold NoRivalBut; decide⟩, by decide⟩
theorem witness_RingCommandsAct :
    (ringWith 31 (desc 2) service).ringState 31 = ringRun ∧ service.ringState 31 = ringIdle
      ∧ (put [(DMA_RING_CFG.SIZE, 31, 4)] service).ringLevel 31 4 ≤ 4 ∧ 4 < (put [(DMA_RING_CFG.SIZE, 31, 4)] service).ringLevel 31 5
      ∧ 4 < (put [(DMA_RING_CFG.SIZE, 31, 4)] service).ringWrap 31
      ∧ (put [(DMA_RING_STATE.STATE, 31, ringPaused)] service).ringState 31 = ringPaused
      ∧ (put [(DMA_RING_STATE.STATE, 31, ringStopped)] service).ringState 31 = ringStopped
      ∧ (ringWith 31 (desc 2) service).ringHasDone 31 0 = false ∧ (ringWith 31 (desc 2) service).ringStands 31 = false := by decide
theorem test_overpost : (after (.ringPost 31 5) (put [(DMA_RING_CFG.SIZE, 31, 4)] service)).flag DMA_RING_STATE.OVERPOST 31 = true := by
  decide
theorem test_ring_start : (after (.ringStart 31) service).ringState 31 = ringRun := by decide
theorem test_ring_stop_refused : (after (.ringStop 31) service).rd DMA_RING_STATE.CMD_RES 31 = 5 := by decide
theorem test_ring_abort :
    (after (.ringAbort 31 0) (ringWith 31 (desc 2) service)).rd DMA_RING_TAIL.TAIL 31 = 1 := by decide
theorem witness_DescriptorsMoveBytes :
    (Instr.descriptorComplete 31 eight).wf = true ∧ service.ringState 31 ≠ ringRun ∧ eight.ending = .all ∧ ringClass 31 = 3
      ∧ ringClass 23 ≠ 3
      ∧ (translate 0 false 0x20300000 (put [(DMA_RING_CFG.TRANSLATE, 31, 1)] (ringWith 31 (desc 0) service))).2 = .fault .domain := by
  decide
theorem test_delivers :
    (after (.descriptorComplete 31 eight) (ringWith 31 (desc 2) service)).mem.readBytes 0x20200000 8 = [1, 2, 3, 4, 5, 6, 7, 8] := by
  decide
theorem test_translation_pauses :
    (after (.translationFault 31 0 false eight) (put [(DMA_RING_CFG.TRANSLATE, 31, 1)] (ringWith 31 (desc 0) service))).rd
      DMA_RING_FAULT1.TYPE 31 = 5 := by decide
theorem test_class_b_refused : (after (.classBDeadline 31) { ringWith 31 (desc 2) service with ticks := 1000000 }).rd DMA_CLASS_CNT1.REFUSED_B = 1 := by decide
theorem witness_PreemptionOnlyShows : (desc 2).preempted = false ∧ (desc 2).started = false := by decide
theorem test_preempted :
    bit ((after (.descriptorComplete 31 { eight with preempted := true }) (ringWith 31 (desc 2) service)).mem.read 0x2021000C).toNat 4
      = true := by decide
theorem witness_MemoryErrorsAreLogged :
    (Instr.dramScrub [⟨0x80000000, some 4⟩]).wf = true ∧ (Instr.dramScrub []).wf = true ∧ (Instr.sramScrub [⟨0x207FFFFF, none⟩]).wf = true
      ∧ (Instr.sramUncorr 0x201FFFFF).wf = true ∧ service.lastStands 6 = false ∧ service.errLog = [] := by decide
theorem test_scrub_logs : (after (.dramScrub [⟨0x80000000, some 3⟩]) service).errLog.length = 1
    ∧ (after (.dramScrub [⟨0x80000000, some 2⟩]) service).errLog = [] := by decide
theorem test_log_pops : (after .errLogPop (after (.dramScrub [⟨0x80000040, none⟩]) service)).rd DMA_ERR_LOG1.ADDR = 0x80000040 := by decide

/-! ### Host, service port, Crumb, registers -/

/-- The host's domain maps its first 2 MiB to the start of the DRAM, and the link is up. -/
def hosted : State :=
  { put [(SYS_HOST_CFG.DOM, 0, 15), (DMA_IOMMU_CTX0.MODE, 15, 1), (SYS_HOST_CFG.LINK_UP, 0, 1)] service with
    tlb := [⟨15, 0, true, 0x80000000, true, true⟩] }
theorem witness_EndpointServesTheHost :
    (Instr.hostMemoryAccess (.window 0xFFE) 2 (some [1, 2]) false nothing).wf = true ∧ hosted.pcieReach = true
      ∧ hosted.walkDamage nothing 15 0xFFE = none ∧ (translate 15 true 0xFFE hosted).2 = .ok 0x80000FFE 0x1FF002
      ∧ (translate 0 false 0 service).2 = .fault .domain ∧ service.pcieReach = true
      ∧ touchesDram 0x80000FFE 2 = true ∧ hosted.mdllB = true ∧ (⟨[], [0x80000FFE]⟩ : MemFound).meets 0x80000FFE 2 = true
      ∧ (Instr.hostMemoryAccess (.mailbox 0x3000) 16 none false nothing).wf = true
      ∧ (Instr.hostMemoryAccess (.config 0) 64 none false nothing).wf = true
      ∧ (inMode .proof).pcieReach = false ∧ (inMode .proof).mode ≠ .dormant := by decide
theorem test_host_write :
    (after (.hostMemoryAccess (.window 0xFFF) 2 (some [1, 2]) false nothing) hosted).mem = [(0x80000FFF, 1), (0x80001000, 2)] := by decide
theorem test_host_read_fails : (after (.hostMemoryAccess (.window 0) 1 none false nothing) service).out.head? = some .unsupported := by
  decide
theorem test_host_read_damaged :
    (after (.hostMemoryAccess (.window 0) 1 none false ⟨[], [0x80000000]⟩) hosted).out.head? = some .completerAbort := by decide
theorem test_host_reads_ids : (after (.hostMemoryAccess (.config 9) 3 none false nothing) hosted).out = [.memData [0, 0x80, 0x11]] := by decide
theorem test_unmask_sends :
    (after (.irqUnmask 31) (put [(SYS_IRQ_MASK.VEC, 0, 2 ^ 31), (SYS_IRQ_PEND.VEC, 0, 2 ^ 31)] service)).out = [.msix 31] := by decide
theorem witness_CommandsAreAnsweredAtOnce :
    ChannelReady 0 service ∧ ChannelReady 1 service ∧ service.snap.latchedNow = none
      ∧ (Instr.unknownCmd 1 7 0x5B []).wf = true ∧ pairCode (reqCode [1, 2, 1, 0, 3]) = true
      ∧ ((after (.summary 1 5) service).channel 1).request ≠ none :=
  ⟨⟨by decide, by decide⟩, ⟨by decide, by decide⟩, by decide⟩
theorem test_unknown : ((after (.unknownCmd 1 7 0x5B [9]) service).channel 1).response.take 3 = [0x5B, 7, 0x12] := by decide
theorem test_pcie_unknown : ((after (.unknownCmd 0 7 0x5B [9]) service).channel 0).response.take 3 = [0x5B, 7, 0x12] := by decide
theorem test_snap_range : ((after (.snap 1 7 (some (1000000000, 1))) service).channel 1).response.take 3 = [4, 7, 0xE] := by decide
theorem test_snap_arms : (after (.snap 1 7 (some (5, 1))) service).snap.armedAt = some 1000000005 := by decide
theorem test_timeout :
    ((after (.commandTimeout 1) { inMode .proof with ticks := 500, channels := [(1, { (default : Channel) with request := some [1, 2, 1, 0, 3] })] }).channel
      1).response.take 3 = [1, 2, 0x11] := by decide
theorem witness_ServicePortServesFrames :
    service.svReady = true ∧ (inMode .dormant).svReady = false ∧ (Instr.svMemRead 0x20000000 256 ⟨false, nothing⟩).wf = true
      ∧ inSafety 0x201FFF00 256 = true ∧ inControl 0x207FFFFF 1 = true ∧ regAt 0 ≠ none ∧ service.clockStopped 0 = false
      ∧ service.eth.latched = none ∧ (Instr.svPost [0x01, 5, 0, 0]).wf = true ∧ payloadLengths 1 = some [1]
      ∧ (Instr.svUnknownOpcode 0x22).wf = true := by decide
theorem test_sv_reads_part : (after (.svRegRead 0 1) service).out = [.svBytes [0x01, 0x0A, 0x96, 0x0D]] := by decide
theorem test_sv_bad_length : ((after (.svPost [0x01, 5, 0, 0]) service).channel 1).response.take 3 = [1, 5, 0x13] := by decide
theorem test_sv_write_barred : (after (.svMemWrite 0x201FFFFF ⟨[1], nothing⟩) service).rd SYS_ACC_ERR0.TYPE = 3
    ∧ (after (.svMemWrite 0x201FFFFF ⟨[1], nothing⟩) service).mem = [] := by decide
theorem witness_SnapshotsLatchAndLock :
    (inMode .dormant).mode = .dormant ∧ (put [(SNP_STATUS.LOCKED, 0, 1)] service).flag SNP_STATUS.LOCKED = true
      ∧ service.flag SNP_STATUS.LOCKED = false ∧ ({ service with snap := { service.snap with armedAt := some 0 } }).snap.armedAt = some 0
      ∧ service.matchTime = some 0 ∧ (put [(SNP_TMATCH0.NS, 0, 1000000000)] service).matchTime = none
      ∧ (put [(SNP_TMATCH0.NS, 0, 999999999)] service).matchTime = some 999999999 ∧ service.flag SNP_STATUS.ARMED = false := by decide
theorem test_missed : (after .snapTrig (put [(SNP_STATUS.LOCKED, 0, 1)] service)).rd SNP_MISSED.FIRST_SRC = 1 := by decide
theorem test_arm_fires : (after .disarm (after .arm (put [(SNP_TMATCH0.NS, 0, 7)] service))).flag SNP_STATUS.ARMED = false
    ∧ (after .arm (put [(SNP_TMATCH0.NS, 0, 7)] service)).snap.armedAt = some 7 := by decide
theorem witness_RegisterWritesFollowRights :
    shapeError .app 0 5 = some .size ∧ shapeError .app 0 3 = some .narrow ∧ shapeError .app 2 4 = some .narrow
      ∧ shapeError .app 0x110000 4 = some .unmapped ∧ shapeError .app 0x10FFFC 4 = none ∧ regAt 0x10FFFC = none
      ∧ regAt 0xF0014 = some (SNP_TMATCH1.reg, 0) ∧ service.mayWrite .app SNP_TMATCH1.reg 0 = true
      ∧ regAt (SYS_CAUSE_HOLD1.reg.addr 0) = some (SYS_CAUSE_HOLD1.reg, 0) ∧ service.mayWrite .app SYS_CAUSE_HOLD1.reg 0 = false
      ∧ service.mayWrite .scarab SYS_CAUSE_HOLD1.reg 0 = true := by decide
theorem test_write : (after (.registerWrite .app 0xF0014 aWord 0x12345678) service).rd SNP_TMATCH1.SEC_LO = 0x12345678 := by decide
theorem test_write_refused : (after (.registerWrite .app (BitVec.ofNat 32 (SYS_CAUSE_HOLD1.reg.addr 0)) aWord 1) service).rd
    SYS_ACC_ERR0.TYPE = 3 := by decide
theorem witness_RegisterReadsAnswer :
    shapeError .core1 0 4 = none ∧ (put [(CLK_STATUS.MA_QUAL, 0, 0)] service).clockStopped 0x30000 = true
      ∧ service.clockStopped 0x30000 = false ∧ (inMode .proof).pcieReach = false ∧ regAt 0x30000 ≠ none := by decide
theorem test_read : (after (.registerRead .core1 0 aWord) (inMode .service)).out = [.readData 0x0D960A01] := by decide
theorem test_read_clears : (after (.registerRead .app (BitVec.ofNat 32 SYS_ACC_ERR0.reg.base) aWord)
    (put [(SYS_ACC_ERR0.COUNT, 0, 9)] service)).rd SYS_ACC_ERR0.COUNT = 0 := by decide
theorem test_held_in_dormant : (after (.registerWrite .host 0x74 aWord 1) (inMode .dormant)).hostPort.held = [.reg 0x74 4 1] := by decide

/-! ### Witnesses of single clauses -/

/-- Slice 3 in use with a function. -/
def sliced (func : Nat) : State := put [(FAB_SLICE_STATE.SIDE, 3, 1), (FAB_SLICE_STATE.FUNC, 3, func)] service
theorem witness_slices :
    (sliced 9).sliceWhole 3 ∧ (sliced 9).plainSlice 3 ∧ (sliced funcRecognition).rd FAB_SLICE_STATE.FUNC 3 = funcRecognition
      ∧ (sliced funcCancellerCheck).rd FAB_SLICE_STATE.FUNC 3 = funcCancellerCheck
      ∧ ({ sliced funcRecognition with chafer := { service.chafer with running := true } }).chafer.running = true :=
  ⟨⟨by decide, by decide, by decide⟩, ⟨by decide, by decide, by decide⟩, by decide⟩
/-- The check of slot 1 runs, and its scan of bank A with it. -/
def slotCheck : State := after (.flashCheckSlot 1) (inMode .commission)
theorem witness_slot_check :
    slotCheck.flash.running = true ∧ slotCheck.flash.op = 3 ∧ slotCheck.flash.scanning = true ∧ slotCheck.flash.abortAsked = false
      ∧ (slotCheck.scan 1).kind = .header ∧ (slotCheck.scan 1).suspended = false ∧ slotCheck.scanStands 1 = false
      ∧ slotCheck.slotCheckWaits 1 = false := by decide
/-- The same check, asked for while a scan of the cores has bank A. -/
def slotWaits : State := after (.flashCheckSlot 1) (put [(SYS_MODE.CUR, 0, Mode.commission.code)] (after (.chkGo 1 7 0) bankSet))
theorem witness_slot_check_waits :
    slotWaits.slotCheckWaits 1 = true ∧ (slotWaits.scan 1).running = true ∧ (slotWaits.scan 1).kind = .plain
      ∧ (slotWaits.scan 1).queue = [] ∧ slotWaits.flash.scanning = false ∧ slotWaits.flash.op = 3 := by decide
theorem test_slot_check_begins : ((after (.chkScanComplete 1 0 nothing) slotWaits).scan 1).kind = .header := by decide
theorem witness_read_error :
    max ((after (.chkGo 1 7 0) bankSet).scan 1).live (9 / 8 * 8) < ((after (.chkGo 1 7 0) bankSet).scan 1).len
      ∧ (after (.chkGo 1 7 0) bankSet).flash.running = false := by decide
theorem witness_recorder_block :
    ({ put [(HFE_REC_CTRL.ENABLE, 0, 1)] recorderSet with recorder := { service.recorder with started := true } }).recorder.started
      = true := by decide
theorem witness_pulse_over :
    0 + (inSlot .pulse 0).rd HFE_TEST_CFG0.T_OFF ≤ (inSlot .pulse 0).ticks
      ∧ 0 + (inSlot .restart 0xF).rd HFE_TEST_CFG0.T_OFF + (inSlot .restart 0xF).rd HFE_TEST_CFG0.T_RST ≤ (inSlot .restart 0xF).ticks := by
  decide
theorem witness_correction_in_time : service.ticks < 0 + 2 ∧ 50000 ≤ ({ (default : SysRec) with goodRun := 50000 }).goodRun := by decide
theorem witness_head_faulted :
    ({ service with systems := [(190, { (default : SysRec) with faults := 32 })] }).sysFault 190 = true ∧ (headIn 95 headFailed default).hstate 95 = headFailed
      ∧ (headIn 95 headOk { (default : Head) with passage := some { (default : Passage) with sinceChange := 65535 } }).chafer.running = true := by
  decide
theorem witness_section_events :
    (put [(CNT_SEC_STATE.LINK_HOLD, 63, 1)] (sectionIn secClear default)).flag CNT_SEC_STATE.LINK_HOLD 63 = true
      ∧ (sectionIn secClear default).mode ≠ .recovery := by decide
theorem witness_split_under_way :
    ({ service with pair := { service.pair with splitting := some ⟨false, 0, 7, none, none, default⟩ } }).comparing = true
      ∧ (Instr.lockstep 1 3 0 3 1 0).wf = true ∧ (Instr.comparator 1 1 0 3 1 0).wf = true := by decide
theorem witness_no_copy_waits : ∀ bs ∈ (leavenIn gfeForming default).leaven.copies.head?, copyFields bs ≠ (63, 255, 0) := by decide
theorem witness_waiting_copy :
    (leavenIn gfeForming { (default : Leaven) with copies := [List.replicate 32 0] }).leaven.copies = [List.replicate 32 0]
      ∧ copyFields (List.replicate 32 0) = (0, 0, 0) := by decide
theorem witness_record_offered :
    ({ ringWith 8 (desc 2) recording with mem := [] }).ledgerRing = 8
      ∧ OffersBuffer 8 (desc 2) (ringWith 8 (desc 2) recording) :=
  ⟨by decide, ⟨⟨by decide, by decide, by decide, by decide, by decide, by decide, by decide⟩, by unfold NoRivalBut; decide⟩, by decide⟩
theorem witness_frame_queued :
    (queued 0).rd CAN_STATUS.STATE 7 ≠ 3
      ∧ ((queued 0).canQueue 7 0).find? (fun g => sameId g.idWord 0x123 && !g.aborted) = some ⟨0, 5, 0x123, [1], 0, 10, false⟩
      ∧ (put [(CAN_STATUS.STATE, 7, 2)] (queued 1)).canOnBus 7 ⟨1, 5, 0x123, [1], 0, 10, false⟩ = false := by decide
theorem witness_crystal_runs :
    ({ service with clk := { service.clk with fxRuns := true } }).clk.fxRuns = true
      ∧ (put [(CLK_STATUS.REF_OK, 0, 0)] service).flag CLK_STATUS.REF_OK = false ∧ (inMode .dormant).mdllA = true := by decide
/-- Ring 16 as the receive ring of port 2, with an empty buffer. -/
def receiving : State :=
  put [(DMA_RING_CFG.KIND, 16, kindIn), (DMA_RING_CFG.PORT, 16, (Config.ethPort 2).toNat)] (ringWith 16 (desc 2) onPort)
theorem witness_receive_ring : receiving.rxRing 2 = some 16 ∧ OffersBuffer 16 (desc 2) receiving := by
  have p : receiving.rd DMA_RING_CFG.PORT 16 = (Config.ethPort 2).toNat := by
    show (Config.ethPort 2).toNat % 2 ^ 8 = _
    exact Nat.mod_eq_of_lt (Config.ethPort 2).isLt
  have k : receiving.rd DMA_RING_CFG.KIND 16 = kindIn := rfl
  have o : receiving.ringOffers 16 = true := rfl
  exact ⟨by simp [State.rxRing, List.range, List.range.loop, p, k, o],
    ⟨⟨by rfl, by rfl, by rfl, by rfl, by decide, by rfl, by rfl⟩, by unfold NoRivalBut; decide⟩, by rfl, by rfl, by rfl⟩
/-- Ring 9 copies within the memory that ring `r`'s descriptor uses. -/
def rivals (r q : Nat) : State :=
  let s := ringWith r (desc 0) service
  put [(DMA_RING_STATE.STATE, q, ringRun), (DMA_RING_CFG.SIZE, q, 4), (DMA_RING_CBASE.BASE, q, 0x20220000)]
    { s with rings := insert s.rings q { (default : Ring) with queue := [desc 0] } }
theorem witness_rivals :
    (rivals 17 9).rival 17 (desc 0) 9 = true ∧ ringClass 9 < ringClass 17 ∧ (rivals 9 17).rival 9 (desc 0) 17 = true
      ∧ HeadReady 17 (desc 0) (rivals 17 9) ∧ NoRivalBut [9] 17 (desc 0) (rivals 17 9) ∧ ((rivals 17 9).ring 9).queue = [desc 0] :=
  ⟨by decide, by decide, by decide, ⟨by decide, by decide, by decide, by decide, by decide, by decide, by decide⟩, by unfold NoRivalBut; decide,
    by decide⟩
theorem test_lower_class_waits : ((after (.descriptorComplete 9 eight) (rivals 9 17)).ring 17).queue = [desc 0] := by decide
theorem witness_post_taken_back :
    (put [(DMA_RING_HEAD.HEAD, 31, 1)] (ringWith 31 (desc 2) service)).ringLevel 31 0
      < (put [(DMA_RING_HEAD.HEAD, 31, 1)] (ringWith 31 (desc 2) service)).ringLevel 31 1 := by decide
theorem test_post_taken_back :
    ((after (.ringPost 31 0) (put [(DMA_RING_HEAD.HEAD, 31, 1)] (ringWith 31 (desc 2) service))).ring 31).queue = [] := by decide
theorem witness_late_bulk :
    ({ ringWith 31 (desc 2) service with ticks := 1000000 }).overdue 31 (desc 2) = true
      ∧ (ringWith 31 (desc 2) service).endsUnmoved 31 (desc 2) = false ∧ regionOk 31 true 0x20210000 16 = true
      ∧ completionAt 31 (desc 2) (ringWith 31 (desc 2) service) = 0x20210000 := by decide
theorem witness_access_waits :
    (put [(CLK_STATUS.MB_QUAL, 0, 0)] hosted).mdllB = false ∧ (put [(CLK_STATUS.MB_QUAL, 0, 0)] hosted).pcieReach = true := by decide
theorem test_access_waits :
    (after (.hostMemoryAccess (.window 0) 2 (some [1, 2]) false nothing) (put [(CLK_STATUS.MB_QUAL, 0, 0)] hosted)).hostPort.waits.length = 1 := by
  decide
theorem witness_timeout_due :
    ({ inMode .proof with ticks := 500, channels := [(1, { (default : Channel) with request := some [1, 2, 1, 0, 3] })] }).takeOver 1
      = true := by decide
theorem witness_sv_forms :
    (Instr.svPost [4, 9, 0, 0]).wf = true ∧ SYS_CAUSE_SET.reg.addr 1 = 0x44 ∧ service.svReady = true := by decide
theorem test_sv_clears : (after (.svRegWrite 0x44 [5]) (put [(SYS_CAUSE_SET.SET, 1, 7)] service)).rd SYS_CAUSE_SET.SET 1 = 2 := by decide
theorem test_sv_cut_notes : (after (.svFrameCut 0x44 [5]) service).hostPort.svErr = true := by decide
theorem test_sv_snap : ((after (.svPost [4, 9, 0, 0]) service).channel 1).response.take 3 = [4, 9, 1] := by decide
theorem witness_voices :
    service.speaksAs .core0 .scarab ∧ service.speaksAs .app .app ∧ (inMode .service).speaksAs .core1 .core1 ∧ service.joined = true :=
  ⟨⟨by decide, by decide⟩, ⟨by decide, rfl⟩, ⟨by decide, by decide⟩, by decide⟩
theorem test_core_one_silent : (after (.registerRead .core1 0 aWord) service).out = [] := by decide
theorem test_domain_mode_reserved :
    (after (.registerWrite .app 0xE0278 aWord 0xC0000000) (put [(DMA_IOMMU_CTX0.MODE, 15, 1)] service)).rd DMA_IOMMU_CTX0.MODE 15 = 0 := by decide

/-! ### Witnesses of the clauses about errors, waits and open words -/

theorem witness_leaven_slice :
    (sliced funcLeaven).sliceWhole 3 ∧ (sliced funcLeaven).rd FAB_SLICE_STATE.FUNC 3 = funcLeaven ∧ (sliced funcLeaven).gfe = gfeOff
      ∧ (put [(GFE_STATUS.STATE, 0, gfeForming)] (sliced funcLeaven)).gfe ≠ gfeOff
      ∧ (5 : Word).toNat ≠ (tget (sliced funcLeaven).slices 3).crc ∧ service.rd FAB_SLICE_STATE.SIDE 3 = 0
      ∧ (put [(FAB_SLICE_STATE.FAULT, 3, 2)] (sliced 9)).rd FAB_SLICE_STATE.FAULT 3 ≠ 0
      ∧ (put [(CLK_STATUS.MA_QUAL, 0, 0)] service).mdllA = false :=
  ⟨⟨by decide, by decide, by decide⟩, by decide⟩
theorem test_leaven_slice_trips :
    (after (.sliceWatchdog 3) (put [(GFE_STATUS.STATE, 0, gfeForming)] (sliced funcLeaven))).leaven.raised = [gfeSliceFault] := by decide
theorem test_faulted_slice_stays :
    exec (.sliceMemUncorr 3) (put [(FAB_SLICE_STATE.FAULT, 3, 1)] (sliced 9)) = .next (put [(FAB_SLICE_STATE.FAULT, 3, 1)] (sliced 9)) := rfl

/-- System 5 of a loaded loaf, 24 samples in a row below THR_OPEN. -/
def opening : State :=
  { put [(HFE_GLB_STATUS.RATE, 0, rateFull), (FAB_STATUS.LOADED, 0, 1), (HFE_HEAD_CFG.USED, 2, 1), (HFE_THR0.THR_OPEN, 5, 100), (HFE_THR1.THR_SHORT, 5, 200)]
      service with systems := [(5, { (default : SysRec) with openRun := 24, overRun := 24 })] }
theorem witness_open :
    opening.converts 5 = true ∧ opening.disconnected 5 = false ∧ opening.loafLoaded = true ∧ (opening.sys 5).blankAt opening.ticks = false
      ∧ saturated (99 : BitVec 16).toInt < toSigned 16 (opening.rd HFE_THR0.THR_OPEN 5) ∧ 25 ≤ (opening.sys 5).openRun + 1
      ∧ toSigned 16 (opening.rd HFE_THR1.THR_SHORT 5) ≤ saturated (200 : BitVec 16).toInt
      ∧ (opening.sys 5).marks.any (fun m => m.is faultOpen [5]) = false
      ∧ (put [(HFE_GLB_STATUS.RATE, 0, rateOverlap)] opening).rateAdmits true = true := by decide
theorem test_open : (after (.conversionDone (.system 5 false) 99) opening).rd HFE_STATUS.FAULT 5 = faultOpen := by decide
theorem test_overrange : (after (.conversionDone (.system 5 false) 200) opening).rd HFE_STATUS.FAULT 5 = faultOverrange := by decide
theorem test_between : (after (.conversionDone (.system 5 false) 150) opening).rd HFE_STATUS.FAULT 5 = 0 := by decide
/-- A channel of power measurement routed to an input of slice 9. -/
def routed : State := { put [(PMA_CH_CFG.USED, 9, 1), (PMA_GLB_STATUS.RUN, 0, 1), (PMA_GRP_CFG.TRIG, 1, 0)] service with timeNs := 9, routes := [⟨.pma 9, .slice 9 3⟩] }
theorem test_crossbar :
    (tget (after (.pmaConversion 1 false [0, 7, 0, 0, 0, 0, 0, 0]) routed).crossbar 39).ns = 9 := by decide
theorem witness_routed : (⟨.pma 9, .slice 9 3⟩ : Route) ∈ routed.routes ∧ routed.pmaRuns = true ∧ routed.rd PMA_GRP_CFG.TRIG 1 ≠ 3 := by
  decide
theorem witness_tests_go_on : (owing.itemEleven && owing.linesOver) = false ∧ (inMode .hold).chafer.running = false := by decide
theorem witness_heads_at_once :
    (headIn 95 headOk { (default : Head) with freshA := true, freshB := true }).worksAtOnce 95 = true
      ∧ (headIn 95 headFailed default).sliceFaulted 95 = false ∧ (headIn 95 headFailed default).chaferReady = false
      ∧ 0 < ((put [(HFE_CHF_CFG2.T_QUIET, 95, 1)] (headIn 95 headFailed default)).headCfg 95).tQuiet := by decide
theorem witness_heartbeat :
    (put [(LKS_HB.ARMED, 0, 1)] service).comparing = true ∧ (put [(LKS_HB.ARMED, 0, 1)] service).lastStands 2 = false
      ∧ service.flag LKS_FAULT0.VALID = false ∧ State.reset.phase = .held ∧ cellDrives (.hsup 4) = true
      ∧ [((OutPin.hsup 4), true)].find? (fun c => decide (c.1 = .hsup 4)) = some (.hsup 4, true) := by decide
theorem test_heartbeat_splits :
    (after (.heartbeatLoss true) (put [(LKS_HB.ARMED, 0, 1)] service)).rd LKS_STATUS.SPLIT_CAUSE = splitFault := by decide
theorem test_scan_drives_nothing :
    (after (.debugHalt (.instruction (.boundary [(.hsup 4, true)]))) service).pin (.hsup 4) = .ofLevel false
      ∧ (after (.debugHalt (.instruction (.boundary [(.hsup 4, true)]))) State.reset).pin (.hsup 4) = .ofLevel true := by decide
theorem witness_abandon_ends :
    ({ energised with chans := [(64, { (default : OutChannel) with test := .abandon, abandonTicks := 1 })] }.chan 64).abandonTicks ≤ 1
      ∧ (outTest .stepH).outputs.item = none ∧ (outTest .stepH).clk.gateATicks ≤ 500 ∧ ((outTest .stepH).ring 31).catchDue = false := by
  decide
theorem witness_scan_errors :
    ((after (.chkGo 1 7 0) bankSet).scan 1).addr ≤ (0x40000008 : Word).toNat
      ∧ (0x40000008 : Word).toNat < ((after (.chkGo 1 7 0) bankSet).scan 1).addr + ((after (.chkGo 1 7 0) bankSet).scan 1).len
      ∧ (after (.chkGo 1 7 0) bankSet).slotCheckWaits 1 = false
      ∧ (put [(CLK_STATUS.MA_QUAL, 0, 0)] (after (.chkGo 1 7 0) bankSet)).scanStands 1 = true
      ∧ ((after (.chkGo 1 7 0) bankSet).scan 1).queue = [] := by decide
theorem test_scan_read_error :
    (after (.chkScanComplete 1 0 ⟨[], [0x40000008]⟩) (after (.chkGo 1 7 0) bankSet)).rd CHK_ERR_ADDR.ADDR = 0x40000008 := by decide
theorem witness_bridge_writes :
    (put [(PWM_BR_STATUS.CH_FAIL, 11, 1)] (bridged 1)).flag PWM_BR_STATUS.CH_FAIL 11 = true ∧ (bridged 1).dsatLeg 11 = none
      ∧ ({ bridged 1 with bridges := [(11, { (default : BridgePwm) with load := 3 })] }.bridge 11).load = 3 := by decide

/-- Controller 7 with frame `f`. -/
def canWith (f : CanFrame) : State :=
  { put [(CAN_STATUS.STATE, 7, 0)] service with timeNs := 20000000, cans := [(7, ⟨0, [f], []⟩)] }
theorem witness_can_attempts :
    (canWith ⟨3, 5, 0x123, [1], 0, 10, false⟩).canNext 7 3 101 = some ⟨3, 5, 0x123, [1], 0, 10, false⟩
      ∧ (⟨3, 5, 0x123, [1], 0, 10, false⟩ : CanFrame).late 101 = true ∧ (⟨3, 5, 0x123, [1], 0, 10, false⟩ : CanFrame).late 100 = false
      ∧ (canWith ⟨1, 5, 0x123, [1], 0, 10, true⟩).canNext 7 1 0 = some ⟨1, 5, 0x123, [1], 0, 10, true⟩
      ∧ (put [(CAN_STATUS.TEC, 7, 247)] (queued 1)).rd CAN_STATUS.TEC 7 + 8 ≤ 255
      ∧ 255 < (put [(CAN_STATUS.TEC, 7, 248)] (queued 1)).rd CAN_STATUS.TEC 7 + 8
      ∧ (queued 1).canNext 7 0 0 = none ∧ (∀ f ∈ ((queued 1).can 7).frames, f.tag ≠ 6)
      ∧ ((queued 3).can 7).done.length + ((queued 3).bulkLate 7 false).length ≤ 64
      ∧ 127 < (put [(CAN_STATUS.REC, 7, 128)] metered).rd CAN_STATUS.REC 7
      ∧ (16 ≤ (({ queued 0 with cans := [(7, ⟨0, List.replicate 16 ⟨0, 5, 0x123, [1], 0, 10, false⟩, []⟩)] }).canQueue 7 0).length) := by
  decide
theorem test_error_ends_aborted :
    ((after (.canTxComplete 7 ⟨1, 0, false⟩) (canWith ⟨1, 5, 0x123, [1], 0, 10, true⟩)).can 7).done
      = [5 * 65536 + canAborted * 8192 + canHost * 1024] := by decide
theorem test_error_goes_bus_off :
    (after (.canTxComplete 7 ⟨1, 0, false⟩) (put [(CAN_STATUS.TEC, 7, 248)] (queued 1))).rd CAN_STATUS.STATE 7 = 2 := by decide
theorem test_abort_marks_the_word :
    ((after (.canTxAbort 7 5 0 0) (after (.canTxComplete 7 ⟨1, 0, true⟩) (queued 1))).can 7).done = [5 * 65536 + canOnTime * 8192 + 4096] := by decide
theorem test_receive_error : (after (.packFrame 7 true (.error 8) 5 []) (put [(CAN_STATUS.REC, 7, 120)] metered)).rd CAN_STATUS.STATE 7 = 1 := by
  decide
theorem witness_requalified :
    (put [(CLK_STATUS.REF_OK, 0, 0)] service).phase = .done ∧ (put [(CLK_STATUS.REF_OK, 0, 0)] service).flag CLK_STATUS.REF_OK = false
      ∧ (put [(CLK_TS_CFG.DSEED, 0, 5)] service).rd CLK_TS_CFG.DSEED ≠ 0
      ∧ ({ service with clk := { service.clk with fxFailed := true } }).clk.fxFailed = true := by decide
theorem test_crystal_waits :
    (after .crystalReturn { service with clk := { service.clk with fxFailed := true } }).flag CLK_STATUS.FF_XTAL = false := by decide
theorem test_mark_names_the_tag :
    let s := { onPort with ports := [(2, { (default : EthPort) with marks := [⟨1, 7, 9⟩] })] }
    s.markTag 2 1 7 3 = 9 ∧ onPort.markTag 2 1 7 3 = 3 := by decide
theorem witness_lost_in_holdover :
    ({ put [(ETH_SRV_STATUS.STATE, 0, guardHoldover)] onPort with ticks := 5000000 }).syncOver = true
      ∧ ({ put [(ETH_SRV_STATUS.STATE, 0, guardHoldover)] onPort with ticks := 5000000 }).guard ≠ guardLocked := by decide

/-- A ring whose arrays lie in the DRAM, which is in self-refresh. -/
def standing : State :=
  put [(DMA_RING_CBASE.BASE, 31, 0x80000000), (DMA_RING_DBASE.BASE, 31, 0x80001000), (CLK_STATUS.MB_QUAL, 0, 0)] (ringWith 31 (desc 2) service)
theorem witness_ring_stands :
    standing.ringStands 31 = true ∧ standing.ringState 31 = ringRun ∧ ({ standing with ticks := 1000000 }).overdue 31 (desc 2) = true
      ∧ ((ringWith 31 (desc 2) service).ring 31).unfetched = [] ∧ (standing.ring 31).stopping = false := by decide
theorem test_post_waits : ((after (.ringPost 31 1) standing).ring 31).unfetched = [(0, false)] := by decide
/-- Ring 31 after the completion of its first descriptor, paused over its second. -/
def doneOne : State :=
  put [(DMA_RING_STATE.STATE, 31, ringPaused), (DMA_RING_TAIL.TAIL, 31, 1), (DMA_RING_HEAD.HEAD, 31, 3)]
    { ringWith 31 (desc 2) service with
      rings := [(31, { (default : Ring) with queue := [{ desc 2 with seq := 1 }, { desc 2 with seq := 2 }], doneCount := 1 })] }
theorem witness_abort_of_one_done :
    doneOne.ringHasDone 31 0 = true ∧ doneOne.ringHasDone 31 2 = false ∧ doneOne.ringHasDone 31 7 = false ∧ doneOne.ringHas 31 7 = false
      ∧ doneOne.ringState 31 = ringPaused ∧ (∃ e ∈ [{ desc 2 with seq := 2 }], e.seq = 2) := by decide
theorem test_abort_of_one_done : (after (.ringAbort 31 0) doneOne).rd DMA_RING_STATE.ABORT_ACK 31 = 2 := by decide
theorem test_abort_unpauses : (after (.ringAbort 31 2) doneOne).ringState 31 = ringRun := by decide
/-- Two rings of class C at one memory, of which the second has used up its budget. -/
def spent : State :=
  let s := put [(DMA_RING_BUDGET.BUDGET, 9, 1)] (rivals 8 9)
  { s with rings := insert s.rings 9 { s.ring 9 with bytes := 100 } }
theorem witness_over_budget :
    ringClass 9 = ringClass 8 ∧ spent.overBudget 9 = true ∧ spent.overBudget 8 = false ∧ spent.rival 8 (desc 0) 9 = true
      ∧ (spent.ring 9).queue = [desc 0] ∧ spent.ringStands 9 = false ∧ HeadReady 8 (desc 0) spent ∧ NoRivalBut [9] 8 (desc 0) spent :=
  ⟨by decide, by decide, by decide, by decide, by decide, by decide,
    ⟨by decide, by decide, by decide, by decide, by decide, by decide, by decide⟩, by unfold NoRivalBut; decide⟩
theorem test_over_budget_waits : ((after (.descriptorComplete 8 eight) spent).ring 9).queue = [desc 0] := by decide
theorem witness_invalidation_pending :
    (after (.iommuInvalidate 0 0 0) service).invPending = true ∧ service.invPending = false ∧ service.phase ≠ .held := by decide
theorem test_invalidation_busy :
    (after (.iommuInvalidate 0 0 0) (after (.iommuInvalidate 0 0 0) service)).rd DMA_IOMMU_INV_RESULT.STATUS = 4 := by decide
theorem test_invalidation_completes :
    (after (.tick 0 0) (after (.iommuInvalidate 0 0 0) service)).flag DMA_IOMMU_INV_RESULT.VALID = true := by decide
theorem test_mailbox : (after (.hostMemoryAccess (.mailbox 0x3000) 1 (some [7]) false nothing) hosted).mailboxByte 0x3000 = 7 := by decide
theorem test_link_stays_up :
    (after (.pcieLinkReset .functionLevel) hosted).flag SYS_HOST_CFG.LINK_UP = true
      ∧ (after (.pcieLinkReset .hotReset) hosted).flag SYS_HOST_CFG.LINK_UP = false := by decide
theorem witness_lost_words :
    wordLost ⟨[], [0x80000000]⟩ 0x8000001F = true ∧ wordLost ⟨[], [0x20200000]⟩ 0x20200008 = false
      ∧ partLost ⟨[], [0x80000000]⟩ 0x80000001 2 0x80000002 = true ∧ partLost ⟨[], [0x80000000]⟩ 0x80000000 32 0x80000002 = false
      ∧ inControl 0x20200000 2 = true ∧ inDram 0x80000001 2 = true ∧ (inMode .proof).phase = .done ∧ State.reset.phase ≠ .done := by decide
theorem test_sv_write_keeps_lost_word :
    (after (.svMemWrite 0x80000001 ⟨[1, 2], ⟨[], [0x80000000]⟩⟩) service).mem = [] := by decide
theorem test_sv_status_silent : exec .svStatus State.reset = .next State.reset := rfl
theorem witness_core_memory :
    memKindAt 0x20000000 ≠ none ∧ memKindAt 0x20000003 = memKindAt 0x20000000 ∧ memKindAt 0x20800000 ≠ memKindAt 0x207FFFFF
      ∧ service.mayStore .scarab 0x20000000 4 = true ∧ service.mayStore .app 0x20000000 4 = false ∧ service.mayStore .app 0x40000000 4 = false
      ∧ service.coreWaits 0x80000000 4 = false ∧ (put [(CLK_STATUS.MB_QUAL, 0, 0)] service).coreWaits 0x80000000 4 = true
      ∧ service.coreWaits 0x20000000 4 = false ∧ service.errLog.length < 16 ∧ inDram 0x80000000 1 = true := by decide
theorem test_core_store : (after (.registerWrite .scarab 0x20000000 aWord 0x01000007) service).mem = [(0x20000000, 7), (0x20000003, 1)] := by
  decide
theorem test_core_store_barred : (after (.registerWrite .app 0x20000000 aWord 7) service).rd SYS_ACC_ERR0.TYPE = 3 := by decide
theorem test_core_load : (after (.registerRead .app 0x40000000 aWord) bankSet).out = [.readData 0x34333231] := by decide
theorem test_core_load_damaged :
    (after (.registerRead .app 0x80000000 ⟨4, 0, .damaged⟩) service).out.head? = some .busError := by decide
theorem witness_locked : (proofAt 0x1F).itemEnded 5 = true ∧ reflectsLoaf SOP_CH_CFG.reg = true ∧ SOP_CH_CFG.reg.writable = false
    ∧ regAt (SOP_CH_CFG.reg.addr 0) = some (SOP_CH_CFG.reg, 0) := by decide
theorem test_locked_write :
    (after (.registerWrite .app (BitVec.ofNat 32 (SOP_CH_CFG.reg.addr 0)) aWord 1) (proofAt 0x1F)).rd SYS_ACC_ERR0.TYPE = AccErr.locked.code := by
  decide
theorem test_q_set_clips : (after (.setpointWrite false 0x7FFF0000) service).rdS GFE_SET0.Q_SET = 12000
    ∧ (after (.setpointWrite false 0x7FFF0000) service).flag GFE_SET1.SET_CLIP = true := by decide

end Sys2Proof.Tests
end

section
/-!
The output gates of R23 and the test path of R224: what each term says, and that a level driven on a gate has every term of the
gate or is a test step's while the channel's other gate is off.
-/
namespace Sys2Proof.Machine

/-! ### The terms of a gate -/

theorem modeTerm_eq_true_iff (s : State) :
    s.modeTerm = true ↔ s.mode = .service ∧ s.modes.raised = [] ∧ s.modes.toRecovery = false := by
  simp [State.modeTerm, and_assoc]

theorem gateCommand_eq_true_iff (s : State) (o : Nat) :
    s.gateCommand o = true
      ↔ bit s.outputs.commands o = true ∧ (s.flag SOP_CH_CFG.GENERAL o = true ∨ s.outSectionClear o = true) := by
  simp [State.gateCommand]

theorem chanUsed_eq_true_iff (s : State) (o : Nat) :
    s.chanUsed o = true ↔ s.flag SOP_CH_CFG.USED o = true ∧ (s.chan o).barred = false := by
  simp [State.chanUsed]

theorem baseTerm_eq_true_iff (s : State) (o : Nat) :
    s.baseTerm o = true ↔ s.chanUsed o = true ∧ s.gateCommand o = true ∧ s.joined = true ∧ s.modeTerm = true ∧ s.mdllA = true
      ∧ s.flag SOP_CH_STATE.LATCH o = false := by
  simp [State.baseTerm, and_assoc]

/-- A lock holds both gates off (R230). -/
theorem locked_eq_false_of_testTermH {s : State} {o : Nat} (h : s.testTermH o = true) : s.locked o = false := by
  obtain ⟨hlock, -⟩ := Bool.and_eq_true_iff.mp h
  simpa using hlock

theorem locked_eq_false_of_testTermL {s : State} {o : Nat} (h : s.testTermL o = true) : s.locked o = false := by
  obtain ⟨hlock, -⟩ := Bool.and_eq_true_iff.mp h
  simpa using hlock

/-- The terms of R23 that a gate's own definition groups are those that `GateTerms` lists. -/
theorem gateTerms_of_baseTerm {s : State} {o : Nat} (hbase : s.baseTerm o = true) (hlock : s.locked o = false) :
    GateTerms s o := by
  obtain ⟨hused, hcommand, hjoined, hmode, hclock, hlatch⟩ := (baseTerm_eq_true_iff s o).mp hbase
  obtain ⟨hservice, hraised, -⟩ := (modeTerm_eq_true_iff s).mp hmode
  obtain ⟨hbit, hsection⟩ := (gateCommand_eq_true_iff s o).mp hcommand
  obtain ⟨hdeclared, -⟩ := (chanUsed_eq_true_iff s o).mp hused
  exact ⟨hservice, hraised, hjoined, hclock, hdeclared, hbit, hlatch, hlock, hsection⟩

theorem gateTerms_of_gateH {s : State} {o : Nat} (h : s.gateH o = true) : GateTerms s o := by
  obtain ⟨hbase, htest⟩ := Bool.and_eq_true_iff.mp h
  exact gateTerms_of_baseTerm hbase (locked_eq_false_of_testTermH htest)

theorem gateTerms_of_gateL {s : State} {o : Nat} (h : s.gateL o = true) : GateTerms s o := by
  obtain ⟨hbase, htest⟩ := Bool.and_eq_true_iff.mp h
  exact gateTerms_of_baseTerm hbase (locked_eq_false_of_testTermL htest)

/-! ### The test path -/

theorem steps_eq_true_iff (s : State) (k i : OutTestKind) (o : Nat) :
    s.steps k i o = true ↔ (o < 72 ∧ s.chanUsed o = true) ∧ ((s.chan o).test = k ∨ (s.chan o).test = i) := by
  simp [State.steps]

/-- A channel is in one step at a time: the test path never drives both of its gates (R224). -/
theorem not_steps_both (s : State) (o : Nat) : ¬ (s.steps .stepH .itemH o = true ∧ s.steps .stepL .itemL o = true) := by
  rintro ⟨hhigh, hlow⟩
  obtain ⟨-, hkindH⟩ := (steps_eq_true_iff s _ _ o).mp hhigh
  obtain ⟨-, hkindL⟩ := (steps_eq_true_iff s _ _ o).mp hlow
  rcases hkindH with hkind | hkind <;> simp [hkind] at hkindL

/-! ### The levels driven -/

theorem soh_eq_true_iff (s : State) (o : Nat) :
    s.soh o = true ↔ s.gateH o = true ∨ (s.steps .stepH .itemH o = true ∧ s.gateL o = false) := by
  simp [State.soh]

theorem sol_eq_true_iff (s : State) (o : Nat) :
    s.sol o = true ↔ s.gateL o = true ∨ (s.steps .stepL .itemL o = true ∧ s.gateH o = false) := by
  simp [State.sol]

/-- While a step drives the high side and the low side's own gate is off, nothing drives the low side. -/
theorem sol_eq_false_of_stepsH {s : State} {o : Nat} (hstep : s.steps .stepH .itemH o = true) (hgate : s.gateL o = false) :
    s.sol o = false := by
  rw [Bool.eq_false_iff, ne_eq, sol_eq_true_iff]
  rintro (hon | ⟨hlow, -⟩)
  · exact absurd hon (Bool.eq_false_iff.mp hgate)
  · exact not_steps_both s o ⟨hstep, hlow⟩

/-- While a step drives the low side and the high side's own gate is off, nothing drives the high side. -/
theorem soh_eq_false_of_stepsL {s : State} {o : Nat} (hstep : s.steps .stepL .itemL o = true) (hgate : s.gateH o = false) :
    s.soh o = false := by
  rw [Bool.eq_false_iff, ne_eq, soh_eq_true_iff]
  rintro (hon | ⟨hhigh, -⟩)
  · exact absurd hon (Bool.eq_false_iff.mp hgate)
  · exact not_steps_both s o ⟨hhigh, hstep⟩

theorem soh_has_terms_or_steps_alone {s : State} {o : Nat} (h : s.soh o = true) :
    GateTerms s o ∨ (s.steps .stepH .itemH o = true ∧ s.sol o = false) := by
  rcases (soh_eq_true_iff s o).mp h with hgate | ⟨hstep, hother⟩
  · exact .inl (gateTerms_of_gateH hgate)
  · exact .inr ⟨hstep, sol_eq_false_of_stepsH hstep hother⟩

theorem sol_has_terms_or_steps_alone {s : State} {o : Nat} (h : s.sol o = true) :
    GateTerms s o ∨ (s.steps .stepL .itemL o = true ∧ s.soh o = false) := by
  rcases (sol_eq_true_iff s o).mp h with hgate | ⟨hstep, hother⟩
  · exact .inl (gateTerms_of_gateL hgate)
  · exact .inr ⟨hstep, soh_eq_false_of_stepsL hstep hother⟩

end Sys2Proof.Machine

section
open Sys2Proof.Machine

/-- Settles O9, gate by gate: a driven level comes from the gate's own terms or from the one step that the channel is in. -/
theorem gatesNeedEveryTerm : Obligations.GatesNeedEveryTerm := by
  intro s o
  exact ⟨soh_has_terms_or_steps_alone, sol_has_terms_or_steps_alone⟩

end
end

section
/-!
A cause raised in Hold (R47, R75): which register cells hold the mode and the cause records, which operations leave them, and
that raising a cause in Hold writes `SYS_CAUSE_LAST` and `SYS_CAUSE_SET` and leaves the Hold cause record.
-/
namespace Sys2Proof.Machine

/-! ### The cells of the mode and the cause registers -/

/-- Where the cells of `SYS_MODE`, `SYS_CAUSE_HOLD`, `SYS_CAUSE_LAST` and `SYS_CAUSE_SET` end (R75). -/
def causeEnd : Nat := 0x48 * 32

/-- Between two states every cell of the mode and the cause registers is the same. -/
def SameCauseCells (s t : State) : Prop := ∀ k, k < causeEnd → lookup t.regs k = lookup s.regs k

theorem SameCauseCells.trans {s t u : State} (h : SameCauseCells s t) (h' : SameCauseCells t u) : SameCauseCells s u :=
  fun k hk => (h' k hk).trans (h k hk)

theorem SameCauseCells.rd {s t : State} (h : SameCauseCells s t) {f : Fld} {i : Nat} (hf : f.key i < causeEnd) :
    t.rd f i = s.rd f i := by
  rw [State.rd, State.rd, h _ hf]

/-- The mode is read from the cell that the laws about what an operation keeps speak of. -/
theorem mode_eq_of_cell {s t : State} (h : lookup t.regs 128 = lookup s.regs 128) : t.mode = s.mode := by
  have hkey : SYS_MODE.CUR.key 0 = 128 := by decide
  rw [State.mode, State.mode, State.rd, State.rd, hkey, h]

theorem SameCauseCells.mode {s t : State} (h : SameCauseCells s t) : t.mode = s.mode := mode_eq_of_cell (h 128 (by decide))

section
variable {k : Nat} (hk : k < causeEnd)
include hk

@[simp] theorem wr_causeCell (s : State) (f : Fld) (v i : Nat) (h : causeEnd ≤ f.base * 32) :
    lookup (s.wr f v i).regs k = lookup s.regs k := by
  refine lookup_insert_ne _ _ ?_
  simp only [Fld.key, Fld.addr]
  omega

@[simp] theorem wrFlag_causeCell (s : State) (f : Fld) (b : Bool) (i : Nat) (h : causeEnd ≤ f.base * 32) :
    lookup (s.wrFlag f b i).regs k = lookup s.regs k := wr_causeCell hk _ _ _ _ h

@[simp] theorem inc_causeCell (s : State) (f : Fld) (i : Nat) (h : causeEnd ≤ f.base * 32) :
    lookup (s.inc f i).regs k = lookup s.regs k := wr_causeCell hk _ _ _ _ h

@[simp] theorem count_causeCell (s : State) (f : Fld) (i n : Nat) (h : causeEnd ≤ f.base * 32) :
    lookup (s.count f i n).regs k = lookup s.regs k := wr_causeCell hk _ _ _ _ h

@[simp] theorem wrTime_causeCell (s : State) (f0 f1 f2 : Fld) (t i : Nat) (h0 : causeEnd ≤ f0.base * 32)
    (h1 : causeEnd ≤ f1.base * 32) (h2 : causeEnd ≤ f2.base * 32) :
    lookup (s.wrTime f0 f1 f2 t i).regs k = lookup s.regs k :=
  ((wr_causeCell hk _ _ _ _ h2).trans (wr_causeCell hk _ _ _ _ h1)).trans (wr_causeCell hk _ _ _ _ h0)

omit hk in
@[simp] theorem when_cell (s : State) (b : Bool) (g : State → State) :
    lookup (s.when b g).regs k = if b then lookup (g s).regs k else lookup s.regs k := by cases b <;> rfl

omit hk in
@[simp] theorem upTo_cell (s : State) (g : Nat → State → State) (n : Nat)
    (h : ∀ i t, lookup (g i t).regs k = lookup t.regs k) : lookup (s.upTo g n).regs k = lookup s.regs k := by
  induction n with
  | zero => rfl
  | succ n ih => rw [State.upTo, h, ih]

omit hk in
@[simp] theorem sendMsix_cell (v : Nat) (s : State) : lookup (sendMsix v s).regs k = lookup s.regs k := by
  simp [sendMsix]

@[simp] theorem irq_causeCell (v : Nat) (s : State) : lookup (irq v s).regs k = lookup s.regs k := by
  unfold irq
  dsimp only
  split <;> simp +decide [hk]

/-! ### Operations that leave them -/

omit hk in
@[simp] theorem noteGates_cell (o : Nat) (s : State) : lookup (noteGates o s).regs k = lookup s.regs k := by
  simp [noteGates, noteGatesAt, State.modChan]

@[simp] theorem outTestFinish_causeCell (o kind result : Nat) (next : OutTestKind) (s : State) :
    lookup (outTestFinish o kind result next s).regs k = lookup s.regs k := by
  simp +decide [outTestFinish, State.modChan, hk]

omit hk in
@[simp] theorem deferSplitTest_cell (o : Nat) (s : State) : lookup (deferSplitTest o s).regs k = lookup s.regs k := by
  unfold deferSplitTest
  split <;> rfl

@[simp] theorem outTestAbandon_causeCell (demand : Bool) (o : Nat) (s : State) :
    lookup (outTestAbandon demand o s).regs k = lookup s.regs k := by
  unfold outTestAbandon
  repeat' split
  all_goals simp +decide [State.modChan, hk]

@[simp] theorem recTrigger_causeCell (s : State) : lookup (recTrigger s).regs k = lookup s.regs k := by
  unfold recTrigger recPost recFreeze
  repeat' split
  all_goals simp +decide [hk]

@[simp] theorem snapLatch_causeCell (src code block : Nat) (merged : Bool) (s : State) :
    lookup (snapLatch src code block merged s).regs k = lookup s.regs k := by
  simp +decide [snapLatch, hk]

@[simp] theorem snapMissed_causeCell (src : Nat) (s : State) : lookup (snapMissed src s).regs k = lookup s.regs k := by
  simp +decide [snapMissed, hk]

@[simp] theorem snapMerge_causeCell (first src code block : Nat) (s : State) :
    lookup (snapMerge first src code block s).regs k = lookup s.regs k := by
  simp +decide [snapMerge, hk]

end

theorem abandonAllTests_sameCauseCells (s : State) : SameCauseCells s (abandonAllTests s) :=
  fun _ hk => upTo_cell _ _ _ (outTestAbandon_causeCell hk false)

theorem crumb_sameCauseCells (src code block : Nat) (s : State) : SameCauseCells s (crumb src code block s) := by
  intro k hk
  unfold crumb
  dsimp only
  repeat' split
  all_goals simp [hk]

theorem noteInHold_sameCauseCells (s : State) : SameCauseCells s (noteInHold s) := fun _ _ => rfl

theorem logMemError_sameCauseCells (mem kind req syms addr : Nat) (s : State) :
    SameCauseCells s (logMemError mem kind req syms addr s) := by
  intro k hk
  unfold logMemError
  dsimp only
  split <;> simp +decide [hk]

@[simp] theorem irq_modes (v : Nat) (s : State) : (irq v s).modes = s.modes := by
  unfold irq sendMsix State.when
  dsimp only
  repeat' split
  all_goals simp

@[simp] theorem logMemError_modes (mem kind req syms addr : Nat) (s : State) :
    (logMemError mem kind req syms addr s).modes = s.modes := by
  unfold logMemError
  dsimp only
  split <;> simp [count_eq_wr]

/-! ### What recording a cause writes -/

/-- A bit set is read as set, also where the word is cut above it. -/
theorem bit_setBit_mod {v i w : Nat} (h : i < w) : bit (setBit v i true % 2 ^ w) i = true := by
  have bit_eq : ∀ u, bit u i = u.testBit i := fun u => Nat.testBit_eq_decide_div_mod_eq.symm
  rw [bit_eq, Nat.testBit_mod_two_pow, setBit, bit_eq]
  cases hv : v.testBit i with
  | true => simp [h, hv]
  | false => simp [h, hv, Nat.add_comm v, Nat.testBit_two_pow_add_eq]

theorem Mode.code_lt (m : Mode) : m.code < 2 ^ 3 := by cases m <;> decide

theorem setCauseBit_mode (code : Nat) (s : State) : (setCauseBit code s).mode = s.mode :=
  mode_eq_of_cell (setCauseBit_keeps code s).2.2

theorem rd_setCauseBit_below {f : Fld} {i : Nat} (code : Nat) (s : State) (h : f.key i < SYS_CAUSE_SET.SET.key 0) :
    (setCauseBit code s).rd f i = s.rd f i := by
  refine rd_wr_ne _ _ (Nat.ne_of_gt (Nat.lt_of_lt_of_le h ?_))
  simp only [Fld.key, Fld.addr, SYS_CAUSE_SET.SET]
  omega

theorem bit_setCauseBit (code : Nat) (s : State) :
    bit ((setCauseBit code s).rd SYS_CAUSE_SET.SET (code / 32)) (code % 32) = true := by
  rw [setCauseBit, rd_wr_same]
  exact bit_setBit_mod (Nat.mod_lt _ (by decide))

/-- The words of `SYS_CAUSE_LAST` stand between those of the Hold cause record and `SYS_CAUSE_SET`. -/
theorem rd_writeLast_outside {f : Fld} {i : Nat} (c : Cause) (s : State)
    (h : f.key i < SYS_CAUSE_LAST0.CODE.key 0 ∨ SYS_CAUSE_SET.SET.key 0 ≤ f.key i) :
    (writeLast c s).rd f i = s.rd f i := by
  have hbelow : SYS_CAUSE_LAST0.CODE.key 0 = 1536 := by decide
  have habove : SYS_CAUSE_SET.SET.key 0 = 2048 := by decide
  rw [hbelow, habove] at h
  have rd_wr_last : ∀ (t : State) (g : Fld) (v : Nat), 1536 ≤ g.key 0 → g.key 0 < 2048 → (t.wr g v).rd f i = t.rd f i :=
    fun t g v hlo hhi => rd_wr_ne t v (by omega)
  simp (disch := decide) only [writeLast, writeCauseRecord, State.wrTime, wrFlag_eq_wr, rd_wr_last]

theorem writeLast_fields {c : Cause} (s : State) (hcode : c.code < 64) (hblock : c.block < 256) (hindex : c.index < 256) :
    (writeLast c s).rd SYS_CAUSE_LAST0.VALID = 1 ∧ (writeLast c s).rd SYS_CAUSE_LAST0.CODE = c.code
      ∧ (writeLast c s).rd SYS_CAUSE_LAST0.BLOCK = c.block ∧ (writeLast c s).rd SYS_CAUSE_LAST0.INDEX = c.index
      ∧ (writeLast c s).rd SYS_CAUSE_LAST0.MODE = s.mode.code := by
  have hmode := s.mode.code_lt
  simp (disch := decide) only [writeLast, writeCauseRecord, State.wrTime, wrFlag_eq_wr, rd_wr_same, rd_wr_ne]
  refine ⟨by decide, Nat.mod_eq_of_lt ?_, Nat.mod_eq_of_lt hblock, Nat.mod_eq_of_lt hindex, Nat.mod_eq_of_lt hmode⟩
  exact Nat.lt_trans hcode (by decide)

/-! ### A cause raised in Hold -/

/-- A cause is recorded between two states, the second is in Hold, and the Hold cause record is the same in both (R47). -/
def RecordedInHold (c : Cause) (s t : State) : Prop :=
  CauseRecorded c s t ∧ t.mode = .hold ∧ ∀ f ∈ holdRecord, t.rd f = s.rd f

theorem holdRecord_below {f : Fld} (hf : f ∈ holdRecord) : f.key 0 < SYS_CAUSE_LAST0.CODE.key 0 := by
  have hall : ∀ g ∈ holdRecord, g.key 0 < SYS_CAUSE_LAST0.CODE.key 0 := by decide
  exact hall f hf

theorem holdRecord_lt_causeEnd {f : Fld} (hf : f ∈ holdRecord) : f.key 0 < causeEnd :=
  Nat.lt_trans (holdRecord_below hf) (by decide)

/-- What happens before a cause is recorded may change every cell but those of the mode and the causes. -/
theorem RecordedInHold.of_sameCauseCells {c : Cause} {s s' t : State} (hsame : SameCauseCells s s')
    (h : RecordedInHold c s' t) : RecordedInHold c s t := by
  obtain ⟨⟨hvalid, hcode, hblock, hindex, hmode, hset⟩, hhold, hrecord⟩ := h
  refine ⟨⟨hvalid, hcode, hblock, hindex, ?_, hset⟩, hhold, fun f hf => ?_⟩
  · rw [hmode, hsame.mode]
  · rw [hrecord f hf, hsame.rd (holdRecord_lt_causeEnd hf)]

/-- A cause record does not tell what leaves the device. -/
theorem RecordedInHold.emit {c : Cause} {s t : State} (h : RecordedInHold c s t) (o : Out) : RecordedInHold c s (t.emit o) := h

/-- The two writes of `recordCause` record the cause, and nothing that leaves their cells undoes it (R47, R75). -/
theorem recordedInHold_of_writes {c : Cause} {s t : State} (hhold : s.mode = .hold)
    (hcode : c.code < 64) (hblock : c.block < 256) (hindex : c.index < 256)
    (hsame : SameCauseCells (writeLast c (setCauseBit c.code s)) t) : RecordedInHold c s t := by
  obtain ⟨hvalid', hcode', hblock', hindex', hmode'⟩ := writeLast_fields (setCauseBit c.code s) hcode hblock hindex
  have hmode : t.mode = s.mode := by
    rw [hsame.mode, mode_eq_of_cell (writeLast_keeps ..).2.2, setCauseBit_mode]
  have hset : bit (t.rd SYS_CAUSE_SET.SET (c.code / 32)) (c.code % 32) = true := by
    have hkey : SYS_CAUSE_SET.SET.key 0 ≤ SYS_CAUSE_SET.SET.key (c.code / 32)
        ∧ SYS_CAUSE_SET.SET.key (c.code / 32) < causeEnd := by
      simp only [Fld.key, Fld.addr, SYS_CAUSE_SET.SET, causeEnd]
      omega
    rw [hsame.rd hkey.2, rd_writeLast_outside _ _ (.inr hkey.1)]
    exact bit_setCauseBit c.code s
  refine ⟨⟨?_, ?_, ?_, ?_, ?_, hset⟩, hmode.trans hhold, fun f hf => ?_⟩
  · rw [State.flag, hsame.rd (by decide), hvalid']; rfl
  · rw [hsame.rd (by decide), hcode']
  · rw [hsame.rd (by decide), hblock']
  · rw [hsame.rd (by decide), hindex']
  · rw [hsame.rd (by decide), hmode', setCauseBit_mode]
  · rw [hsame.rd (holdRecord_lt_causeEnd hf), rd_writeLast_outside _ _ (.inl (holdRecord_below hf)),
      rd_setCauseBit_below _ _ (Nat.lt_trans (holdRecord_below hf) (by decide))]

/-- Where the standing record gives way, a cause writes the cells of `SYS_CAUSE_LAST` and `SYS_CAUSE_SET` only. -/
theorem recordCause_sameCauseCells {c : Cause} {s : State} (hstands : s.lastStands c.code = false) :
    SameCauseCells (writeLast c (setCauseBit c.code s)) (recordCause c s) := by
  have hstands' : (setCauseBit c.code s).lastStands c.code = false := by
    rw [State.lastStands, setCauseBit, wr_modes, ← State.lastStands, hstands]
  rw [recordCause, hstands']
  exact fun _ _ => rfl

/-- In Hold a Hold cause is recorded only (R47): what follows leaves the cells of the mode and the causes. -/
theorem raiseHold_sameCauseCells {c : Cause} {s : State} (hhold : s.mode = .hold) :
    SameCauseCells (recordCause c s) (raiseHold c s) := by
  have habandon := abandonAllTests_sameCauseCells (recordCause c s)
  have hstill : (abandonAllTests (recordCause c s)).mode = .hold := by
    rw [habandon.mode, mode_eq_of_cell (recordCause_keeps ..).2.2, hhold]
  have hnote : SameCauseCells (abandonAllTests (recordCause c s)) (holdCause c s) := by
    rw [holdCause, if_pos hstill]
    exact noteInHold_sameCauseCells _
  rw [raiseHold, if_neg (by rw [hhold]; decide)]
  exact (habandon.trans hnote).trans (crumb_sameCauseCells _ _ _ _)

/-- A Hold cause raised in Hold is recorded and leaves the Hold cause record (R47). -/
theorem raiseHold_recordedInHold {c : Cause} {s : State} (hhold : s.mode = .hold) (hcode : c.code < 64) (hblock : c.block < 256)
    (hindex : c.index < 256) (hstands : s.lastStands c.code = false) : RecordedInHold c s (raiseHold c s) :=
  recordedInHold_of_writes hhold hcode hblock hindex
    ((recordCause_sameCauseCells hstands).trans (raiseHold_sameCauseCells hhold))

/-- The same where the cells of the mode and the causes and the mode control stood as they were in an earlier state. -/
theorem raiseHold_recordedInHold_since {c : Cause} {s s' : State} (hsame : SameCauseCells s s') (hmodes : s'.modes = s.modes)
    (hhold : s.mode = .hold) (hcode : c.code < 64) (hblock : c.block < 256) (hindex : c.index < 256)
    (hstands : s.lastStands c.code = false) : RecordedInHold c s (raiseHold c s') := by
  have hstands' : s'.lastStands c.code = false := by rw [State.lastStands, hmodes, ← State.lastStands, hstands]
  exact (raiseHold_recordedInHold (hsame.mode.trans hhold) hcode hblock hindex hstands').of_sameCauseCells hsame

/-! ### The commands that raise one -/

theorem exec_thermal (s : State) : exec .thermal s = .next (raiseHold ⟨8, 0, 0xFF⟩ s) := rfl

theorem uncorrectable_safety {a : Word} (ha : safetyAddr a = true) (logReq index : Nat) (s : State) :
    uncorrectable a.toNat logReq index s
      = raiseHold ⟨6, 0x0E, index⟩ (logMemError 2 2 logReq 0 a.toNat (s.count DMA_SRAM_ECC.UE_SAFE)) := by
  simp only [safetyAddr, Bool.and_eq_true, decide_eq_true_eq] at ha
  have hflash : inFlash a.toNat 1 = false := by simp [inFlash]; omega
  have hdram : inDram a.toNat 1 = false := by simp [inDram]; omega
  have hsafety : inSafety a.toNat 1 = true := by simp [inSafety]; omega
  simp [uncorrectable, hflash, hdram, hsafety]

theorem exec_sramUncorr {a : Word} (hwf : (Instr.sramUncorr a).wf = true) (s : State) :
    exec (.sramUncorr a) s = .next ((raiseHold ⟨6, 0x0E, 0xFF⟩
      (logMemError 2 2 logReqScarab 0 a.toNat (s.count DMA_SRAM_ECC.UE_SAFE))).emit .busError) := by
  have hmeaning : exec (.sramUncorr a) s = checked (.sramUncorr a) (coreUncorrectable a.toNat s) := rfl
  rw [hmeaning, checked, if_pos hwf, coreUncorrectable, uncorrectable_safety hwf]

/-- A gating of MDLL-A in Hold, longer than 10 ms, whose cause has not been raised yet (R65). -/
theorem exec_clkALoss_in_hold {s : State} (hhold : s.mode = .hold) (hdue : (s.clk.gatedA && !s.clk.lossRaised) = true) :
    exec .clkALoss s = .next (raiseHold causeClkA (s.modClk (fun c => { c with lossRaised := true }))) := by
  have hmeaning : exec .clkALoss s = .next (clkALoss s) := rfl
  have hcounts : s.gateCounts = true := by rw [State.gateCounts, hhold]; rfl
  rw [hmeaning, clkALoss, hdue, hcounts]
  rfl

theorem thermal_recordedInHold {s : State} (hhold : s.mode = .hold) (hstands : s.lastStands 8 = false) :
    ∃ t, exec .thermal s = .next t ∧ RecordedInHold ⟨8, 0, 0xFF⟩ s t :=
  ⟨_, exec_thermal s, raiseHold_recordedInHold hhold (by decide) (by decide) (by decide) hstands⟩

theorem sramUncorr_recordedInHold {a : Word} {s : State} (hhold : s.mode = .hold) (hwf : (Instr.sramUncorr a).wf = true)
    (hstands : s.lastStands 6 = false) : ∃ t, exec (.sramUncorr a) s = .next t ∧ RecordedInHold ⟨6, 0x0E, 0xFF⟩ s t := by
  have hcounted : SameCauseCells s (s.count DMA_SRAM_ECC.UE_SAFE) := fun _ hk => count_causeCell hk _ _ _ _ (by decide)
  have hsame := hcounted.trans (logMemError_sameCauseCells 2 2 logReqScarab 0 a.toNat _)
  have hraised := raiseHold_recordedInHold_since (c := ⟨6, 0x0E, 0xFF⟩) hsame (by rw [logMemError_modes, count_eq_wr, wr_modes])
    hhold (by decide) (by decide) (by decide) hstands
  exact ⟨_, exec_sramUncorr hwf s, hraised.emit .busError⟩

theorem clkALoss_recordedInHold {s : State} (hhold : s.mode = .hold)
    (hdue : (s.clk.gatedA && !s.clk.lossRaised) = true) (hstands : s.lastStands 7 = false) :
    ∃ t, exec .clkALoss s = .next t ∧ RecordedInHold ⟨7, 1, 0xFF⟩ s t := by
  have hsame : SameCauseCells s (s.modClk (fun c => { c with lossRaised := true })) := fun _ _ => rfl
  exact ⟨_, exec_clkALoss_in_hold hhold hdue,
    raiseHold_recordedInHold_since (c := causeClkA) hsame rfl hhold (by decide) (by decide) (by decide) hstands⟩

end Sys2Proof.Machine

section
open Sys2Proof Sys2Proof.Machine

/-- Settles O58: in Hold, raising a cause writes the cells of `SYS_CAUSE_LAST` and `SYS_CAUSE_SET` and no others of the cause registers;
each of the three commands raises its cause after changes to other cells only. -/
theorem holdKeepsItsCause : Obligations.HoldKeepsItsCause := by
  intro s hhold
  refine ⟨fun c hcode hblock hindex hstands => raiseHold_recordedInHold hhold hcode hblock hindex hstands, fun a p hp => ?_⟩
  simp only [List.mem_cons, List.not_mem_nil, or_false] at hp
  rcases hp with rfl | rfl | rfl
  · exact fun _ hstands => thermal_recordedInHold hhold hstands
  · exact fun hwf hstands => sramUncorr_recordedInHold hhold hwf hstands
  · exact fun hdue hstands => clkALoss_recordedInHold hhold hdue hstands

end
end

section
/-!
The first running value of a scan (R262): what a GO that is accepted and one that is refused do to the bank's RUN register, its
scan and its status.
-/
namespace Sys2Proof.Machine

/-! ### A bank's registers and its scan record -/

/-- Two fields of one array's entry stand in different cells wherever those of the first entry do. -/
theorem rd_wr_entry_ne (s : State) {f g : Fld} (v i : Nat) (hstride : f.stride = g.stride) (hinner : f.inner = g.inner)
    (histride : f.istride = g.istride) (hcell : f.base * 32 + f.lo ≠ g.base * 32 + g.lo) : (s.wr f v i).rd g i = s.rd g i := by
  refine rd_wr_ne s v ?_
  simp only [Fld.key, Fld.addr, hstride, hinner, histride]
  omega

@[simp] theorem rd_modScan (s : State) (b : Nat) (h : Scan → Scan) (f : Fld) (i : Nat) : (s.modScan b h).rd f i = s.rd f i := rfl
@[simp] theorem rd_emit (s : State) (o : Out) (f : Fld) (i : Nat) : (s.emit o).rd f i = s.rd f i := rfl
@[simp] theorem rd_nextFree (s : State) (f : Fld) (i : Nat) : s.nextFree.rd f i = s.rd f i := rfl

@[simp] theorem scan_wr (s : State) (f : Fld) (v i b : Nat) : (s.wr f v i).scan b = s.scan b := rfl
@[simp] theorem scan_emit (s : State) (o : Out) (b : Nat) : (s.emit o).scan b = s.scan b := rfl
@[simp] theorem scan_nextFree (s : State) (b : Nat) : s.nextFree.scan b = s.scan b := rfl
@[simp] theorem scan_modScan_same (s : State) (b : Nat) (h : Scan → Scan) : (s.modScan b h).scan b = h (s.scan b) := tget_tmod_same ..
theorem scan_modScan_ne (s : State) {b c : Nat} (h : Scan → Scan) (hne : b ≠ c) : (s.modScan b h).scan c = s.scan c :=
  tget_tmod_ne _ h hne

/-! ### Bank A made to wait (R264) -/

/-- Of the registers, the bytes that a bank enters change its RUN and its DONE only. -/
theorem rd_enterBytes_ne (s : State) {b i : Nat} {f : Fld} (n : Nat)
    (hrun : CHK_x_RUN.RUN.key b ≠ f.key i) (hdone : CHK_x_DONE.DONE.key b ≠ f.key i) :
    (enterBytes b n s).rd f i = s.rd f i := by
  simp [enterBytes, rd_wr_ne _ _ hrun, rd_wr_ne _ _ hdone]

theorem scan_enterBytes_ne (s : State) {b c : Nat} (n : Nat) (hne : b ≠ c) : (enterBytes b n s).scan c = s.scan c := by
  simp [enterBytes, scan_modScan_ne _ _ hne]

theorem rd_suspendA_ne (s : State) {f : Fld} {i : Nat}
    (hrun : CHK_x_RUN.RUN.key 1 ≠ f.key i) (hdone : CHK_x_DONE.DONE.key 1 ≠ f.key i) : (suspendA s).rd f i = s.rd f i := by
  simp only [suspendA, scanOn, rd_modScan]
  split
  · rw [rd_nextFree, rd_enterBytes_ne _ _ hrun hdone]
  · rfl

theorem scan_suspendA_zero (s : State) : (suspendA s).scan 0 = s.scan 0 := by
  simp only [suspendA, scanOn, scan_modScan_ne _ _ Nat.one_ne_zero]
  split
  · rw [scan_nextFree, scan_enterBytes_ne _ _ Nat.one_ne_zero]
  · rfl

/-! ### A scan that begins -/

/-- What the start of a bank S scan does to bank A leaves bank S. -/
theorem scan_when_suspendA (s : State) (b : Nat) : (s.when (decide (b = 0)) suspendA).scan b = s.scan b := by
  by_cases hb : b = 0
  · subst hb; exact scan_suspendA_zero s
  · simp [State.when, hb]

theorem rd_run_when_suspendA (s : State) (b : Nat) :
    (s.when (decide (b = 0)) suspendA).rd CHK_x_RUN.RUN b = s.rd CHK_x_RUN.RUN b := by
  by_cases hb : b = 0
  · subst hb; exact rd_suspendA_ne s (by decide) (by decide)
  · simp [State.when, hb]

section
variable (b : Nat) (kind : ScanKind) (addr len tag : Nat) (queue : List ScanRange) (s : State)

theorem scanBegin_running : ((scanBegin b kind addr len tag queue s).scan b).running = true := by
  simp [scanBegin, scan_when_suspendA]

theorem rd_run_scanBegin : (scanBegin b kind addr len tag queue s).rd CHK_x_RUN.RUN b = s.rd CHK_x_RUN.RUN b := by
  simp (disch := decide) only [scanBegin, rd_run_when_suspendA, rd_modScan, wrFlag_eq_wr, rd_wr_entry_ne]

end

/-! ### A completion, and a GO that is refused -/

section
variable (b status ack tag susp : Nat) (delayed : Bool) (s : State)

theorem chkCommit_running : ((chkCommit b status ack tag susp delayed s).scan b).running = (s.scan b).running := by
  simp [chkCommit, State.outcome, inc_eq_wr, wrFlag_eq_wr]

theorem rd_run_chkCommit : (chkCommit b status ack tag susp delayed s).rd CHK_x_RUN.RUN b = s.rd CHK_x_RUN.RUN b := by
  simp (disch := decide) only [chkCommit, State.outcome, inc_eq_wr, wrFlag_eq_wr, rd_emit, rd_modScan, rd_wr_entry_ne]

theorem rd_status_chkCommit : (chkCommit b status ack tag susp delayed s).rd CHK_x_RESULT.STATUS b = status % 2 ^ 4 := by
  simp (disch := decide) only [chkCommit, wrFlag_eq_wr, rd_emit, rd_modScan, rd_wr_entry_ne, rd_wr_same]
  rfl

theorem chkRefuse_running : ((chkRefuse b tag s).scan b).running = (s.scan b).running := by
  simp [chkRefuse, chkCommit_running]

theorem rd_run_chkRefuse : (chkRefuse b tag s).rd CHK_x_RUN.RUN b = s.rd CHK_x_RUN.RUN b := by
  simp (disch := decide) only [chkRefuse, rd_run_chkCommit, rd_wr_entry_ne]

theorem rd_status_chkRefuse : (chkRefuse b tag s).rd CHK_x_RESULT.STATUS b = chkRefused := rd_status_chkCommit ..

end

/-! ### GO (R261, R262) -/

theorem running_eq_false_of_scanBusy {s : State} {b : Nat} (h : s.scanBusy b = false) : (s.scan b).running = false := by
  by_cases hb : b = 0
  · subst hb
    exact (Bool.or_eq_false_iff.mp h).1
  · rw [State.scanBusy, if_neg hb] at h
    exact (Bool.or_eq_false_iff.mp h).1

theorem exec_chkGo {s : State} {b : Fin 2} (hpair : b = 0 → s.joined = true) (tag : BitVec 16) (start : BitVec 2) :
    exec (.chkGo b tag start) s = .next (chkGo b tag.toNat start.toNat s) := by
  have hmeaning : exec (.chkGo b tag start) s = .next (bankWrite b (chkGo b tag.toNat start.toNat) s) := rfl
  rw [hmeaning, bankWrite]
  split
  next hb => rw [pairWrites, if_pos (hpair (Fin.ext hb))]
  next => rfl

theorem chkGo_refused {s : State} {b start : Nat} (hidle : s.scanBusy b = false) (hstart : 2 ≤ start) (tag : Nat) :
    chkGo b tag start s = chkRefuse b tag s := by
  simp [chkGo, hidle, hstart]

section
variable {s : State} {b : Nat} (hidle : s.scanBusy b = false)
  (hrange : chkRangeOk b (s.rd CHK_x_ADDR.ADDR b) (s.rd CHK_x_LEN.LEN b) = true) (hlen : s.rd CHK_x_LEN.LEN b ≠ 0) (tag : Nat)
include hidle hrange hlen

theorem chkGo_loads : chkGo b tag 0 s
    = scanBegin b .plain (s.rd CHK_x_ADDR.ADDR b) (s.rd CHK_x_LEN.LEN b) tag [] (s.wr CHK_x_RUN.RUN 0xFFFFFFFF b) := by
  simp [chkGo, hidle, hrange, hlen, State.when]

theorem chkGo_continues : chkGo b tag 1 s
    = scanBegin b .plain (s.rd CHK_x_ADDR.ADDR b) (s.rd CHK_x_LEN.LEN b) tag [] s := by
  simp [chkGo, hidle, hrange, hlen, State.when]

end

end Sys2Proof.Machine

section
open Sys2Proof Sys2Proof.Machine

/-- Settles O59, by the value of START: 0 writes RUN and begins the scan, 1 begins it, 2 and 3 are refused; neither the scan's start nor
the refusal writes the bank's RUN. -/
theorem startSelectsTheSeed : Obligations.StartSelectsTheSeed := by
  intro s b tag start hpair hidle hrange hlen
  refine ⟨_, exec_chkGo hpair tag start, ?_, ?_, fun hstart => ?_⟩
  · rintro rfl
    have hzero : (0 : BitVec 2).toNat = 0 := rfl
    rw [hzero, chkGo_loads hidle hrange hlen, rd_run_scanBegin, rd_wr_same]
    exact ⟨scanBegin_running .., rfl⟩
  · rintro rfl
    have hone : (1 : BitVec 2).toNat = 1 := rfl
    rw [hone, chkGo_continues hidle hrange hlen]
    exact ⟨scanBegin_running .., rd_run_scanBegin ..⟩
  · have htwo : 2 ≤ start.toNat := by rcases hstart with rfl | rfl <;> decide
    rw [chkGo_refused hidle htwo, chkRefuse_running]
    exact ⟨running_eq_false_of_scanBusy hidle, rd_status_chkRefuse .., rd_run_chkRefuse ..⟩

end
end

section
/-!
Device memory: writes of as many bytes that differ at one place, and the first of the bytes written read back.
-/
namespace Sys2Proof.Machine

/-! ### A memory without one address -/

/-- A memory without what it lists at an address. -/
def Mem.without (m : Mem) (a : Nat) : Mem := m.filter (fun c => !decide (c.1 = a))

@[simp] theorem Mem.without_nil (a : Nat) : Mem.without [] a = [] := rfl

@[simp] theorem Mem.without_cons (k : Nat) (w : BitVec 8) (m : Mem) (a : Nat) :
    Mem.without ((k, w) :: m) a = if k = a then m.without a else (k, w) :: m.without a := by
  by_cases h : k = a <;> simp [Mem.without, h]

theorem Mem.read_without (m : Mem) {a b : Nat} (h : b ≠ a) : (m.without a).read b = m.read b := by
  induction m with
  | nil => rfl
  | cons c m ih =>
    obtain ⟨k, w⟩ := c
    by_cases hk : k = a
    · simp [Mem.read, hk, h.symm, ih]
    · simp [Mem.read, hk, ih]

theorem Mem.without_write_same (m : Mem) (a : Nat) (v : BitVec 8) : (m.write a v).without a = m.without a := by
  induction m with
  | nil => by_cases hv : v = memDefault a <;> simp [Mem.write, hv]
  | cons c m ih =>
    obtain ⟨k, w⟩ := c
    by_cases hk : k = a
    · by_cases hv : v = memDefault a <;> simp [Mem.write, hk, hv]
    · by_cases hlt : a < k
      · by_cases hv : v = memDefault a <;> simp [Mem.write, hk, hlt, hv]
      · simp [Mem.write, hk, hlt, ih]

theorem Mem.without_write_above (m : Mem) {a b : Nat} (v : BitVec 8) (h : a < b) :
    (m.write b v).without a = (m.without a).write b v := by
  have hba : b ≠ a := Nat.ne_of_gt h
  induction m with
  | nil => by_cases hv : v = memDefault b <;> simp [Mem.write, hv, hba]
  | cons c m ih =>
    obtain ⟨k, w⟩ := c
    by_cases hka : k = a
    · subst hka
      simp [Mem.write, hba.symm, Nat.not_lt_of_gt h, ih]
    · by_cases hkb : k = b
      · by_cases hv : v = memDefault b <;> simp [Mem.write, hkb, hv, hba]
      · by_cases hlt : b < k
        · by_cases hv : v = memDefault b <;> simp [Mem.write, hka, hkb, hlt, hv, hba]
        · simp [Mem.write, hka, hkb, hlt, ih]

theorem Mem.without_writeBytes_above {m m' : Mem} {a b : Nat} (h : a < b) (bs : List Nat) (heq : m.without a = m'.without a) :
    (m.writeBytes b bs).without a = (m'.writeBytes b bs).without a := by
  induction bs generalizing m m' b with
  | nil => exact heq
  | cons x bs ih => exact ih (by omega) (by rw [Mem.without_write_above _ _ h, Mem.without_write_above _ _ h, heq])

/-! ### Bytes written -/

theorem Mem.writeBytes_append (m : Mem) (a : Nat) (bs cs : List Nat) :
    m.writeBytes a (bs ++ cs) = (m.writeBytes a bs).writeBytes (a + bs.length) cs := by
  induction bs generalizing m a with
  | nil => rfl
  | cons b bs ih => simp [Mem.writeBytes, ih, Nat.add_assoc, Nat.add_comm 1]

/-- Two writes that differ in one byte read the same at every other address, whatever the memory's form. -/
theorem Mem.read_writeBytes_differ_at (m : Mem) (a : Nat) (bs cs : List Nat) (x y : Nat) {b : Nat} (hb : b ≠ a + bs.length) :
    (m.writeBytes a (bs ++ x :: cs)).read b = (m.writeBytes a (bs ++ y :: cs)).read b := by
  rw [Mem.writeBytes_append, Mem.writeBytes_append]
  generalize m.writeBytes a bs = m'
  generalize a + bs.length = k at hb
  have hrest := Mem.without_writeBytes_above (Nat.lt_succ_self k) cs
    ((Mem.without_write_same m' k (BitVec.ofNat 8 x)).trans (Mem.without_write_same m' k (BitVec.ofNat 8 y)).symm)
  rw [Mem.writeBytes, Mem.writeBytes, ← Mem.read_without _ hb, hrest, Mem.read_without _ hb]

theorem Mem.readBytes_writeBytes {m : Mem} (h : m.wf = true) (a : Nat) (bs cs : List Nat) (hbs : ∀ b ∈ bs, b < 256) :
    (m.writeBytes a (bs ++ cs)).readBytes a bs.length = bs := by
  induction bs generalizing m a with
  | nil => rfl
  | cons b bs ih =>
    obtain ⟨hb, hbs⟩ := List.forall_mem_cons.mp hbs
    have hhead : ((m.write a (BitVec.ofNat 8 b)).writeBytes (a + 1) (bs ++ cs)).read a = BitVec.ofNat 8 b := by
      rw [Mem.read_writeBytes_out _ _ _ _ (.inl (Nat.lt_succ_self a)), Mem.read_write_same _ _ h]
    rw [List.cons_append, Mem.writeBytes, List.length_cons, Mem.readBytes, hhead, ih (Mem.wf_write _ _ h) _ hbs,
      BitVec.toNat_ofNat, Nat.mod_eq_of_lt hb]

theorem toBytesLE_lt (n v : Nat) : ∀ b ∈ toBytesLE n v, b < 256 := by
  induction n generalizing v with
  | zero => simp [toBytesLE]
  | succ n ih =>
    intro b hb
    rcases List.mem_cons.mp hb with rfl | hb
    · exact Nat.mod_lt _ (by decide)
    · exact ih _ b hb

theorem length_toBytesLE (n v : Nat) : (toBytesLE n v).length = n := by
  induction n generalizing v with
  | zero => rfl
  | succ n ih => rw [toBytesLE, List.length_cons, ih]

end Sys2Proof.Machine
end

section
/-!
The 16 bytes of a completion (R410): DELAY in bytes 8 to 11, PREEMPTED in byte 12 alone.
-/
namespace Sys2Proof.Machine

/-- A descriptor that reports a pre-emption, or none. -/
def Desc.marked (d : Desc) (p : Bool) : Desc := { d with preempted := p }

/-- The bytes of a completion before DELAY. -/
def completionHead (d : Desc) : List Nat := toBytesLE 2 d.tag ++ toBytesLE 2 d.seq ++ toBytesLE 4 d.done

/-- Byte 12 of a completion: the outcome and the flags. -/
def completionFlags (d : Desc) (outcome : Nat) (phase : Bool) : Nat :=
  outcome % 4 + 4 * b2n d.already + 8 * b2n d.resumed + 16 * b2n d.preempted + 32 * b2n d.corrected + 128 * b2n phase

theorem completionBytes_eq (d : Desc) (outcome reason : Nat) (phase : Bool) :
    completionBytes d outcome reason phase = completionHead d ++ (toBytesLE 4 (sat 32 d.delay)
      ++ (completionFlags d outcome phase :: reason :: toBytesLE 2 (sat 16 (d.pauseTicks / 50)))) := by
  simp [completionBytes, completionHead, completionFlags]

theorem length_completionHead (d : Desc) : (completionHead d).length = 8 := by simp [completionHead, length_toBytesLE]

theorem length_beforeFlags (d : Desc) : (completionHead d ++ toBytesLE 4 (sat 32 d.delay)).length = 12 := by
  rw [List.length_append, length_completionHead, length_toBytesLE]

theorem bit_completionFlags (d : Desc) (outcome : Nat) (phase : Bool) :
    bit (completionFlags d outcome phase % 256) 4 = d.preempted := by
  have hb2n : ∀ b : Bool, b2n b ≤ 1 := fun b => by cases b <;> decide
  have halready := hb2n d.already
  have hresumed := hb2n d.resumed
  rw [bit, completionFlags]
  generalize b2n d.already = x at *
  generalize b2n d.resumed = y at *
  cases d.preempted
  · simp only [b2n, decide_eq_false_iff_not, Bool.false_eq_true, if_false]
    omega
  · simp only [b2n, decide_eq_true_eq, if_true]
    omega

section
variable (m : Mem) (c : Nat) (d : Desc) (outcome reason : Nat) (phase : Bool)

theorem read_completionBytes_marked (p q : Bool) {a : Nat} (ha : a ≠ c + 12) :
    (m.writeBytes c (completionBytes (d.marked p) outcome reason phase)).read a
      = (m.writeBytes c (completionBytes (d.marked q) outcome reason phase)).read a := by
  rw [completionBytes_eq, completionBytes_eq, ← List.append_assoc, ← List.append_assoc]
  refine Mem.read_writeBytes_differ_at m c (completionHead d ++ toBytesLE 4 (sat 32 d.delay)) _ _ _ ?_
  rwa [length_beforeFlags]

theorem bit_preempted_completionBytes (h : m.wf = true) :
    bit ((m.writeBytes c (completionBytes d outcome reason phase)).read (c + 12)).toNat 4 = d.preempted := by
  have hlen := length_beforeFlags d
  rw [completionBytes_eq, ← List.append_assoc, Mem.read_writeBytes_in c _ h 12 (by simp [length_completionHead, length_toBytesLE]),
    List.getElem_append_right (Nat.le_of_eq hlen), BitVec.toNat_ofNat]
  simp only [hlen]
  exact bit_completionFlags ..

theorem readBytes_delay_completionBytes (h : m.wf = true) :
    (m.writeBytes c (completionBytes d outcome reason phase)).readBytes (c + 8) 4 = toBytesLE 4 (sat 32 d.delay) := by
  have hread := Mem.readBytes_writeBytes (Mem.wf_writeBytes c (completionHead d) h) (c + 8) (toBytesLE 4 (sat 32 d.delay))
    (completionFlags d outcome phase :: reason :: toBytesLE 2 (sat 16 (d.pauseTicks / 50))) (toBytesLE_lt 4 _)
  rw [length_toBytesLE] at hread
  rw [completionBytes_eq, Mem.writeBytes_append, length_completionHead, hread]

end

end Sys2Proof.Machine
end

section
/-!
Operations that look neither at the rings' records nor at device memory: they do the same with others in their place. So what a
descriptor in service reports does not show in the handling of the error that ends it (R400), nor in counters and interrupts.
-/
namespace Sys2Proof.Machine

/-- The state with another table of ring records and another device memory. -/
def State.withStore (s : State) (rings : Tab Ring) (mem : Mem) : State := { s with rings := rings, mem := mem }

@[simp] theorem snap_withStore (s : State) (R : Tab Ring) (M : Mem) : (s.withStore R M).snap = s.snap := rfl
@[simp] theorem modes_withStore (s : State) (R : Tab Ring) (M : Mem) : (s.withStore R M).modes = s.modes := rfl
@[simp] theorem chan_withStore (s : State) (R : Tab Ring) (M : Mem) (o : Nat) : (s.withStore R M).chan o = s.chan o := rfl

/-! ### Shapes of operations -/

section
variable {R : Tab Ring} {M : Mem}

theorem withStore_ite {c : Prop} [Decidable c] {a b a' b' : State} (ha : a.withStore R M = a') (hb : b.withStore R M = b') :
    (if c then a else b).withStore R M = if c then a' else b' := by
  split
  · exact ha
  · exact hb

theorem withStore_count {s t : State} (h : s.withStore R M = t) (f : Fld) (i n : Nat) :
    (s.count f i n).withStore R M = t.count f i n := by
  subst h
  rfl

theorem withStore_countWhen {s t : State} (h : s.withStore R M = t) (b : Bool) (f : Fld) (i : Nat) :
    (s.when b (fun s => s.count f i)).withStore R M = t.when b (fun s => s.count f i) :=
  withStore_ite (withStore_count h f i 1) h

theorem withStore_upTo (s : State) {g : Nat → State → State} (n : Nat)
    (h : ∀ i t, (g i t).withStore R M = g i (t.withStore R M)) : (s.upTo g n).withStore R M = (s.withStore R M).upTo g n := by
  induction n with
  | zero => rfl
  | succ n ih => rw [State.upTo, h, ih]; rfl

end

section
variable (s : State) (R : Tab Ring) (M : Mem)

/-! ### Interrupts and the memory-error log -/

theorem withStore_irq (v : Nat) : (irq v s).withStore R M = irq v (s.withStore R M) := withStore_ite (withStore_ite rfl rfl) rfl

theorem withStore_logMemError (mem kind req syms addr : Nat) :
    (logMemError mem kind req syms addr s).withStore R M = logMemError mem kind req syms addr (s.withStore R M) :=
  (withStore_irq _ R M 8).trans (congrArg (irq 8) (withStore_ite rfl rfl))

/-! ### Output tests -/

theorem withStore_outTestFinish (o kind result : Nat) (next : OutTestKind) :
    (outTestFinish o kind result next s).withStore R M = outTestFinish o kind result next (s.withStore R M) :=
  withStore_ite rfl rfl

theorem withStore_deferSplitTest (o : Nat) : (deferSplitTest o s).withStore R M = deferSplitTest o (s.withStore R M) :=
  withStore_ite rfl rfl

theorem withStore_outTestAbandon (demand : Bool) (o : Nat) :
    (outTestAbandon demand o s).withStore R M = outTestAbandon demand o (s.withStore R M) := by
  unfold outTestAbandon
  rw [chan_withStore]
  split
  case h_1 => rfl
  case h_2 => exact withStore_ite rfl rfl
  case h_8 =>
    rw [withStore_deferSplitTest, ← withStore_outTestFinish]
    rfl
  all_goals exact withStore_count (withStore_outTestFinish ..) ..

theorem withStore_abandonAllTests : (abandonAllTests s).withStore R M = abandonAllTests (s.withStore R M) :=
  withStore_upTo s 72 (fun o t => withStore_outTestAbandon t R M false o)

/-! ### What a register shows -/

theorem nextPosition_withStore (i n : Nat) : (s.withStore R M).nextPosition i n = s.nextPosition i n := by
  induction n generalizing i with
  | zero => rfl
  | succ n ih => rw [State.nextPosition, ih]; rfl

theorem firstFree_withStore (qs : List Nat) : (s.withStore R M).firstFree qs = s.firstFree qs := by
  induction qs with
  | nil => rfl
  | cons q qs ih => rw [State.firstFree, ih]; rfl

theorem testNext_withStore : (s.withStore R M).testNext = s.testNext := by
  simp only [State.testNext, State.orderNext, firstFree_withStore, nextPosition_withStore]
  rfl

theorem derivedHfe_withStore (f : Fld) (i : Nat) : (s.withStore R M).derivedHfe f i = s.derivedHfe f i := by
  rw [State.derivedHfe, testNext_withStore]
  rfl

theorem derived_withStore (f : Fld) (i : Nat) : (s.withStore R M).derived f i = s.derived f i := by
  unfold State.derived
  rw [derivedHfe_withStore]
  rfl

theorem fieldsWord_withStore (i : Nat) (fs : List Fld) : (s.withStore R M).fieldsWord i fs = s.fieldsWord i fs := by
  induction fs with
  | nil => rfl
  | cons f fs ih => rw [State.fieldsWord, ih, State.value, derived_withStore]; rfl

theorem regBytes_withStore (r : Reg) (i : Nat) : (s.withStore R M).regBytes r i = s.regBytes r i :=
  congrArg (toBytesLE 4) (fieldsWord_withStore ..)

/-! ### Crumb -/

theorem snapBody_withStore (header : List Nat) : (s.withStore R M).snapBody header = s.snapBody header := by
  have hhead : (s.withStore R M).headBytes = s.headBytes := by
    funext h
    simp only [State.headBytes, regBytes_withStore]
  simp only [State.snapBody, State.groupBytes, State.seqBytes, regBytes_withStore, hhead]

theorem withStore_recTrigger : (recTrigger s).withStore R M = recTrigger (s.withStore R M) :=
  withStore_ite (withStore_ite (withStore_ite rfl rfl) (withStore_ite rfl rfl)) rfl

theorem withStore_snapMissed (src : Nat) : (snapMissed src s).withStore R M = snapMissed src (s.withStore R M) := by
  refine (withStore_irq _ R M 1).trans (congrArg (irq 1) (withStore_count ?_ SNP_MISSED.COUNT 0 1))
  exact withStore_ite rfl rfl

theorem withStore_snapLatch (src code block : Nat) (merged : Bool) :
    (snapLatch src code block merged s).withStore R M = snapLatch src code block merged (s.withStore R M) := by
  unfold snapLatch
  dsimp only
  rw [withStore_irq, ← snapBody_withStore _ R M]
  rfl

theorem withStore_crumb (src code block : Nat) :
    (crumb src code block s).withStore R M = crumb src code block (s.withStore R M) := by
  unfold crumb
  rw [← withStore_recTrigger]
  refine withStore_ite (withStore_snapMissed _ R M src) ?_
  rw [snap_withStore]
  split
  · rfl
  · refine withStore_ite (withStore_snapMissed _ R M src) ?_
    rw [← withStore_snapLatch]
    exact withStore_ite rfl rfl

/-! ### Causes and uncorrectable errors -/

theorem withStore_recordCause (c : Cause) : (recordCause c s).withStore R M = recordCause c (s.withStore R M) :=
  withStore_ite rfl rfl

theorem withStore_holdCause (c : Cause) : (holdCause c s).withStore R M = holdCause c (s.withStore R M) := by
  unfold holdCause
  rw [← withStore_recordCause, ← withStore_abandonAllTests]
  generalize abandonAllTests (recordCause c s) = t
  refine withStore_ite rfl ?_
  rw [modes_withStore]
  split
  · rfl
  · exact withStore_ite rfl rfl

theorem withStore_raiseHold (c : Cause) : (raiseHold c s).withStore R M = raiseHold c (s.withStore R M) := by
  unfold raiseHold
  rw [← withStore_holdCause, ← withStore_crumb]
  exact withStore_ite rfl rfl

theorem withStore_uncorrectable (addr logReq index : Nat) :
    (uncorrectable addr logReq index s).withStore R M = uncorrectable addr logReq index (s.withStore R M) :=
  withStore_ite (withStore_logMemError _ R M 3 2 logReq 0 addr) <|
    withStore_ite (withStore_logMemError _ R M 1 2 logReq 0 addr) <|
      withStore_ite ((withStore_raiseHold _ R M _).trans (congrArg _ (withStore_logMemError _ R M 2 2 logReq 0 addr)))
        (withStore_logMemError _ R M 2 2 logReq 0 addr)

/-! ### What follows a completion -/

theorem withStore_completionIrq (r : Nat) (d : Desc) :
    (completionIrq r d s).withStore R M = completionIrq r d (s.withStore R M) :=
  withStore_ite rfl (withStore_ite (withStore_ite (withStore_irq s R M r) rfl) rfl)

theorem withStore_countOutcome (r outcome reason : Nat) :
    (countOutcome r outcome reason s).withStore R M = countOutcome r outcome reason (s.withStore R M) :=
  withStore_countWhen (withStore_countWhen (withStore_countWhen (withStore_countWhen (withStore_countWhen (withStore_countWhen
    rfl ..) ..) ..) ..) ..) ..

end

end Sys2Proof.Machine
end

section
/-!
The register cells that the end of a service reads: those of the mode, of the clocks' qualification and of the rings. The beats and
an error that ends them leave these cells, so a ring that did not stand still does not, and its completion goes where it would have.
-/
namespace Sys2Proof.Machine

/-- The cells of `SYS_MODE.CUR`, of `CLK_STATUS`, and of the rings' registers. -/
def serviceCell (k : Nat) : Bool :=
  decide (k = SYS_MODE.CUR.key 0) || decide (k / 32 = CLK_STATUS.reg.base)
    || (decide (DMA_RING_CFG.reg.base ≤ k / 32) && decide (k / 32 < SNP_STATUS.reg.base))

/-- Between two states those cells are the same. -/
def SameServiceCells (s t : State) : Prop := ∀ k, serviceCell k = true → lookup t.regs k = lookup s.regs k

theorem SameServiceCells.refl (s : State) : SameServiceCells s s := fun _ _ => rfl

theorem SameServiceCells.trans {s t u : State} (h : SameServiceCells s t) (h' : SameServiceCells t u) : SameServiceCells s u :=
  fun k hk => (h' k hk).trans (h k hk)

theorem SameServiceCells.rd {s t : State} (h : SameServiceCells s t) {f : Fld} {i : Nat} (hf : serviceCell (f.key i) = true) :
    t.rd f i = s.rd f i := by
  rw [State.rd, State.rd, h _ hf]

/-! ### What is read from them -/

theorem serviceCell_ring {f : Fld} {r : Nat} (hr : r < 32)
    (hf : f ∈ [DMA_RING_CFG.TRANSLATE, DMA_RING_CFG.SIZE, DMA_RING_DBASE.BASE, DMA_RING_CBASE.BASE]) :
    serviceCell (f.key r) = true := by
  have haddr : DMA_RING_CFG.reg.base ≤ f.key r / 32 ∧ f.key r / 32 < SNP_STATUS.reg.base := by
    simp only [List.mem_cons, List.not_mem_nil, or_false] at hf
    rcases hf with rfl | rfl | rfl | rfl <;>
      simp [Fld.key, Fld.addr, DMA_RING_CFG.TRANSLATE, DMA_RING_CFG.SIZE, DMA_RING_DBASE.BASE, DMA_RING_CBASE.BASE,
        DMA_RING_CFG.reg, SNP_STATUS.reg] <;> omega
  simp [serviceCell, haddr]

section
variable {s t : State} (h : SameServiceCells s t) {r : Nat} (hr : r < 32)
include h hr

theorem SameServiceCells.ringSize : t.ringSize r = s.ringSize r := by
  rw [State.ringSize, h.rd (serviceCell_ring hr (by simp)), State.ringSize]

theorem SameServiceCells.doneArray : t.doneArray r = s.doneArray r := by
  rw [State.doneArray, h.rd (serviceCell_ring hr (by simp)), State.doneArray]

theorem SameServiceCells.descArray : t.descArray r = s.descArray r := by
  rw [State.descArray, h.rd (serviceCell_ring hr (by simp)), State.descArray]

theorem SameServiceCells.ringTranslates : t.ringTranslates r = s.ringTranslates r := by
  rw [State.ringTranslates, State.flag, h.rd (serviceCell_ring hr (by simp)), ← State.flag, State.ringTranslates]

theorem SameServiceCells.ringStands : t.ringStands r = s.ringStands r := by
  have hmode : t.mode = s.mode := congrArg Mode.ofCode (h.rd (by decide))
  have hmdllA : t.mdllA = s.mdllA := congrArg (fun v : Nat => decide (v = 1)) (h.rd (by decide))
  have hmdllB : t.mdllB = s.mdllB := congrArg (fun v : Nat => decide (v = 1)) (h.rd (by decide))
  rw [State.ringStands, hmdllA, hmdllB, hmode, h.descArray hr, h.doneArray hr, h.ringSize hr, State.ringStands]

end

/-! ### Operations that leave them -/

theorem serviceCell_sopTest {f : Fld} {o : Nat} (ho : o < 72)
    (hf : f ∈ [SOP_CH_TEST.GEN, SOP_CH_TEST.VALID, SOP_CH_TEST.KIND, SOP_CH_TEST.RESULT, SOP_CH_CNT.ABANDON]) :
    serviceCell (f.key o) = false := by
  have haddr : f.key o / 32 = f.base + 16 * o ∧ f.base / 16 = 0x4100 := by
    simp only [List.mem_cons, List.not_mem_nil, or_false] at hf
    rcases hf with rfl | rfl | rfl | rfl | rfl <;>
      simp [Fld.key, Fld.addr, SOP_CH_TEST.GEN, SOP_CH_TEST.VALID, SOP_CH_TEST.KIND, SOP_CH_TEST.RESULT, SOP_CH_CNT.ABANDON] <;>
      omega
  have hmode : SYS_MODE.CUR.key 0 = 128 := by decide
  simp only [serviceCell, Bool.or_eq_false_iff, Bool.and_eq_false_iff, decide_eq_false_iff_not]
  simp only [hmode, CLK_STATUS.reg, DMA_RING_CFG.reg, SNP_STATUS.reg]
  omega

section
variable {k : Nat} (hk : serviceCell k = true)
include hk

theorem wr_serviceCell (s : State) (f : Fld) (v i : Nat) (h : serviceCell (f.key i) = false) :
    lookup (s.wr f v i).regs k = lookup s.regs k := by
  refine lookup_insert_ne _ _ fun heq => ?_
  rw [heq, hk] at h
  exact absurd h (by decide)

theorem irq_serviceCell (v : Nat) (s : State) : lookup (irq v s).regs k = lookup s.regs k := by
  unfold irq
  dsimp only
  split <;> simp +decide [wr_serviceCell hk]

theorem logMemError_serviceCell (mem kind req syms addr : Nat) (s : State) :
    lookup (logMemError mem kind req syms addr s).regs k = lookup s.regs k := by
  unfold logMemError
  rw [irq_serviceCell hk]
  split
  · rfl
  · simp +decide [count_eq_wr, wr_serviceCell hk]

theorem correctedRead_serviceCell (addr logReq syms : Nat) (s : State) :
    lookup (correctedRead addr logReq syms s).regs k = lookup s.regs k := by
  unfold correctedRead
  split
  · simp +decide [count_eq_wr, wr_serviceCell hk]
  · split <;> simp +decide [count_eq_wr, logMemError_serviceCell, wr_serviceCell hk, hk]

theorem outTestFinish_serviceCell {o : Nat} (ho : o < 72) (kind result : Nat) (next : OutTestKind) (s : State) :
    lookup (outTestFinish o kind result next s).regs k = lookup s.regs k := by
  simp [outTestFinish, State.modChan, inc_eq_wr, wrFlag_eq_wr, wr_serviceCell hk, serviceCell_sopTest ho]

theorem outTestAbandon_serviceCell (demand : Bool) {o : Nat} (ho : o < 72) (s : State) :
    lookup (outTestAbandon demand o s).regs k = lookup s.regs k := by
  have hcount : ∀ t : State, lookup (t.count SOP_CH_CNT.ABANDON o).regs k = lookup t.regs k := fun t =>
    wr_serviceCell hk _ _ _ _ (serviceCell_sopTest ho (by simp))
  unfold outTestAbandon
  split
  case h_1 => rfl
  case h_2 => split <;> rfl
  all_goals simp [State.modChan, hcount, outTestFinish_serviceCell hk ho]

theorem abandonAllTests_serviceCell (s : State) : lookup (abandonAllTests s).regs k = lookup s.regs k := by
  have hupTo : ∀ n ≤ 72, lookup (s.upTo (outTestAbandon false) n).regs k = lookup s.regs k := by
    intro n hn
    induction n with
    | zero => rfl
    | succ n ih => rw [State.upTo, outTestAbandon_serviceCell hk false (by omega), ih (by omega)]
  exact hupTo 72 (Nat.le_refl _)

theorem recTrigger_serviceCell (s : State) : lookup (recTrigger s).regs k = lookup s.regs k := by
  unfold recTrigger recPost recFreeze
  repeat' split
  all_goals simp +decide [wrFlag_eq_wr, wr_serviceCell hk]

theorem snapMissed_serviceCell (src : Nat) (s : State) : lookup (snapMissed src s).regs k = lookup s.regs k := by
  simp +decide [snapMissed, irq_serviceCell hk, State.wrTime, count_eq_wr, wr_serviceCell hk]

theorem snapMerge_serviceCell (first src code block : Nat) (s : State) :
    lookup (snapMerge first src code block s).regs k = lookup s.regs k := by
  simp +decide [snapMerge, wrFlag_eq_wr, wr_serviceCell hk]

theorem snapLatch_serviceCell (src code block : Nat) (merged : Bool) (s : State) :
    lookup (snapLatch src code block merged s).regs k = lookup s.regs k := by
  simp +decide [snapLatch, irq_serviceCell hk, wrFlag_eq_wr, inc_eq_wr, wr_serviceCell hk]

theorem crumb_serviceCell (src code block : Nat) (s : State) : lookup (crumb src code block s).regs k = lookup s.regs k := by
  unfold crumb
  dsimp only
  repeat' split
  all_goals simp [recTrigger_serviceCell hk, snapMissed_serviceCell hk, snapMerge_serviceCell hk, snapLatch_serviceCell hk]

theorem writeLast_serviceCell (c : Cause) (s : State) : lookup (writeLast c s).regs k = lookup s.regs k := by
  simp +decide [writeLast, writeCauseRecord, State.wrTime, wrFlag_eq_wr, wr_serviceCell hk]

theorem writeHold_serviceCell (c : Cause) (s : State) : lookup (writeHold c s).regs k = lookup s.regs k := by
  simp +decide [writeHold, writeCauseRecord, State.wrTime, wrFlag_eq_wr, wr_serviceCell hk]

theorem recordCause_serviceCell {c : Cause} (hc : c.code < 64) (s : State) :
    lookup (recordCause c s).regs k = lookup s.regs k := by
  have hbit : lookup (setCauseBit c.code s).regs k = lookup s.regs k := by
    have hword : c.code / 32 = 0 ∨ c.code / 32 = 1 := by omega
    refine wr_serviceCell hk _ _ _ _ ?_
    rcases hword with h | h <;> rw [h] <;> decide
  unfold recordCause
  dsimp only
  split
  · exact hbit
  · exact (writeLast_serviceCell hk _ _).trans hbit

theorem holdCause_serviceCell {c : Cause} (hc : c.code < 64) (s : State) : lookup (holdCause c s).regs k = lookup s.regs k := by
  unfold holdCause
  dsimp only
  refine Eq.trans ?_ ((abandonAllTests_serviceCell hk _).trans (recordCause_serviceCell hk hc s))
  generalize abandonAllTests (recordCause c s) = t
  have hnote : lookup (noteHold c t).regs k = lookup t.regs k := writeHold_serviceCell hk c t
  split
  · rfl
  · split
    · exact hnote
    · split
      · exact hnote
      · rfl

theorem raiseHold_serviceCell {c : Cause} (hc : c.code < 64) (s : State) : lookup (raiseHold c s).regs k = lookup s.regs k := by
  unfold raiseHold
  split
  · rfl
  · rw [crumb_serviceCell hk, holdCause_serviceCell hk hc]

theorem ringCorrected_serviceCell (r : Nat) (found : List (Word × Fin 8)) (parts : List (Nat × Nat)) (s : State) :
    lookup (ringCorrected r found parts s).1.regs k = lookup s.regs k := by
  have heach : ∀ (hits : List (Word × Fin 8)) (t : State),
      lookup (State.each (fun c s => correctedRead c.1.toNat r c.2.val s) hits t).regs k = lookup t.regs k := by
    intro hits
    induction hits with
    | nil => exact fun _ => rfl
    | cons c hits ih => exact fun t => (ih _).trans (correctedRead_serviceCell hk ..)
  exact heach ..

end

theorem uncorrectable_sameServiceCells (addr logReq index : Nat) (s : State) :
    SameServiceCells s (uncorrectable addr logReq index s) := by
  intro k hk
  unfold uncorrectable
  repeat' split
  all_goals simp +decide [raiseHold_serviceCell hk, logMemError_serviceCell hk, count_eq_wr, wr_serviceCell hk]

end Sys2Proof.Machine
end

section
/-!
A service of an untranslated ring, for both values of PREEMPTED at once (R410 to R415): what its descriptor reports goes along with
the descriptor to its completion, and shows nowhere else.
-/
namespace Sys2Proof.Machine

/-! ### The record of a ring -/

theorem insert_insert {α : Type} (t : Tab α) (k : Nat) (v w : α) : insert (insert t k v) k w = insert t k w := by
  induction t with
  | nil => simp [insert]
  | cons p t ih =>
    obtain ⟨k', v'⟩ := p
    by_cases heq : k' = k
    · simp [insert, heq]
    · by_cases hlt : k < k'
      · simp [insert, heq, hlt]
      · simp [insert, heq, hlt, ih]

theorem tmod_tmod {α : Type} [Inhabited α] (t : Tab α) (k : Nat) (f g : α → α) :
    tmod (tmod t k f) k g = tmod t k (fun x => g (f x)) := by
  rw [tmod, tget_tmod_same, tmod, insert_insert, tmod]

/-- The ring's record with a descriptor in place of the one at its head. -/
def Ring.putHead (d : Desc) (g : Ring) : Ring := { g with queue := d :: g.queue.tail }

/-- What a completion does to the ring's record. -/
def Ring.completed (tick : Nat) (g : Ring) : Ring :=
  { g with queue := g.queue.tail, doneCount := g.doneCount + 1, doneTick := tick }

/-! ### The beats -/

theorem moveBeats_marked (r : Nat) (d : Desc) (goal : Nat) (v : Service) (p : Bool) (fuel pos : Nat) (a b : Nat × Nat) (s : State) :
    moveBeats r (d.marked p) goal { v with preempted := p } fuel pos a b s = moveBeats r d goal v fuel pos a b s := by
  induction fuel generalizing pos a b s with
  | zero => rfl
  | succ n ih =>
    simp only [moveBeats, ih]
    rfl

theorem sideAt_untranslated {r : Nat} {s : State} (h : s.ringTranslates r = false) (space : Nat) (write : Bool) (addr : Nat)
    (here : Nat × Nat) : ∃ pa room, sideAt r space write addr here s = (s, .ok pa room) := by
  unfold sideAt
  rw [h]
  split
  · exact ⟨_, _, rfl⟩
  · split
    · exact ⟨_, _, rfl⟩
    · exact ⟨_, _, rfl⟩

theorem when_memWrite (s : State) (b : Bool) (a : Nat) (bs : List Nat) :
    ∃ M, s.when b (fun s => s.memWrite a bs) = { s with mem := M } := by
  cases b
  · exact ⟨s.mem, rfl⟩
  · exact ⟨_, rfl⟩

/-- Beats at untranslated addresses meet no fault and change device memory alone. -/
theorem moveBeats_untranslated {r : Nat} {s : State} (h : s.ringTranslates r = false) (d : Desc) (goal : Nat) (v : Service)
    (fuel pos : Nat) (a b : Nat × Nat) :
    ∃ M, (moveBeats r d goal v fuel pos a b s).1 = { s with mem := M } ∧ (moveBeats r d goal v fuel pos a b s).2.stop = none := by
  induction fuel generalizing pos a b s with
  | zero => exact ⟨s.mem, rfl, rfl⟩
  | succ n ih =>
    obtain ⟨pa, ra, hsrc⟩ := sideAt_untranslated h (srcSpace d.ctrl) false (d.src + pos) a
    obtain ⟨pb, rb, hdst⟩ := sideAt_untranslated h (dstSpace d.ctrl) true (d.dst + pos) b
    unfold moveBeats
    split
    · exact ⟨s.mem, rfl, rfl⟩
    · simp only [hsrc, hdst]
      obtain ⟨M, hwrite⟩ := when_memWrite s (decide (dstSpace d.ctrl = 0)) pb _
      rw [hwrite]
      exact ih (s := { s with mem := M }) h ..

/-- The beats of a descriptor lead to one state but for the descriptor at the head of the queue, which keeps its mark. -/
theorem ringMove_marked {r : Nat} {s : State} (h : s.ringTranslates r = false) (d : Desc) (v : Service) (goal : Nat) :
    ∃ u n corrected, SameServiceCells s u ∧ (s.mem.wf = true → u.mem.wf = true) ∧ ∀ p,
      ringMove r (d.marked p) { v with preempted := p } goal s
        = (u.modRing r (Ring.putHead (({ d with done := n, corrected := corrected } : Desc).marked p)),
          ({ d with done := n, corrected := corrected } : Desc).marked p, false) := by
  obtain ⟨M, hmem, hstop⟩ := moveBeats_untranslated h d goal v (goal - d.done + 1) d.done (0, 0) (0, 0)
  have hwf := moveBeats_wf r d goal v (goal - d.done + 1) d.done (0, 0) (0, 0) s
  generalize hmoved : (moveBeats r d goal v (goal - d.done + 1) d.done (0, 0) (0, 0) s).2 = m at hstop
  have hbeats : ∀ p, moveBeats r (d.marked p) goal { v with preempted := p } (goal - (d.marked p).done + 1) (d.marked p).done
      (0, 0) (0, 0) s = ({ s with mem := M }, m) := fun p => (moveBeats_marked ..).trans (Prod.ext hmem hmoved)
  rw [hmem] at hwf
  generalize hcorrected : ringCorrected r v.corrected m.parts { s with mem := M } = uc
  have hcells : SameServiceCells s uc.1 := fun k hk => hcorrected ▸ ringCorrected_serviceCell hk ..
  have hkept : uc.1.mem = M := hcorrected ▸ (ringCorrected_keeps ..).1
  refine ⟨meterBytes r (m.pos - d.done) (uc.1.when (!m.out.isEmpty) (fun s => s.emit (.portData r m.out))), m.pos,
    d.corrected || uc.2, fun k hk => ?_, fun hs => ?_, fun p => ?_⟩
  · rw [meterBytes, ← hcells k hk]
    simp [State.modRing]
  · rw [(meterBytes_keeps ..).1]
    simp [hkept, hwf hs]
  · unfold ringMove
    simp only [hbeats, hcorrected, hstop]
    rfl

/-! ### The end of the beats -/

/-- How the beats ended leads to one state, outcome and reason, whatever the ring's record holds. -/
theorem descFinish_marked {r : Nat} {u : State} (h : u.ringTranslates r = false) (d : Desc) (e : DescEnd) :
    ∃ w outcome reason, SameServiceCells u w ∧ ∀ p R,
      descFinish r (d.marked p) e (u.withStore R u.mem) = ringFinish r (d.marked p) outcome reason (w.withStore R u.mem) := by
  cases e with
  | all =>
    cases hlate : d.late with
    | none => exact ⟨u, onTime, 0, .refl u, fun p R => by simp only [descFinish, Desc.marked, hlate]⟩
    | some why => exact ⟨u, late, why, .refl u, fun p R => by simp only [descFinish, Desc.marked, hlate]⟩
  | memUncorr n write =>
    refine ⟨uncorrectable ((if write then d.dst else d.src) + d.done) r r u, aborted, reasonMemUncorr,
      uncorrectable_sameServiceCells _ _ _ u, fun p R => ?_⟩
    have haddr : ∀ a, (u.withStore R u.mem).deviceAddr r write a = a := fun a => by
      have htrans : (u.withStore R u.mem).ringTranslates r = false := h
      rw [State.deviceAddr, htrans]
      rfl
    simp only [descFinish, haddr, withStore_uncorrectable]
    rfl
  | walkUncorr n level2 =>
    exact ⟨uncorrectable
        (if level2 then u.entryAt2 (u.rd DMA_RING_CFG.DOM r) (if srcSpace d.ctrl = 0 then d.src + d.done else d.dst + d.done)
          else u.entryAt1 (u.rd DMA_RING_CFG.DOM r) (if srcSpace d.ctrl = 0 then d.src + d.done else d.dst + d.done))
        logReqWalk r u, aborted, reasonMemUncorr, uncorrectable_sameServiceCells _ _ _ u, fun p R =>
      congrArg (ringFinish r (d.marked p) aborted reasonMemUncorr) (withStore_uncorrectable u R u.mem _ _ _).symm⟩
  | portStop n => exact ⟨u, aborted, reasonMode, .refl u, fun _ _ => rfl⟩
  | link n => exact ⟨u, aborted, reasonLink, .refl u, fun _ _ => rfl⟩

/-! ### The completion -/

/-- TAIL and CDONE of ring `r` written (R411). -/
def tailWritten (r tail : Nat) (s : State) : State := (s.wr DMA_RING_TAIL.TAIL tail r).wr DMA_RING_TAIL.CDONE tail r

/-- The registers and the record of ring `r` as a completion leaves them: TAIL, PHASE where the array wraps, BUSY, the queue (R411). -/
def tailMovesOn (r tail : Nat) (wraps phase : Bool) (s : State) : State :=
  let s := (tailWritten r tail s).when wraps (fun s => s.wrFlag DMA_RING_STATE.PHASE (!phase) r)
  (s.wrFlag DMA_RING_STATE.BUSY false r).modRing r (Ring.completed s.ticks)

theorem tailMovesOn_withStore (r tail : Nat) (wraps phase : Bool) (s : State) (R : Tab Ring) (M : Mem) :
    tailMovesOn r tail wraps phase (s.withStore R M)
      = (tailMovesOn r tail wraps phase s).withStore (tmod R r (Ring.completed s.ticks)) M := by
  cases wraps <;> rfl

/-- What a completion does once its bytes are stored, but for a STOP that waited for it: the ring moves on, the outcome is counted, the
owner is told. -/
def afterCompletion (r : Nat) (d : Desc) (outcome reason : Nat) (s : State) : State :=
  let tail := (d.seq + 1) % s.ringWrap r
  completionIrq r d (countOutcome r outcome reason (tailMovesOn r tail
    (d.seq % s.ringSize r + 1 = (tailWritten r tail s).ringSize r) (s.flag DMA_RING_STATE.PHASE r) s))

/-- It takes the descriptor off the queue, and with it what the descriptor reported. -/
theorem afterCompletion_marked (r : Nat) (d : Desc) (outcome reason : Nat) (s : State) (R : Tab Ring) (M : Mem) (p : Bool) :
    afterCompletion r (d.marked p) outcome reason (s.withStore (tmod R r (Ring.putHead (d.marked p))) M)
      = (afterCompletion r d outcome reason s).withStore (tmod R r (Ring.completed s.ticks)) M := by
  rw [afterCompletion, tailMovesOn_withStore, ← withStore_countOutcome, ← withStore_completionIrq, tmod_tmod]
  rfl

theorem ringComplete_eq {r : Nat} {d : Desc} {s : State}
    (hregion : regionOk r true (s.doneArray r + 16 * (d.seq % s.ringSize r)) 16 = true) (outcome reason : Nat) :
    ringComplete r d outcome reason s = ringStopDue r (afterCompletion r d outcome reason
      (s.memWrite (s.doneArray r + 16 * (d.seq % s.ringSize r))
        (completionBytes d outcome reason (s.flag DMA_RING_STATE.PHASE r)))) := by
  rw [ringComplete, storeDone, if_pos hregion]
  generalize completionBytes d outcome reason (s.flag DMA_RING_STATE.PHASE r) = bs
  rfl

theorem ringStopDue_withStore_mem (r : Nat) (s : State) (R : Tab Ring) (M M' : Mem) :
    ringStopDue r (s.withStore R M') = { ringStopDue r (s.withStore R M) with mem := M' } := by
  have hring : ∀ M, ((s.withStore R M).ring r).stopping = (tget R r).stopping := fun _ => rfl
  rw [ringStopDue, ringStopDue, hring, hring]
  split <;> rfl

/-- What the descriptor that completes reports reaches nothing but its completion's 16 bytes. -/
theorem ringComplete_marked {r c : Nat} {d : Desc} {w : State} (hc : c = w.doneArray r + 16 * (d.seq % w.ringSize r))
    (hregion : regionOk r true c 16 = true) (outcome reason : Nat) (R : Tab Ring) (M : Mem) :
    ∃ (t : State) (phase : Bool), ∀ p,
      ringComplete r (d.marked p) outcome reason (w.withStore (tmod R r (Ring.putHead (d.marked p))) M)
        = { t with mem := M.writeBytes c (completionBytes (d.marked p) outcome reason phase) } := by
  subst hc
  refine ⟨ringStopDue r ((afterCompletion r d outcome reason w).withStore (tmod R r (Ring.completed w.ticks)) M),
    w.flag DMA_RING_STATE.PHASE r, fun p => ?_⟩
  rw [← ringStopDue_withStore_mem, ← afterCompletion_marked]
  exact ringComplete_eq (d := d.marked p) (s := w.withStore _ M) hregion outcome reason

/-! ### The service as a whole -/

theorem begin_marked {d : Desc} (hd : d.preempted = false) (r : Nat) (isOver : Bool) (v : Service) (p : Bool) :
    d.begin r isOver { v with preempted := p } = (d.begin r isOver v).marked p := by
  unfold Desc.begin Desc.marked
  dsimp only
  split <;> simp [hd]

theorem begin_seq (d : Desc) (r : Nat) (isOver : Bool) (v : Service) : (d.begin r isOver v).seq = d.seq := by
  unfold Desc.begin
  dsimp only
  split <;> rfl

/-- DELAY is fixed at the first beat. -/
theorem begin_delay (d : Desc) (r : Nat) (isOver : Bool) (v : Service) :
    (d.begin r isOver v).delay = if d.started then d.delay else v.delay := by
  unfold Desc.begin
  dsimp only
  split <;> rfl

/-- A service leads to one state but for the bytes of the completion, and there only the mark differs. -/
theorem ringServe_marked {r c : Nat} {s : State} {d : Desc} (hr : r < 32) (htrans : s.ringTranslates r = false)
    (hstands : s.ringStands r = false) (hc : c = s.doneArray r + 16 * (d.seq % s.ringSize r))
    (hregion : regionOk r true c 16 = true) (hd : d.preempted = false) (isOver : Bool) (v : Service) :
    ∃ (t : State) (M : Mem) (e : Desc) (outcome reason : Nat) (phase : Bool),
      (s.mem.wf = true → M.wf = true) ∧ e.delay = (if d.started then d.delay else v.delay) ∧ ∀ p,
        ringServe r d isOver { v with preempted := p } s
          = { t with mem := M.writeBytes c (completionBytes (e.marked p) outcome reason phase) } := by
  obtain ⟨u, n, corrected, hmoved, hwf, hmove⟩ :=
    ringMove_marked htrans (d.begin r isOver v) v (endLimit v.ending ((d.begin r isOver v).goal v))
  generalize he : ({ d.begin r isOver v with done := n, corrected := corrected } : Desc) = e at hmove
  obtain ⟨w, outcome, reason, hended, hfinish⟩ := descFinish_marked ((hmoved.ringTranslates hr).trans htrans) e v.ending
  have hcells : SameServiceCells s w := hmoved.trans hended
  have hseq : e.seq = d.seq := he ▸ begin_seq ..
  have hc' : c = w.doneArray r + 16 * (e.seq % w.ringSize r) := by rw [hc, hseq, hcells.doneArray hr, hcells.ringSize hr]
  obtain ⟨t, phase, hcomplete⟩ := ringComplete_marked hc' hregion outcome reason u.rings u.mem
  refine ⟨t, u.mem, e, outcome, reason, phase, hwf, he ▸ begin_delay .., fun p => ?_⟩
  have hgoal : ((d.begin r isOver v).marked p).goal { v with preempted := p } = (d.begin r isOver v).goal v := rfl
  have hstill : (w.withStore (tmod u.rings r (Ring.putHead (e.marked p))) u.mem).ringStands r = false :=
    (hcells.ringStands hr).trans hstands
  calc ringServe r d isOver { v with preempted := p } s
      = descFinish r (e.marked p) v.ending (u.withStore (tmod u.rings r (Ring.putHead (e.marked p))) u.mem) := by
        rw [ringServe, begin_marked hd, hgoal, hmove p]
        rfl
    _ = ringComplete r (e.marked p) outcome reason (w.withStore (tmod u.rings r (Ring.putHead (e.marked p))) u.mem) := by
        rw [hfinish, ringFinish, hstill]
        rfl
    _ = _ := hcomplete p

end Sys2Proof.Machine
end

section
/-!
The arbiter and a descriptor without a rival (R412): DESCRIPTOR_COMPLETE serves the descriptor at the head of the ring, and nothing
else moves before it.
-/
namespace Sys2Proof.Machine

theorem anyUpTo_eq_false {p : Nat → Bool} {n : Nat} (h : ∀ i < n, p i = false) : anyUpTo p n = false := by
  induction n with
  | zero => rfl
  | succ n ih => rw [anyUpTo, ih (fun i hi => h i (by omega)), h n (Nat.lt_succ_self n)]; rfl

theorem filterUpTo_eq_nil {p : Nat → Bool} {n : Nat} (h : ∀ i < n, p i = false) : filterUpTo p n = [] := by
  rw [filterUpTo, List.filter_eq_nil_iff]
  intro i hi
  rw [h i (List.mem_range.mp hi)]
  decide

theorem rival_eq_false_of_shares {s : State} {r : Nat} {d : Desc} {q : Nat} (h : s.shares r d q = false) :
    s.rival r d q = false := by
  unfold State.shares at h
  unfold State.rival
  cases hq : decide (q ≠ r) with
  | false => rfl
  | true =>
    rw [hq] at h
    cases hs : s.inService q with
    | none => rfl
    | some e =>
      rw [hs] at h
      simp only [Bool.true_and] at h ⊢
      rw [Bool.and_assoc, h, Bool.and_false]

section
variable {r : Nat} {d : Desc} {s : State}

theorem HeadReady.queue (h : HeadReady r d s) : ∃ rest, (s.ring r).queue = d :: rest := by
  obtain ⟨-, hhead, -⟩ := h
  exact List.head?_eq_some_iff.mp hhead

theorem HeadReady.ringDrain (h : HeadReady r d s) : ringDrain r s = s := by
  obtain ⟨rest, hqueue⟩ := h.queue
  obtain ⟨-, -, hended, -, hdue, -, hstands⟩ := h
  simp only [Desc.ended, Bool.or_eq_false_iff, Option.isSome_eq_false_iff, Option.isNone_iff_eq_none] at hended
  obtain ⟨⟨hfinished, hrefuse⟩, habort⟩ := hended
  have hlate : ¬ (ringClass r = 3 ∧ s.overdue r d = true) := fun ⟨hclass, hover⟩ => by simp [hdue hclass] at hover
  rw [Machine.ringDrain, hstands, hqueue]
  simp [ringDrainDead, hqueue, hfinished, hrefuse, habort, hlate]

theorem HeadReady.inService (h : HeadReady r d s) : s.inService r = some d := by
  obtain ⟨rest, hqueue⟩ := h.queue
  obtain ⟨hrun, -, hended, -, hdue, hwaits, -⟩ := h
  have hlate : (decide (ringClass r = 3) && s.overdue r d) = false := by
    by_cases hclass : ringClass r = 3
    · simp [hdue hclass]
    · simp [hclass]
  simp [State.inService, hrun, hqueue, hended, hlate, hwaits]

theorem AtHead.descriptorComplete (h : AtHead r d s) (v : Service) :
    descriptorComplete r v s = ringServe r d (s.overBudget r) (s.fitService r d v) s.nextFree := by
  obtain ⟨hready, hshares⟩ := h
  have hrun : ¬ s.ringState r ≠ ringRun := not_not_intro hready.1
  have hrival : ∀ q < 32, s.rival r d q = false := fun q hq => rival_eq_false_of_shares (hshares q hq List.not_mem_nil)
  have hlost : anyUpTo (fun q => s.rival r d q && decide (ringClass q < ringClass r)) 32 = false :=
    anyUpTo_eq_false (fun q hq => by rw [hrival q hq]; rfl)
  rw [Machine.descriptorComplete, if_neg hrun, hready.ringDrain]
  simp only [hready.inService, arbitrate, hlost, Bool.and_false, Bool.or_false, grantRivals, filterUpTo_eq_nil hrival]
  rfl

end

theorem exec_descriptorComplete {r : Fin 32} {v : Service} (hwf : (Instr.descriptorComplete r v).wf = true) (s : State) :
    exec (.descriptorComplete r v) s = .next (descriptorComplete r v s) := by
  have hmeaning : exec (.descriptorComplete r v) s = checked (.descriptorComplete r v) (descriptorComplete r v s) := rfl
  rw [hmeaning, checked, if_pos hwf]

/-- DESCRIPTOR_COMPLETE with and without a pre-emption leads to one state but for the completion's bytes (R415). -/
theorem exec_descriptorComplete_marked {s : State} {r : Fin 32} {v : Service} {d : Desc} {c : Nat}
    (hwf : (Instr.descriptorComplete r v).wf = true) (hhead : AtHead r d s) (htrans : s.ringTranslates r = false)
    (hd : d.preempted = false) (hc : c = completionAt r d s) (hregion : regionOk r true c 16 = true) :
    ∃ (t : State) (mem : Bool → Mem) (M : Mem) (e : Desc) (outcome reason : Nat) (phase : Bool),
      (∀ p, exec (.descriptorComplete r { v with preempted := p }) s = .next { t with mem := mem p })
        ∧ (∀ p, mem p = M.writeBytes c (completionBytes (e.marked p) outcome reason phase))
        ∧ (s.mem.wf = true → M.wf = true) ∧ e.delay = if d.started then d.delay else (s.fitService r d v).delay := by
  obtain ⟨-, -, -, -, -, -, hstands⟩ := hhead.1
  obtain ⟨t, M, e, outcome, reason, phase, hmem, hdelay, hserve⟩ :=
    ringServe_marked (s := s.nextFree) r.isLt htrans hstands hc hregion hd (s.overBudget r) (s.fitService r d v)
  refine ⟨t, _, M, e, outcome, reason, phase, fun p => ?_, fun _ => rfl, hmem, hdelay⟩
  have hwf' : (Instr.descriptorComplete r { v with preempted := p }).wf = true := hwf
  rw [exec_descriptorComplete hwf', hhead.descriptorComplete, ← hserve p]
  rfl

end Sys2Proof.Machine

section
open Sys2Proof Sys2Proof.Machine

/-- Settles O60: both runs lead to one state but for the bytes of the completion, whose bit 4 of byte 12 alone tells them apart and
whose DELAY is that of the first beat. -/
theorem preemptionOnlyShows : Obligations.PreemptionOnlyShows := by
  intro s r v d c hwf hhead htrans hd hc hregion
  obtain ⟨t, mem, M, e, outcome, reason, phase, hexec, hmem, hform, hdelay⟩ :=
    exec_descriptorComplete_marked hwf hhead htrans hd hc hregion
  refine ⟨{ t with mem := mem false }, { t with mem := mem true }, hexec false, hexec true, rfl, ?_⟩
  dsimp only
  simp only [hmem]
  refine ⟨fun a ha => read_completionBytes_marked M c e outcome reason phase true false ha, fun hs => ?_⟩
  have hbit := fun p => bit_preempted_completionBytes M c (e.marked p) outcome reason phase (hform hs)
  have hshown := readBytes_delay_completionBytes M c (e.marked false) outcome reason phase (hform hs)
  have hfirst : (e.marked false).delay = if d.started then d.delay else (s.fitService r d v).delay := hdelay
  rw [hshown, hfirst]
  exact ⟨hbit false, hbit true, fun hstarted => by rw [hstarted, if_pos rfl],
    fun hstarted => by rw [hstarted, if_neg Bool.false_ne_true]⟩

end
end
